-- ==== Sys2Proof/Word.lean ====
section
/-! DEFINITION. Bytes, the numbers of zones, headers, groups and hold entries, and tables with a fixed number of entries. -/

namespace Sys2Proof

/-- One byte of a directive or reply frame (R166, R171). -/
abbrev Byte := BitVec 8

/-- A zone number, 0 to 31 (R1). -/
abbrev ZoneId := Fin 32
/-- A header number, 0 to 3. -/
abbrev HeaderId := Fin 4
/-- A group number, 0 to 7 (R6). -/
abbrev GroupId := Fin 8
/-- The number of a hold entry, 0 to 8 (R23). -/
abbrev EntryId := Fin 9

/-- All zones in ascending zone number. -/
def zoneIds : List ZoneId := List.finRange 32
/-- All groups in ascending group number. -/
def groupIds : List GroupId := List.finRange 8
/-- All headers in ascending header number. -/
def headerIds : List HeaderId := List.finRange 4
/-- All hold entries in entry-number order. -/
def entryIds : List EntryId := List.finRange 9

/-- The table whose entry `i` is `f i`. -/
def tabulate {α : Type} {n : Nat} (f : Fin n → α) : Vector α n :=
  ⟨⟨(List.finRange n).map f⟩, by simp⟩

end Sys2Proof
end

