-- ==== Sys2Proof/Config.lean ====
section
/-! DEFINITION. The limits the spec fixes for the part. The spec leaves no result of a command undefined, so there is no free value here
(log entry 22): what an installation chooses (straps, levels of inputs) is an operand of a command or a field of State. -/

namespace Sys2Proof.Config

/-- Greatest value of a volume account and modulus less one of a header total (R3, R55): 2^48 - 1. -/
def volumeTop : Nat := 281474976710655
/-- Greatest value of the 16-bit counts: time in state, soak timer, dry clock, slot age, P, round count, day count. -/
def countTop : Nat := 65535
/-- Greatest line-error count (R167). -/
def lineErrorTop : Nat := 255
/-- Longest notice queue (R182). -/
def noticeDepth : Nat := 16
/-- Longest reply queue (R169). -/
def replyDepth : Nat := 4
/-- Seconds from energising to the first drive-sense sample (R42). -/
def senseSeconds : Nat := 2
/-- Last second of a day (R91). -/
def lastSecond : Nat := 86399
/-- Last minute of a day (R6). -/
def lastMinute : Nat := 1439
/-- Greatest guard (R132). -/
def guardTop : Nat := 14400
/-- Greatest ceiling (R75). -/
def ceilingTop : Nat := 20000
/-- Greatest allotment (R91). -/
def allotmentTop : Nat := 100000000
/-- Start byte of a directive frame (R171). -/
def startByte : Byte := 0xC3#8
/-- Start byte of a reply frame (R171). -/
def replyStartByte : Byte := 0x3C#8
/-- Greatest length byte of a directive frame (R167, R171). -/
def frameLengthTop : Nat := 60
/-- Code byte of WITHDRAW (R171). -/
def withdrawCode : Byte := 0x61#8
/-- Longest rotation ring (R8). -/
def ringTop : Nat := 32
/-- Most entries of a manual run list (R114). -/
def manualTop : Nat := 8

end Sys2Proof.Config
end

