-- ==== Sys2Proof/Machine/Numbers.lean ====
section
/-! DEFINITION. Rounding, counts that saturate or wrap, and sums, as section 1.5 of the scope file names them. -/

namespace Sys2Proof

/-- Least integer not below `a / b` ("rounded up", section 1.5). -/
def ceilDiv (a b : Nat) : Nat := (a + (b - 1)) / b

/-- A count that saturates at `top`: `n` raised by `k`. -/
def satAdd (top n k : Nat) : Nat := min top (n + k)

/-- A count that wraps to 0 past `top`: `n` raised by `k`. -/
def wrapAdd (top n k : Nat) : Nat := (n + k) % (top + 1)

/-- The sum of `f` over a list. -/
def sumOver {α : Type} (l : List α) (f : α → Nat) : Nat := (l.map f).sum

end Sys2Proof
end

