-- ==== Sys2Proof/Syntax.lean ====
section
/-! DEFINITION. The commands: one constructor of Instr per row of spec/opcode_table.json. Events carry the zone, header or port
they happen at and the input levels they read; a directive row carries its port and the numbers its frame carries (R171). -/

namespace Sys2Proof

/-- The three ports (section 1.4). -/
inductive Port where
  | a | b | c
  deriving DecidableEq, Repr

/-- The four rights (R166). -/
inductive Right where
  | program | supply | climate | operate
  deriving DecidableEq, Repr

/-- A set of rights: one mark each (R166, R177). -/
structure Rights where
  program : Bool
  supply : Bool
  climate : Bool
  operate : Bool
  deriving DecidableEq, Repr

/-- The line rates (R166). -/
inductive LineRate where
  | r9600 | r19200 | r38400 | r57600
  deriving DecidableEq, Repr

/-- The levels of a port's six straps, true for a strap tied high (R166): xR0 to xR3, xB1 and xB0. -/
structure Straps where
  r0 : Bool
  r1 : Bool
  r2 : Bool
  r3 : Bool
  b1 : Bool
  b0 : Bool
  deriving DecidableEq, Repr

/-- The thirteen programme values as EDIT-ZONE carries them, before any range check (R1, R12). -/
structure ZoneFields where
  header : Nat
  group : Nat
  enabled : Nat
  flow : Nat
  fill : Nat
  closing : Nat
  quota : Nat
  cycles : Nat
  soak : Nat
  frostMember : Nat
  frostRank : Nat
  dwell : Nat
  maxDry : Nat
  deriving DecidableEq, Repr

/-- The six meter settings as SET-METER carries them (R71). -/
structure MeterFields where
  divisor : Nat
  weight : Nat
  interval : Nat
  tolerance : Nat
  strayThreshold : Nat
  checks : Nat
  deriving DecidableEq, Repr

/-- Five flows, one for the part and one per header, as DECLARE-SUPPLY and SET-FALLBACK carry them (R79, R83). -/
structure FlowFields where
  total : Nat
  h0 : Nat
  h1 : Nat
  h2 : Nat
  h3 : Nat
  deriving DecidableEq, Repr

/-- When the Supply Monitor takes a supply event (R87, R124): as an event by itself, or inside a selection, after `points` more of its points. The points
of a selection are the moment before each question and the moment between an answer FITS and the OPENING report that follows it (log entry 10). -/
inductive Taking where
  | atOnce
  | inSelection (points : Nat)
  deriving DecidableEq, Repr

/-- The order in which an interval expiry's events are taken: the visit progress report by the planner, the flow notice by the Notice Unit, and the lockout request
by the Valve Sequencer, which is sent after the notice and is taken at once or later, after other events (R45, R69, R133, R182; log entries 9 and 28). -/
inductive ExpiryOrder where
  /-- report, notice, request -/
  | progressFirst
  /-- notice, report, request -/
  | noticeFirst
  /-- notice, request, report -/
  | lockoutFirst
  /-- report, notice; the request later -/
  | lockoutLater
  /-- notice, report; the request later -/
  | noticeFirstLockoutLater
  deriving DecidableEq, Repr

/-- A directive of the catalogue (R171) with its parameters in field order. WITHDRAW is not among them: it never enters a
mailbox (R174). -/
inductive Directive where
  | readZone (zone : Nat)
  | readGroup (group : Nat)
  | readRing
  | readHeader (header : Nat)
  | readEngine
  | readClimate
  | readClock
  | readHolds
  | readPort
  | selectZones (field test : Nat)
  | fetchNotice
  | takeHold (entry : Nat)
  | releaseHold (entry : Nat)
  | editZone (zone : Nat) (fields : ZoneFields)
  | clearZone (zone : Nat)
  | setWindow (group start finish : Nat)
  | setRing (zones : List Nat)
  | setPeriod (length startMinute allotment : Nat)
  | setMeter (header : Nat) (fields : MeterFields)
  | declareSupply (flows : FlowFields) (validity : Nat)
  | setFallback (flows : FlowFields)
  | reportTemperature (temperature : Int)
  | armFrost
  | disarmFrost
  | setFrostLimits (arm disarm : Int) (thawHold timeout : Nat)
  | startQuota
  | stopQuota
  | runManual (entries : List (Nat × Nat))
  | cancelManual
  | pause
  | resume
  | shutdown
  | closeZone (zone : Nat)
  | clearLockout (zone : Nat)
  | breakHold (entry : Nat)
  | setClock (day second : Nat)
  | newPeriod
  | setOptions (mode fault supply frost plan : Nat)
  | narrowRights (program supply climate operate : Nat)
  deriving DecidableEq, Repr

/-- The commands of spec/opcode_table.json, in the table's order. -/
inductive Instr where
  /-- POWER_ON (R4): the straps of the three ports as read. -/
  | powerOn (strapsA strapsB strapsC : Straps)
  /-- RESET_ASSERTED (R53). -/
  | resetAsserted
  /-- RESET_RELEASED (R54): the straps of the three ports as read. -/
  | resetReleased (strapsA strapsB strapsC : Straps)
  /-- STOP_ASSERTED (R121). -/
  | stopAsserted
  /-- STOP_RELEASED (R121). -/
  | stopReleased
  /-- RAW_PULSE (R56): a rising edge on MP of the header. -/
  | rawPulse (h : HeaderId)
  /-- DRIVE_SENSE_FALL (R42): VS of the zone falls low. -/
  | driveSenseFall (z : ZoneId)
  /-- SENSE_TIMER_EXPIRY (R42): `high` is the level sampled on VS of the zone. -/
  | senseTimerExpiry (z : ZoneId) (high : Bool)
  /-- FILL_TIMER_EXPIRY (R39). -/
  | fillTimerExpiry (z : ZoneId)
  /-- CLOSE_TIMER_EXPIRY (R41). -/
  | closeTimerExpiry (z : ZoneId)
  /-- INTERVAL_TIMER_EXPIRY (R59). -/
  | intervalTimerExpiry (h : HeaderId) (order : ExpiryOrder)
  /-- VALIDITY_TIMER_EXPIRY (R81). -/
  | validityTimerExpiry (taking : Taking)
  /-- SECOND_ADVANCE (R92): one second passes. -/
  | secondAdvance
  /-- SLOT_EXPIRY (R144). -/
  | slotExpiry (p : Port)
  /-- THAW_HOLD_EXPIRY (R148). -/
  | thawHoldExpiry
  /-- GUARD_TIMER_EXPIRY (R134). -/
  | guardTimerExpiry (z : ZoneId)
  /-- SOAK_REACHED (R138). -/
  | soakReached (z : ZoneId)
  /-- DWELL_END (R162). -/
  | dwellEnd (z : ZoneId)
  /-- RUN_TIME_SPENT (R117). -/
  | runTimeSpent (z : ZoneId)
  /-- OVERDUE (R160). -/
  | overdue (z : ZoneId)
  /-- FRAME_COMPLETE (R168): the bytes of a whole frame after its start byte, received without a line error. -/
  | frameComplete (p : Port) (frame : List Byte)
  /-- SILENCE (R167). -/
  | silence (p : Port)
  /-- BREAK (R170): the straps of the port as read again. -/
  | lineBreak (p : Port) (straps : Straps)
  /-- TAKE_UP (R173). -/
  | takeUp
  /-- REPLY_SENT (R169). -/
  | replySent (p : Port)
  /-- READ_ZONE (R179). -/
  | readZone (p : Port) (zone : Nat)
  /-- READ_GROUP (R106). -/
  | readGroup (p : Port) (group : Nat)
  /-- READ_RING (R142). -/
  | readRing (p : Port)
  /-- READ_HEADER (R74). -/
  | readHeader (p : Port) (header : Nat)
  /-- READ_ENGINE (R125). -/
  | readEngine (p : Port)
  /-- READ_CLIMATE (R165). -/
  | readClimate (p : Port)
  /-- READ_CLOCK (R106). -/
  | readClock (p : Port)
  /-- READ_HOLDS (R36). -/
  | readHolds (p : Port)
  /-- READ_PORT (R178). -/
  | readPort (p : Port)
  /-- SELECT_ZONES (R180). -/
  | selectZones (p : Port) (field test : Nat)
  /-- FETCH_NOTICE (R185). -/
  | fetchNotice (p : Port)
  /-- TAKE_HOLD (R28). -/
  | takeHold (p : Port) (entry : Nat)
  /-- RELEASE_HOLD (R29). -/
  | releaseHold (p : Port) (entry : Nat)
  /-- EDIT_ZONE (R14). -/
  | editZone (p : Port) (zone : Nat) (fields : ZoneFields)
  /-- CLEAR_ZONE (R15). -/
  | clearZone (p : Port) (zone : Nat)
  /-- SET_WINDOW (R7). -/
  | setWindow (p : Port) (group start finish : Nat)
  /-- SET_RING (R10). -/
  | setRing (p : Port) (zones : List Nat)
  /-- SET_PERIOD (R103). -/
  | setPeriod (p : Port) (length startMinute allotment : Nat)
  /-- SET_METER (R72). -/
  | setMeter (p : Port) (header : Nat) (fields : MeterFields)
  /-- DECLARE_SUPPLY (R80). -/
  | declareSupply (p : Port) (flows : FlowFields) (validity : Nat) (taking : Taking)
  /-- SET_FALLBACK (R83). -/
  | setFallback (p : Port) (flows : FlowFields) (taking : Taking)
  /-- REPORT_TEMPERATURE (R145). -/
  | reportTemperature (p : Port) (temperature : Int)
  /-- ARM_FROST (R149). -/
  | armFrost (p : Port)
  /-- DISARM_FROST (R150). -/
  | disarmFrost (p : Port)
  /-- SET_FROST_LIMITS (R153). -/
  | setFrostLimits (p : Port) (arm disarm : Int) (thawHold timeout : Nat)
  /-- START_QUOTA (R112). -/
  | startQuota (p : Port)
  /-- STOP_QUOTA (R113). -/
  | stopQuota (p : Port)
  /-- RUN_MANUAL (R115). -/
  | runManual (p : Port) (entries : List (Nat × Nat))
  /-- CANCEL_MANUAL (R118). -/
  | cancelManual (p : Port)
  /-- PAUSE (R119). -/
  | pause (p : Port)
  /-- RESUME (R122). -/
  | resume (p : Port)
  /-- SHUTDOWN (R120). -/
  | shutdown (p : Port)
  /-- CLOSE_ZONE (R48). -/
  | closeZone (p : Port) (zone : Nat)
  /-- CLEAR_LOCKOUT (R47). -/
  | clearLockout (p : Port) (zone : Nat)
  /-- BREAK_HOLD (R31). -/
  | breakHold (p : Port) (entry : Nat)
  /-- SET_CLOCK (R94). -/
  | setClock (p : Port) (day second : Nat)
  /-- NEW_PERIOD (R101). -/
  | newPeriod (p : Port)
  /-- WITHDRAW (R174). -/
  | withdraw (p : Port)
  /-- SET_OPTIONS (R176). -/
  | setOptions (p : Port) (mode fault supply frost plan : Nat)
  /-- NARROW_RIGHTS (R177). -/
  | narrowRights (p : Port) (program supply climate operate : Nat)
  /-- CHARACTER_RECEIVED (R166, R167): the eight data bits, the parity bit and the stop bit. -/
  | characterReceived (p : Port) (data : Byte) (parity stop : Bool)
  /-- RECEIVE_LINE_RETURNS_HIGH (R170). -/
  | receiveLineReturnsHigh (p : Port)
  deriving DecidableEq, Repr

/-- The directive whose completion a directive row is, with its port; the other rows are events. -/
def Instr.directive : Instr → Option (Port × Directive)
  | .readZone p z => some (p, .readZone z)
  | .readGroup p g => some (p, .readGroup g)
  | .readRing p => some (p, .readRing)
  | .readHeader p h => some (p, .readHeader h)
  | .readEngine p => some (p, .readEngine)
  | .readClimate p => some (p, .readClimate)
  | .readClock p => some (p, .readClock)
  | .readHolds p => some (p, .readHolds)
  | .readPort p => some (p, .readPort)
  | .selectZones p f t => some (p, .selectZones f t)
  | .fetchNotice p => some (p, .fetchNotice)
  | .takeHold p e => some (p, .takeHold e)
  | .releaseHold p e => some (p, .releaseHold e)
  | .editZone p z f => some (p, .editZone z f)
  | .clearZone p z => some (p, .clearZone z)
  | .setWindow p g a b => some (p, .setWindow g a b)
  | .setRing p zs => some (p, .setRing zs)
  | .setPeriod p l m a => some (p, .setPeriod l m a)
  | .setMeter p h f => some (p, .setMeter h f)
  | .declareSupply p f v _ => some (p, .declareSupply f v)
  | .setFallback p f _ => some (p, .setFallback f)
  | .reportTemperature p t => some (p, .reportTemperature t)
  | .armFrost p => some (p, .armFrost)
  | .disarmFrost p => some (p, .disarmFrost)
  | .setFrostLimits p a d h t => some (p, .setFrostLimits a d h t)
  | .startQuota p => some (p, .startQuota)
  | .stopQuota p => some (p, .stopQuota)
  | .runManual p es => some (p, .runManual es)
  | .cancelManual p => some (p, .cancelManual)
  | .pause p => some (p, .pause)
  | .resume p => some (p, .resume)
  | .shutdown p => some (p, .shutdown)
  | .closeZone p z => some (p, .closeZone z)
  | .clearLockout p z => some (p, .clearLockout z)
  | .breakHold p e => some (p, .breakHold e)
  | .setClock p d s => some (p, .setClock d s)
  | .newPeriod p => some (p, .newPeriod)
  | .setOptions p m f s r n => some (p, .setOptions m f s r n)
  | .narrowRights p a b c d => some (p, .narrowRights a b c d)
  | .powerOn _ _ _ => none
  | .resetAsserted => none
  | .resetReleased _ _ _ => none
  | .stopAsserted => none
  | .stopReleased => none
  | .rawPulse _ => none
  | .driveSenseFall _ => none
  | .senseTimerExpiry _ _ => none
  | .fillTimerExpiry _ => none
  | .closeTimerExpiry _ => none
  | .intervalTimerExpiry _ _ => none
  | .validityTimerExpiry _ => none
  | .secondAdvance => none
  | .slotExpiry _ => none
  | .thawHoldExpiry => none
  | .guardTimerExpiry _ => none
  | .soakReached _ => none
  | .dwellEnd _ => none
  | .runTimeSpent _ => none
  | .overdue _ => none
  | .frameComplete _ _ => none
  | .silence _ => none
  | .lineBreak _ _ => none
  | .takeUp => none
  | .replySent _ => none
  | .withdraw _ => none
  | .characterReceived _ _ _ _ => none
  | .receiveLineReturnsHigh _ => none

end Sys2Proof
end

