-- ==== Sys2Proof/Decode.lean ====
section
/-! DEFINITION. From bytes to directives: the frame layout and the catalogue of R171, and back. No row of the opcode table has bits of its own,
so `decodeTableWord` answers nothing (log entry 19). -/

namespace Sys2Proof

/-- `n` in `w` bytes, most significant byte first (R171). -/
def natBytes : Nat → Nat → List Byte
  | 0, _ => []
  | w + 1, n => natBytes w (n / 256) ++ [BitVec.ofNat 8 n]

/-- The number whose bytes, most significant first, are given (R171). -/
def bytesNat (bs : List Byte) : Nat := bs.foldl (fun acc b => acc * 256 + b.toNat) 0

/-- A signed number in `w` bytes, two's complement, most significant byte first (R171). -/
def intBytes (w : Nat) (v : Int) : List Byte := natBytes w (v % (256 ^ w : Nat)).toNat

/-- The signed number whose `w` bytes in two's complement spell `n` (R171). -/
def asSigned (w n : Nat) : Int := if 2 * n < 256 ^ w then (n : Int) else (n : Int) - (256 ^ w : Nat)

/-- The sum modulo 256 that a check byte must bring to 0 (R168, R171). -/
def byteSum (bs : List Byte) : Byte := bs.foldl (· + ·) 0#8

/-- Splits bytes into big-endian numbers of the given widths; `none` unless the widths use up the bytes exactly. -/
def splitWidths : List Nat → List Byte → Option (List Nat)
  | [], [] => some []
  | [], _ :: _ => none
  | w :: ws, bs =>
    if w ≤ bs.length then (splitWidths ws (bs.drop w)).map (bytesNat (bs.take w) :: ·) else none

/-- Lays numbers out in the given widths, one after the other. -/
def joinWidths : List Nat → List Nat → List Byte
  | w :: ws, v :: vs => natBytes w v ++ joinWidths ws vs
  | _, _ => []

/-- The code byte of a directive (R171). -/
def Directive.code : Directive → Nat
  | .readZone _ => 0x11
  | .readGroup _ => 0x12
  | .readRing => 0x13
  | .readHeader _ => 0x14
  | .readEngine => 0x15
  | .readClimate => 0x16
  | .readClock => 0x17
  | .readHolds => 0x18
  | .readPort => 0x19
  | .selectZones _ _ => 0x1A
  | .fetchNotice => 0x1B
  | .takeHold _ => 0x21
  | .releaseHold _ => 0x22
  | .editZone _ _ => 0x23
  | .clearZone _ => 0x24
  | .setWindow _ _ _ => 0x25
  | .setRing _ => 0x26
  | .setPeriod _ _ _ => 0x27
  | .setMeter _ _ => 0x28
  | .declareSupply _ _ => 0x31
  | .setFallback _ => 0x32
  | .reportTemperature _ => 0x41
  | .armFrost => 0x42
  | .disarmFrost => 0x43
  | .setFrostLimits _ _ _ _ => 0x44
  | .startQuota => 0x51
  | .stopQuota => 0x52
  | .runManual _ => 0x53
  | .cancelManual => 0x54
  | .pause => 0x55
  | .resume => 0x56
  | .shutdown => 0x57
  | .closeZone _ => 0x58
  | .clearLockout _ => 0x59
  | .breakHold _ => 0x5A
  | .setClock _ _ => 0x5B
  | .newPeriod => 0x5C
  | .setOptions _ _ _ _ _ => 0x62
  | .narrowRights _ _ _ _ => 0x63

/-- The right a code byte requires (R171); `none` for a code outside the catalogue, `some none` where no right is required. -/
def codeRight (code : Nat) : Option (Option Right) :=
  if 0x11 ≤ code ∧ code ≤ 0x1B then some none
  else if 0x21 ≤ code ∧ code ≤ 0x28 then some (some .program)
  else if 0x31 ≤ code ∧ code ≤ 0x32 then some (some .supply)
  else if 0x41 ≤ code ∧ code ≤ 0x44 then some (some .climate)
  else if 0x51 ≤ code ∧ code ≤ 0x5C then some (some .operate)
  else if 0x61 ≤ code ∧ code ≤ 0x63 then some none
  else none

/-- The right a directive requires (R171). -/
def Directive.right (d : Directive) : Option Right := (codeRight d.code).getD none

/-- Pairs of a zone number and a run time, as RUN-MANUAL lists them (R114). -/
def pairUp : List Nat → List (Nat × Nat)
  | z :: t :: rest => (z, t) :: pairUp rest
  | _ => []

/-- The parameter widths of EDIT-ZONE after its zone number (R171). -/
def editWidths : List Nat := [1, 1, 1, 2, 2, 1, 3, 1, 2, 1, 1, 2, 2]

/-- The directive that a code byte and its parameter bytes spell; `none` where the parameters are wrong for the code (R168 step 4), or
the code is none of a directive that can enter a mailbox. -/
def parseDirective (code : Nat) (ps : List Byte) : Option Directive :=
  match code with
  | 0x11 => match splitWidths [1] ps with | some [z] => some (.readZone z) | _ => none
  | 0x12 => match splitWidths [1] ps with | some [g] => some (.readGroup g) | _ => none
  | 0x13 => match ps with | [] => some .readRing | _ => none
  | 0x14 => match splitWidths [1] ps with | some [h] => some (.readHeader h) | _ => none
  | 0x15 => match ps with | [] => some .readEngine | _ => none
  | 0x16 => match ps with | [] => some .readClimate | _ => none
  | 0x17 => match ps with | [] => some .readClock | _ => none
  | 0x18 => match ps with | [] => some .readHolds | _ => none
  | 0x19 => match ps with | [] => some .readPort | _ => none
  | 0x1A => match splitWidths [1, 1] ps with | some [f, t] => some (.selectZones f t) | _ => none
  | 0x1B => match ps with | [] => some .fetchNotice | _ => none
  | 0x21 => match splitWidths [1] ps with | some [e] => some (.takeHold e) | _ => none
  | 0x22 => match splitWidths [1] ps with | some [e] => some (.releaseHold e) | _ => none
  | 0x23 =>
    match splitWidths (1 :: editWidths) ps with
    | some [z, h, g, en, q, f, c, qu, cy, so, fm, fr, dw, md] =>
      some (.editZone z ⟨h, g, en, q, f, c, qu, cy, so, fm, fr, dw, md⟩)
    | _ => none
  | 0x24 => match splitWidths [1] ps with | some [z] => some (.clearZone z) | _ => none
  | 0x25 => match splitWidths [1, 2, 2] ps with | some [g, a, b] => some (.setWindow g a b) | _ => none
  | 0x26 =>
    match ps with
    | n :: zs => if n.toNat ≤ Config.ringTop ∧ zs.length = n.toNat then some (.setRing (zs.map (·.toNat))) else none
    | [] => none
  | 0x27 => match splitWidths [1, 2, 4] ps with | some [l, m, a] => some (.setPeriod l m a) | _ => none
  | 0x28 =>
    match splitWidths [1, 1, 2, 1, 1, 2, 1] ps with
    | some [h, d, w, i, t, s, c] => some (.setMeter h ⟨d, w, i, t, s, c⟩)
    | _ => none
  | 0x31 =>
    match splitWidths [2, 2, 2, 2, 2, 2] ps with
    | some [t, a, b, c, d, v] => some (.declareSupply ⟨t, a, b, c, d⟩ v)
    | _ => none
  | 0x32 =>
    match splitWidths [2, 2, 2, 2, 2] ps with
    | some [t, a, b, c, d] => some (.setFallback ⟨t, a, b, c, d⟩)
    | _ => none
  | 0x41 => match splitWidths [2] ps with | some [t] => some (.reportTemperature (asSigned 2 t)) | _ => none
  | 0x42 => match ps with | [] => some .armFrost | _ => none
  | 0x43 => match ps with | [] => some .disarmFrost | _ => none
  | 0x44 =>
    match splitWidths [1, 1, 2, 2] ps with
    | some [a, d, h, t] => some (.setFrostLimits (asSigned 1 a) (asSigned 1 d) h t)
    | _ => none
  | 0x51 => match ps with | [] => some .startQuota | _ => none
  | 0x52 => match ps with | [] => some .stopQuota | _ => none
  | 0x53 =>
    match ps with
    | n :: es => (splitWidths (List.replicate n.toNat [1, 2]).flatten es).map fun vs => .runManual (pairUp vs)
    | [] => none
  | 0x54 => match ps with | [] => some .cancelManual | _ => none
  | 0x55 => match ps with | [] => some .pause | _ => none
  | 0x56 => match ps with | [] => some .resume | _ => none
  | 0x57 => match ps with | [] => some .shutdown | _ => none
  | 0x58 => match splitWidths [1] ps with | some [z] => some (.closeZone z) | _ => none
  | 0x59 => match splitWidths [1] ps with | some [z] => some (.clearLockout z) | _ => none
  | 0x5A => match splitWidths [1] ps with | some [e] => some (.breakHold e) | _ => none
  | 0x5B => match splitWidths [2, 3] ps with | some [d, s] => some (.setClock d s) | _ => none
  | 0x5C => match ps with | [] => some .newPeriod | _ => none
  | 0x62 =>
    match splitWidths [1, 1, 1, 1, 1] ps with
    | some [m, f, s, r, n] => some (.setOptions m f s r n)
    | _ => none
  | 0x63 =>
    match splitWidths [1, 1, 1, 1] ps with
    | some [a, b, c, d] => some (.narrowRights a b c d)
    | _ => none
  | _ => none

/-- The thirteen fields in index order (R1). -/
def ZoneFields.values (f : ZoneFields) : List Nat :=
  [f.header, f.group, f.enabled, f.flow, f.fill, f.closing, f.quota, f.cycles, f.soak, f.frostMember, f.frostRank, f.dwell, f.maxDry]

/-- The parameter bytes of a directive (R171). -/
def Directive.params : Directive → List Byte
  | .readZone z => natBytes 1 z
  | .readGroup g => natBytes 1 g
  | .readHeader h => natBytes 1 h
  | .selectZones f t => joinWidths [1, 1] [f, t]
  | .takeHold e => natBytes 1 e
  | .releaseHold e => natBytes 1 e
  | .editZone z f => joinWidths (1 :: editWidths) (z :: f.values)
  | .clearZone z => natBytes 1 z
  | .setWindow g a b => joinWidths [1, 2, 2] [g, a, b]
  | .setRing zs => natBytes 1 zs.length ++ zs.map (BitVec.ofNat 8)
  | .setPeriod l m a => joinWidths [1, 2, 4] [l, m, a]
  | .setMeter h f => joinWidths [1, 1, 2, 1, 1, 2, 1] [h, f.divisor, f.weight, f.interval, f.tolerance, f.strayThreshold, f.checks]
  | .declareSupply f v => joinWidths [2, 2, 2, 2, 2, 2] [f.total, f.h0, f.h1, f.h2, f.h3, v]
  | .setFallback f => joinWidths [2, 2, 2, 2, 2] [f.total, f.h0, f.h1, f.h2, f.h3]
  | .reportTemperature t => intBytes 2 t
  | .setFrostLimits a d h t => intBytes 1 a ++ intBytes 1 d ++ natBytes 2 h ++ natBytes 2 t
  | .runManual es => natBytes 1 es.length ++ (es.map fun e => natBytes 1 e.1 ++ natBytes 2 e.2).flatten
  | .closeZone z => natBytes 1 z
  | .clearLockout z => natBytes 1 z
  | .breakHold e => natBytes 1 e
  | .setClock d s => joinWidths [2, 3] [d, s]
  | .setOptions m f s r n => joinWidths [1, 1, 1, 1, 1] [m, f, s, r, n]
  | .narrowRights a b c d => joinWidths [1, 1, 1, 1] [a, b, c, d]
  | .readRing | .readEngine | .readClimate | .readClock | .readHolds | .readPort | .fetchNotice => []
  | .armFrost | .disarmFrost | .startQuota | .stopQuota | .cancelManual => []
  | .pause | .resume | .shutdown | .newPeriod => []

/-- Length byte, code byte, parameters and check byte: what follows the start byte of a directive frame (R171). -/
def frameBytes (code : Byte) (ps : List Byte) : List Byte :=
  let body := natBytes 1 (ps.length + 1) ++ code :: ps
  body ++ [-(byteSum body)]

/-- The frame that carries a directive, without its start byte. -/
def Directive.frame (d : Directive) : List Byte := frameBytes (BitVec.ofNat 8 d.code) d.params

/-- The WITHDRAW frame, without its start byte (R171, R174). -/
def withdrawFrame : List Byte := frameBytes Config.withdrawCode []

/-- The bytes after the start byte make one whole frame: a length byte of 1 to 60, that many bytes, and a check byte (R167). -/
def wholeFrame : List Byte → Bool
  | [] => false
  | len :: rest => decide (1 ≤ len.toNat ∧ len.toNat ≤ Config.frameLengthTop ∧ rest.length = len.toNat + 1)

/-- What the checks of R168 that look at the frame alone make of it. -/
inductive FrameContent where
  | badCheck
  | unknown
  | withdraw
  | malformed
  | directive (d : Directive)
  deriving DecidableEq, Repr

/-- The code byte of a frame, 0x00 where it has none (R171). -/
def frameCode : List Byte → Byte
  | _ :: code :: _ => code
  | _ => 0#8

/-- The parameter bytes of a frame: what stands between the code byte and the check byte. -/
def frameParams (frame : List Byte) : List Byte := (frame.drop 2).dropLast

/-- R168 steps 1 to 4 in their order. -/
def readFrame (frame : List Byte) : FrameContent :=
  if byteSum frame ≠ 0#8 then .badCheck
  else if codeRight (frameCode frame).toNat = none then .unknown
  else if frameCode frame = Config.withdrawCode ∧ frameParams frame = [] then .withdraw
  else
    match parseDirective (frameCode frame).toNat (frameParams frame) with
    | some d => .directive d
    | none => .malformed

/-- The rights a port's straps grant (R166). -/
def Straps.granted (x : Straps) : Rights := ⟨x.r0, x.r1, x.r2, x.r3⟩

/-- The line rate a port's straps give (R166). -/
def Straps.lineRate (x : Straps) : LineRate :=
  match x.b1, x.b0 with
  | false, false => .r9600
  | false, true => .r19200
  | true, false => .r38400
  | true, true => .r57600

/-- The letter of a port as a reply carries it (R171). -/
def Port.number : Port → Nat
  | .a => 0
  | .b => 1
  | .c => 2

/-- The command a word of the opcode table spells: no row of the table has bits, so none (log entry 19). -/
def decodeTableWord (_nbits _w : Nat) : Option Instr := none

end Sys2Proof
end

