-- ==== Sys2Proof/Machine/State.lean ====
section
/-! DEFINITION. The state of the part, block by block as section 1.1 of the scope file divides it, and its power-on values. Plain data. -/

namespace Sys2Proof.Machine

/-- The states of a valve channel (R37). -/
inductive Valve where
  | shut | opening | wet | closing
  deriving DecidableEq, Repr

/-- The purpose a channel was opened for (R37). -/
inductive UseTag where
  | quota | manual | frost
  deriving DecidableEq, Repr

/-- The kinds of lockout (R44). -/
inductive Lockout where
  | driveFault | noFlow | burst
  deriving DecidableEq, Repr

/-- Whether the first drive-sense sample has been made (R37, R42). -/
inductive SensePhase where
  | awaiting | watching
  deriving DecidableEq, Repr

/-- Visit status of a zone (R126, R127): NONE, OPEN, SUSPENDED. -/
inductive VisitStatus where
  | noVisit | openVisit | suspended
  deriving DecidableEq, Repr

/-- Why a channel's opening ended. The engine records it at the CLOSING report (R40, R117, R133, R162); it decides the close
cause and what becomes of the visit or the manual entry. -/
inductive Ending where
  /-- a quota visit reached its target (R134) -/
  | targetReached
  /-- a quota visit's guard ran out (R134) -/
  | guardExpired
  /-- the group's window closed (R137) -/
  | windowClosed
  /-- shed by the Supply Monitor (R86) -/
  | shed
  /-- SHUTDOWN or the stop line (R120, R121) -/
  | stop
  /-- a higher regime took over (R109) -/
  | preemption
  /-- the allotment was reached (R140) -/
  | allotmentReached
  /-- STOP-QUOTA (R113) -/
  | stopQuota
  /-- a period roll (R141) -/
  | periodRoll
  /-- CANCEL-MANUAL (R118) -/
  | cancelManual
  /-- a manual entry's run time was spent (R117) -/
  | runTimeSpent
  /-- a frost visit's dwell ran out (R162) -/
  | dwellEnd
  /-- a lockout request of the Meter Unit (R45) -/
  | lockout
  /-- CLOSE-ZONE (R48) -/
  | closeZone
  deriving DecidableEq, Repr

/-- The thirteen programme fields of a defined zone, in range (R1). -/
structure Programme where
  header : HeaderId
  group : GroupId
  enabled : Bool
  flow : Nat
  fill : Nat
  closing : Nat
  quota : Nat
  cycles : Nat
  soak : Nat
  frostMember : Bool
  frostRank : Nat
  dwell : Nat
  maxDry : Nat
  deriving DecidableEq, Repr

/-- A pending edit: a full programme, or CLEAR (R3, R16). -/
inductive PendingEdit where
  | edit (programme : Programme)
  | clear
  deriving DecidableEq, Repr

/-- Header and nominal flow of the programme a channel was last opened with (R46, R51, R76). -/
structure Opened where
  header : HeaderId
  flow : Nat
  deriving DecidableEq, Repr

/-- One zone: its programme, its live fields (R3), its valve channel (R37) and what the planners hold for it (R126, R155). -/
structure Zone where
  programme : Option Programme
  pendingEdit : Option PendingEdit
  valve : Valve
  energised : Bool
  useTag : Option UseTag
  lockout : Option Lockout
  fillTimer : Option Nat
  closeTimer : Option Nat
  senseTimer : Option Nat
  sensePhase : SensePhase
  timeInState : Nat
  opened : Option Opened
  /-- a lockout was set since the channel last left SHUT (R51) -/
  lockedSinceOpen : Bool
  /-- the engine's record of why the present or last opening ended (R117) -/
  endedBy : Option Ending
  quotaVolume : Nat
  manualVolume : Nat
  frostVolume : Nat
  lastPeriodVolume : Nat
  effectiveQuota : Nat
  cyclesRemaining : Nat
  visit : VisitStatus
  visitTarget : Option Nat
  visitVolume : Nat
  guardTimer : Option Nat
  soakTimer : Nat
  dryClock : Nat
  overdue : Bool
  admitted : Bool
  requiredFlow : Option Nat
  frostVisit : Bool
  dwellRemaining : Option Nat
  deriving DecidableEq, Repr

/-- A group record (R6) with the Night Clock's window flag (R91). -/
structure Group where
  start : Nat
  finish : Nat
  windowOpen : Bool
  deriving DecidableEq, Repr

/-- A hold entry (R23). -/
inductive Hold where
  | free
  | held (p : Port)
  | releasing (p : Port)
  deriving DecidableEq, Repr

/-- The direction of a deviation run (R55, R68). -/
inductive Direction where
  | low | high | stray
  deriving DecidableEq, Repr

/-- One meter channel (R55); `run` is the direction of a deviation run of length 1, absent at length 0. -/
structure Meter where
  divisor : Nat
  weight : Nat
  interval : Nat
  tolerance : Nat
  strayThreshold : Nat
  checks : Bool
  residue : Nat
  count : Nat
  saturated : Bool
  settling : Bool
  drawn : Bool
  timer : Nat
  metered : Nat
  attributed : Nat
  stray : Nat
  lastFlow : Nat
  run : Option Direction
  deriving DecidableEq, Repr

/-- Five flows: one for the part and one per header (R75). -/
structure Flows where
  total : Nat
  header : Vector Nat 4
  deriving DecidableEq, Repr

/-- Declaration status (R75). -/
inductive Declaration where
  | none | declared | lapsed
  deriving DecidableEq, Repr

/-- The Supply Monitor's state (R75); the validity timer is present while it runs. -/
structure Supply where
  inForce : Flows
  fallback : Flows
  committed : Flows
  status : Declaration
  validity : Option Nat
  deriving DecidableEq, Repr

/-- The Night Clock's state (R91), the window flags apart (they stand in the group records). -/
structure Clock where
  second : Nat
  day : Nat
  valid : Bool
  periodLength : Nat
  startMinute : Nat
  daysInto : Nat
  allotment : Option Nat
  pendingRoll : Bool
  deriving DecidableEq, Repr

/-- A climate slot (R143) with its fresh mark (R144). -/
structure Slot where
  temperature : Int
  age : Nat
  fresh : Bool
  deriving DecidableEq, Repr

/-- One value for each port. -/
structure PerPort (α : Type) where
  a : α
  b : α
  c : α
  deriving DecidableEq, Repr

/-- Frost state (R143). -/
inductive FrostState where
  | disarmed | armedAuto | armedManual
  deriving DecidableEq, Repr

/-- The four frost limits (R143, R153). -/
structure FrostLimits where
  arm : Int
  disarm : Int
  thawHold : Nat
  timeout : Nat
  deriving DecidableEq, Repr

/-- The Climate Monitor's state (R143); the condition is FRESH exactly while the effective temperature is present (R146). -/
structure Climate where
  slots : PerPort (Option Slot)
  limits : FrostLimits
  effective : Option Int
  frost : FrostState
  inhibit : Bool
  thawTimer : Nat
  deriving DecidableEq, Repr

/-- Regimes (R107). -/
inductive Regime where
  | idle | quota | manual | frost
  deriving DecidableEq, Repr

/-- Run states (R107). -/
inductive RunState where
  | running | paused | stopped
  deriving DecidableEq, Repr

/-- Stop causes (R107). -/
inductive StopCause where
  | shutdown (p : Port)
  | stopLine
  deriving DecidableEq, Repr

/-- States of a manual entry (R115). -/
inductive EntryState where
  | waiting | running | done | skipped
  deriving DecidableEq, Repr

/-- An entry of the manual run list (R115). -/
structure Entry where
  zone : ZoneId
  runTime : Nat
  remaining : Nat
  state : EntryState
  deriving DecidableEq, Repr

/-- A frame of the resume stack (R108). -/
inductive Frame where
  | quota (pointer round : Nat)
  | manual (entries : List Entry)
  deriving DecidableEq, Repr

/-- The Rotation Engine's state (R107); the stack stands bottom frame first. -/
structure Engine where
  regime : Regime
  runState : RunState
  stopCause : Option StopCause
  stack : List Frame
  manual : Option (List Entry)
  deriving DecidableEq, Repr

/-- The quota planner's state beside the zones (R126). -/
structure Planner where
  pointer : Nat
  round : Nat
  suspended : List ZoneId
  allotmentReached : Bool
  deriving DecidableEq, Repr

/-- The notice kinds (R181). -/
inductive NoticeKind where
  | zoneLocked | lowFlow | highFlow | strayFlow | meterSaturated | manualSkipped | zoneShed | supplyLapsed | supplyDeclared
  | frostArmed | frostDisarmed | triageChanged | zoneOverdue | climateStale | shortVisit | periodRolled | allotmentReached
  | regimeChanged | stopped | holdBroken
  deriving DecidableEq, Repr

/-- A notice record (R181); the stamp is day count and second of day. -/
structure Notice where
  kind : NoticeKind
  stamp : Option (Nat × Nat)
  zone : Option ZoneId
  header : Option HeaderId
  port : Option Port
  value : Option Int
  deriving DecidableEq, Repr

/-- The reply codes (R175). -/
inductive ReplyCode where
  | done | deferred | already | withdrawn | tooLate | nothingPending | busy | noRight | range | duplicate | undefinedZone
  | heldElsewhere | notHolder | releasing | regime | stopLine | unknown | malformed | lineError
  deriving DecidableEq, Repr

/-- A reply (R171, R175): the reply code with its clamped mark, the echoed directive code and the payload. -/
structure Reply where
  code : ReplyCode
  clamped : Bool
  echo : Byte
  payload : List Byte
  deriving DecidableEq, Repr

/-- Why the assembler is discarding (R167). -/
inductive DiscardCause where
  | line | form
  deriving DecidableEq, Repr

/-- The frame assembler (R167). RECEIVING holds the bytes received after the start byte, the length byte first; DISCARDING holds
its cause and, for the echo of its reply (R171), the code byte where one was received. -/
inductive Assembler where
  | idle
  | receiving (bytes : List Byte)
  | discarding (cause : DiscardCause) (code : Option Byte)
  deriving DecidableEq, Repr

/-- A mailbox (R172). `broken` is present where a reinitialisation has come while the directive was EXECUTING: its reply is then discarded when formed
(R170), and the value says whether the port held the plan hold when the break came, by which a SET-METER or a SET-PERIOD has its effect nevertheless (R55, R91;
log entry 29). -/
inductive Mailbox where
  | empty
  | pending (d : Directive)
  | executing (d : Directive) (broken : Option Bool)
  deriving DecidableEq, Repr

/-- The four notice classes as marks (R176). -/
structure ClassFilter where
  fault : Bool
  supply : Bool
  frost : Bool
  plan : Bool
  deriving DecidableEq, Repr

/-- One port: its Port Controller's state (R166 to R178) and its part of the Notice Unit (R182, R183). -/
structure PortState where
  assembler : Assembler
  mailbox : Mailbox
  replies : List Reply
  rights : Rights
  strapRights : Rights
  rate : LineRate
  strict : Bool
  filter : ClassFilter
  lineErrors : Nat
  lineLow : Bool
  notices : List Notice
  overflow : Bool
  deriving DecidableEq, Repr

/-- A supply event that is to be taken inside a selection (R82, R87). -/
inductive SupplyEvent where
  | declare (p : Port) (flows : FlowFields) (validity : Nat)
  | fallback (p : Port) (flows : FlowFields)
  | lapse
  deriving DecidableEq, Repr

/-- MODEL: a supply event on its way into a selection, with the points still to pass before it is taken (R87, R124; log entry 10). -/
structure InFlight where
  event : SupplyEvent
  points : Nat
  deriving DecidableEq, Repr

/-- MODEL: a lockout request on its way from the Meter Unit to the Valve Sequencer (R45; log entry 28). -/
structure LockoutRequest where
  zone : ZoneId
  kind : Lockout
  deriving DecidableEq, Repr

/-- The whole part, with the queue of commands that wait to be taken. -/
structure State where
  /-- the zone records (R1, R3) and all that is held per zone -/
  zones : Vector Zone 32
  /-- the group records (R6) and window flags (R91) -/
  groups : Vector Group 8
  /-- the rotation ring (R8) -/
  ring : List ZoneId
  /-- the nine hold entries (R23) -/
  holds : Vector Hold 9
  /-- the order of energising, longest ago first (R37) -/
  energising : List ZoneId
  /-- the order of WET entry, longest ago first (R37) -/
  wetOrder : List ZoneId
  /-- the four meter channels (R55) -/
  meters : Vector Meter 4
  /-- the Supply Monitor (R75) -/
  supply : Supply
  /-- the Night Clock (R91) -/
  clock : Clock
  /-- the Climate Monitor (R143) -/
  climate : Climate
  /-- the Rotation Engine (R107) -/
  engine : Engine
  /-- the quota planner (R126) -/
  planner : Planner
  /-- the admitted loads of the last triage (R155) -/
  loads : Flows
  /-- the three ports -/
  ports : PerPort PortState
  /-- the last-served port (R173) -/
  lastServed : Port
  /-- the STOP input is asserted (R121) -/
  stopLow : Bool
  /-- the RESET line is asserted (R53) -/
  resetLow : Bool
  /-- MODEL: the supply events to be taken inside selections, in the order they were sent (R87, R124; log entry 10) -/
  supplyInFlight : List InFlight
  /-- MODEL: the engine owes the report of a ceiling change taken inside a selection (R84, R124; log entry 10) -/
  ceilingReportOwed : Bool
  /-- MODEL: the lockout requests that the Valve Sequencer has still to take, oldest first (R45; log entry 28) -/
  lockoutRequests : List LockoutRequest
  /-- MODEL: the commands that wait, first in first out -/
  pending : List Instr
  deriving DecidableEq, Repr

/-- Why a step can stop with a fault. There is no constructor: no event of the spec stops the part (what it calls faults are
lockouts, notices and refusal replies, all of them state). Safe. -/
inductive Fault where
  deriving DecidableEq, Repr

/-- Why a step can be refused. -/
inductive Refusal where
  /-- Raised by `exec` alone, for a command without a meaning; no arm uses it. Safe. -/
  | notModelled (mnemonic : String)
  deriving DecidableEq, Repr

/-- A zone at power-on (R4, R37, R126, R155). The sense phase has no power-on value in the spec: AWAITING is a DESIGN CHOICE
(log entry 11), unsafe. -/
def Zone.powerOn : Zone where
  programme := none
  pendingEdit := none
  valve := .shut
  energised := false
  useTag := none
  lockout := none
  fillTimer := none
  closeTimer := none
  senseTimer := none
  sensePhase := .awaiting
  timeInState := 0
  opened := none
  lockedSinceOpen := false
  endedBy := none
  quotaVolume := 0
  manualVolume := 0
  frostVolume := 0
  lastPeriodVolume := 0
  effectiveQuota := 0
  cyclesRemaining := 0
  visit := .noVisit
  visitTarget := none
  visitVolume := 0
  guardTimer := none
  soakTimer := 65535
  dryClock := 0
  overdue := false
  admitted := false
  requiredFlow := none
  frostVisit := false
  dwellRemaining := none

/-- A meter channel at power-on (R55). -/
def Meter.powerOn : Meter where
  divisor := 1
  weight := 100
  interval := 10
  tolerance := 20
  strayThreshold := 20
  checks := true
  residue := 0
  count := 0
  saturated := false
  settling := false
  drawn := false
  timer := 10
  metered := 0
  attributed := 0
  stray := 0
  lastFlow := 0
  run := none

/-- All five flows 0. -/
def Flows.zero : Flows := ⟨0, Vector.replicate 4 0⟩

/-- The Supply Monitor at power-on (R75). -/
def Supply.powerOn : Supply := ⟨.zero, .zero, .zero, .none, none⟩

/-- The Night Clock at power-on (R91). -/
def Clock.powerOn : Clock := ⟨0, 0, false, 1, 0, 0, none, false⟩

/-- The Climate Monitor at power-on (R143). -/
def Climate.powerOn : Climate := ⟨⟨none, none, none⟩, ⟨10, 30, 1800, 300⟩, none, .disarmed, false, 0⟩

/-- The engine at power-on, by the level of the STOP input (R107). -/
def Engine.powerOn (stopLow : Bool) : Engine where
  regime := .idle
  runState := if stopLow then .stopped else .running
  stopCause := if stopLow then some .stopLine else none
  stack := []
  manual := none

/-- The options of a port at power-on (R176). -/
def ClassFilter.all : ClassFilter := ⟨true, true, true, true⟩

/-- A port at power-on, its straps read (R166, R167, R169, R172, R176, R186). -/
def PortState.powerOn (x : Straps) : PortState where
  assembler := .idle
  mailbox := .empty
  replies := []
  rights := x.granted
  strapRights := x.granted
  rate := x.lineRate
  strict := false
  filter := .all
  lineErrors := 0
  lineLow := false
  notices := []
  overflow := false

/-- The part at power-on: the straps as read, the level of the STOP input, and the commands that wait. -/
def State.powerOn (strapsA strapsB strapsC : Straps) (stopLow : Bool) (pending : List Instr) : State where
  zones := Vector.replicate 32 .powerOn
  groups := Vector.replicate 8 ⟨0, 0, true⟩
  ring := []
  holds := Vector.replicate 9 .free
  energising := []
  wetOrder := []
  meters := Vector.replicate 4 .powerOn
  supply := .powerOn
  clock := .powerOn
  climate := .powerOn
  engine := .powerOn stopLow
  planner := ⟨0, 0, [], false⟩
  loads := .zero
  ports := ⟨.powerOn strapsA, .powerOn strapsB, .powerOn strapsC⟩
  lastServed := .c
  stopLow := stopLow
  resetLow := false
  supplyInFlight := []
  ceilingReportOwed := false
  lockoutRequests := []
  pending := pending

/-- The machine right after power-on, with no command waiting. The spec gives no board: the straps (Port A PROGRAM and OPERATE, Port B SUPPLY,
Port C CLIMATE, all at 9600 baud) and the released STOP input are a DESIGN CHOICE (log entry 6), unsafe. -/
def State.reset : State :=
  .powerOn ⟨true, false, false, true, false, false⟩ ⟨false, true, false, false, false, false⟩
    ⟨false, false, true, false, false, false⟩ false []

end Sys2Proof.Machine
end

