-- ==== Sys2Proof/Machine/Operands.lean ====
section
/-! DEFINITION. The parameters of directives against their ranges: brought into range in clamp mode, refused in strict mode (R12, R71, R79,
R83, R94, R102, R114, R153, R176). -/

namespace Sys2Proof.Machine

/-- A checked parameter: its value, with whether it was brought into range (the clamped mark of R175), or the index of the field
that RANGE names. -/
inductive Checked (α : Type) where
  | ok (value : α) (clamped : Bool)
  | out (field : Nat)
  deriving DecidableEq, Repr

/-- Checks one after the other: the first that fails decides, and the marks add up. -/
def Checked.andThen {α β : Type} (c : Checked α) (f : α → Checked β) : Checked β :=
  match c with
  | .out i => .out i
  | .ok v m =>
    match f v with
    | .out i => .out i
    | .ok w m' => .ok w (m || m')

/-- A value against the range `lo` to `hi`: clamped or refused by the range mode (R12, R176). -/
def checkNat (strict : Bool) (field lo hi v : Nat) : Checked Nat :=
  if lo ≤ v ∧ v ≤ hi then .ok v false
  else if strict then .out field
  else .ok (if v < lo then lo else hi) true

/-- A signed value against the range `lo` to `hi` (R153). -/
def checkInt (strict : Bool) (field : Nat) (lo hi v : Int) : Checked Int :=
  if lo ≤ v ∧ v ≤ hi then .ok v false
  else if strict then .out field
  else .ok (if v < lo then lo else hi) true

/-- A yes-or-no value, range 0 to 1: 2 or more becomes 1 in clamp mode (R12, R71, R176). -/
def checkMark (strict : Bool) (field v : Nat) : Checked Bool :=
  (checkNat strict field 0 1 v).andThen fun w => .ok (decide (w = 1)) false

/-- A number below `n`, as an index; `none` above. -/
def indexOf (n v : Nat) : Option (Fin n) := if h : v < n then some ⟨v, h⟩ else none

/-- The eight divisors (R55). -/
def divisors : List Nat := [1, 2, 4, 8, 16, 32, 64, 128]

/-- The greatest divisor not above the value, and 1 for 0 (R71). -/
def divisorBelow (v : Nat) : Nat := ((divisors.filter (· ≤ v)).getLast?).getD 1

/-- The divisor of SET-METER, field 1 (R71). -/
def checkDivisor (strict : Bool) (v : Nat) : Checked Nat :=
  if v ∈ divisors then .ok v false
  else if strict then .out 1
  else .ok (divisorBelow v) true

/-- The thirteen fields of EDIT-ZONE in index order (R1, R12). -/
def checkProgramme (strict : Bool) (f : ZoneFields) : Checked Programme :=
  (checkNat strict 1 0 3 f.header).andThen fun header =>
  (checkNat strict 2 0 7 f.group).andThen fun group =>
  (checkMark strict 3 f.enabled).andThen fun enabled =>
  (checkNat strict 4 1 6000 f.flow).andThen fun flow =>
  (checkNat strict 5 0 600 f.fill).andThen fun fill =>
  (checkNat strict 6 1 120 f.closing).andThen fun closing =>
  (checkNat strict 7 0 2000000 f.quota).andThen fun quota =>
  (checkNat strict 8 1 15 f.cycles).andThen fun cycles =>
  (checkNat strict 9 0 7200 f.soak).andThen fun soak =>
  (checkMark strict 10 f.frostMember).andThen fun frostMember =>
  (checkNat strict 11 1 32 f.frostRank).andThen fun frostRank =>
  (checkNat strict 12 10 900 f.dwell).andThen fun dwell =>
  (checkNat strict 13 10 1800 f.maxDry).andThen fun maxDry =>
  .ok ⟨Fin.ofNat 4 header, Fin.ofNat 8 group, enabled, flow, fill, closing, quota, cycles, soak, frostMember, frostRank, dwell, maxDry⟩ false

/-- The six settings of SET-METER after their check (R71). -/
structure MeterSettings where
  divisor : Nat
  weight : Nat
  interval : Nat
  tolerance : Nat
  strayThreshold : Nat
  checks : Bool
  deriving DecidableEq, Repr

/-- Fields 1 to 6 of SET-METER in index order (R71). -/
def checkMeter (strict : Bool) (f : MeterFields) : Checked MeterSettings :=
  (checkDivisor strict f.divisor).andThen fun divisor =>
  (checkNat strict 2 1 50000 f.weight).andThen fun weight =>
  (checkNat strict 3 5 60 f.interval).andThen fun interval =>
  (checkNat strict 4 5 50 f.tolerance).andThen fun tolerance =>
  (checkNat strict 5 1 500 f.strayThreshold).andThen fun strayThreshold =>
  (checkMark strict 6 f.checks).andThen fun checks =>
  .ok ⟨divisor, weight, interval, tolerance, strayThreshold, checks⟩ false

/-- The five ceilings or fallbacks, fields 0 to 4 (R79, R83). -/
def checkFlows (strict : Bool) (f : FlowFields) : Checked Flows :=
  (checkNat strict 0 0 Config.ceilingTop f.total).andThen fun total =>
  (checkNat strict 1 0 Config.ceilingTop f.h0).andThen fun h0 =>
  (checkNat strict 2 0 Config.ceilingTop f.h1).andThen fun h1 =>
  (checkNat strict 3 0 Config.ceilingTop f.h2).andThen fun h2 =>
  (checkNat strict 4 0 Config.ceilingTop f.h3).andThen fun h3 =>
  .ok ⟨total, #v[h0, h1, h2, h3]⟩ false

/-- The six fields of DECLARE-SUPPLY (R79). -/
def checkDeclaration (strict : Bool) (f : FlowFields) (validity : Nat) : Checked (Flows × Nat) :=
  (checkFlows strict f).andThen fun flows =>
  (checkNat strict 5 30 3600 validity).andThen fun v =>
  .ok (flows, v) false

/-- The settings of SET-PERIOD after their check (R102). -/
structure PeriodSettings where
  length : Nat
  startMinute : Nat
  allotment : Option Nat
  deriving DecidableEq, Repr

/-- Fields 0 to 2 of SET-PERIOD; an allotment of 0 means absent (R102). -/
def checkPeriod (strict : Bool) (length startMinute allotment : Nat) : Checked PeriodSettings :=
  (checkNat strict 0 1 14 length).andThen fun l =>
  (checkNat strict 1 0 Config.lastMinute startMinute).andThen fun m =>
  (checkNat strict 2 0 Config.allotmentTop allotment).andThen fun a =>
  .ok ⟨l, m, if a = 0 then none else some a⟩ false

/-- Fields 1 and 2 of SET-WINDOW (R7). -/
def checkWindow (strict : Bool) (start finish : Nat) : Checked (Nat × Nat) :=
  (checkNat strict 1 0 Config.lastMinute start).andThen fun a =>
  (checkNat strict 2 0 Config.lastMinute finish).andThen fun b =>
  .ok (a, b) false

/-- The four fields of SET-FROST-LIMITS; the disarm threshold is judged by the arm threshold after its check (R153). -/
def checkFrostLimits (strict : Bool) (arm disarm : Int) (thawHold timeout : Nat) : Checked FrostLimits :=
  (checkInt strict 0 (-50) 50 arm).andThen fun a =>
  (checkInt strict 1 (a + 5) 100 disarm).andThen fun d =>
  (checkNat strict 2 0 7200 thawHold).andThen fun h =>
  (checkNat strict 3 60 1800 timeout).andThen fun t =>
  .ok ⟨a, d, h, t⟩ false

/-- The five fields of SET-OPTIONS: the range mode (true for STRICT) and the class filter (R176). -/
def checkOptions (strict : Bool) (mode fault supply frost plan : Nat) : Checked (Bool × ClassFilter) :=
  (checkMark strict 0 mode).andThen fun m =>
  (checkMark strict 1 fault).andThen fun f =>
  (checkMark strict 2 supply).andThen fun s =>
  (checkMark strict 3 frost).andThen fun r =>
  (checkMark strict 4 plan).andThen fun n =>
  .ok (m, ⟨f, s, r, n⟩) false

/-- The zone numbers of a list, or the position (counted from `k`) of the first above 31 (R9, R114). -/
def zonesFrom : Nat → List Nat → Except Nat (List ZoneId)
  | _, [] => .ok []
  | k, n :: rest =>
    match indexOf 32 n with
    | none => .error k
    | some z =>
      match zonesFrom (k + 1) rest with
      | .error i => .error i
      | .ok zs => .ok (z :: zs)

/-- The zone whose second appearance comes first (R9); `seen` holds the zones already passed. -/
def firstRepeat : List ZoneId → List ZoneId → Option ZoneId
  | _, [] => none
  | seen, z :: rest => if z ∈ seen then some z else firstRepeat (z :: seen) rest

/-- The run times of RUN-MANUAL, entry `k` in field 2k (R114). -/
def checkRunTimes (strict : Bool) : Nat → List Nat → Checked (List Nat)
  | _, [] => .ok [] false
  | k, t :: rest =>
    (checkNat strict (2 * k) 10 3600 t).andThen fun v =>
    (checkRunTimes strict (k + 1) rest).andThen fun vs =>
    .ok (v :: vs) false

end Sys2Proof.Machine
end

