-- ==== Sys2Proof/Machine/Ops.lean ====
section
/-! DEFINITION. Reading and writing the state: zones, groups, holds, meters and ports; posting notices (R181 to R183); forming replies (R169, R175); the
completion of a directive (R172, R173). -/

namespace Sys2Proof.Machine

/-! ### One value for each port -/

/-- The value of a port. -/
def PerPort.get {α : Type} (t : PerPort α) : Port → α
  | .a => t.a
  | .b => t.b
  | .c => t.c

/-- Sets the value of a port. -/
def PerPort.set {α : Type} (t : PerPort α) (p : Port) (v : α) : PerPort α :=
  match p with
  | .a => { t with a := v }
  | .b => { t with b := v }
  | .c => { t with c := v }

/-- Changes the value of every port. -/
def PerPort.map {α β : Type} (t : PerPort α) (f : α → β) : PerPort β := ⟨f t.a, f t.b, f t.c⟩

/-- The ports in the order A, B, C. -/
def allPorts : List Port := [.a, .b, .c]

/-! ### Reading and writing by number -/

/-- The record of a zone. -/
def State.zone (s : State) (z : ZoneId) : Zone := s.zones[z]

/-- Changes the record of a zone. -/
def State.updZone (s : State) (z : ZoneId) (f : Zone → Zone) : State :=
  { s with zones := s.zones.set z (f (s.zone z)) }

/-- Changes every zone record. -/
def State.mapZones (s : State) (f : ZoneId → Zone → Zone) : State :=
  { s with zones := tabulate fun z => f z (s.zone z) }

/-- The record of a group. -/
def State.group (s : State) (g : GroupId) : Group := s.groups[g]

/-- Changes the record of a group. -/
def State.updGroup (s : State) (g : GroupId) (f : Group → Group) : State :=
  { s with groups := s.groups.set g (f (s.group g)) }

/-- A hold entry. -/
def State.hold (s : State) (e : EntryId) : Hold := s.holds[e]

/-- Sets a hold entry. -/
def State.setHold (s : State) (e : EntryId) (h : Hold) : State := { s with holds := s.holds.set e h }

/-- A meter channel. -/
def State.meter (s : State) (h : HeaderId) : Meter := s.meters[h]

/-- Changes a meter channel. -/
def State.updMeter (s : State) (h : HeaderId) (f : Meter → Meter) : State :=
  { s with meters := s.meters.set h (f (s.meter h)) }

/-- A port. -/
def State.port (s : State) (p : Port) : PortState := s.ports.get p

/-- Changes a port. -/
def State.updPort (s : State) (p : Port) (f : PortState → PortState) : State :=
  { s with ports := s.ports.set p (f (s.port p)) }

/-- The entry that holds a group (R23). -/
def groupEntry (g : GroupId) : EntryId := g.castLE (by decide)

/-- The entry of the plan hold (R23). -/
def planEntry : EntryId := 8

/-! ### Notices -/

/-- The four classes (R176, R181). -/
inductive NoticeClass where
  | fault | supply | frost | plan
  deriving DecidableEq, Repr

/-- The class of each kind (R181). -/
def NoticeKind.cls : NoticeKind → NoticeClass
  | .zoneLocked | .lowFlow | .highFlow | .strayFlow | .meterSaturated | .manualSkipped => .fault
  | .zoneShed | .supplyLapsed | .supplyDeclared => .supply
  | .frostArmed | .frostDisarmed | .triageChanged | .zoneOverdue | .climateStale => .frost
  | .shortVisit | .periodRolled | .allotmentReached | .regimeChanged | .stopped | .holdBroken => .plan

/-- The number of each kind (R181). -/
def NoticeKind.number : NoticeKind → Nat
  | .zoneLocked => 1
  | .lowFlow => 2
  | .highFlow => 3
  | .strayFlow => 4
  | .meterSaturated => 5
  | .manualSkipped => 6
  | .zoneShed => 7
  | .supplyLapsed => 8
  | .supplyDeclared => 9
  | .frostArmed => 10
  | .frostDisarmed => 11
  | .triageChanged => 12
  | .zoneOverdue => 13
  | .climateStale => 14
  | .shortVisit => 15
  | .periodRolled => 16
  | .allotmentReached => 17
  | .regimeChanged => 18
  | .stopped => 19
  | .holdBroken => 20

/-- Whether a class filter lets a class in (R176). -/
def ClassFilter.lets (f : ClassFilter) : NoticeClass → Bool
  | .fault => f.fault
  | .supply => f.supply
  | .frost => f.frost
  | .plan => f.plan

/-- The stamp of a notice posted now: day count and second of day, absent while the clock is INVALID (R93, R181). -/
def State.stamp (s : State) : Option (Nat × Nat) :=
  if s.clock.valid then some (s.clock.day, s.clock.second) else none

/-- Files a copy of a notice in one port's queue: to the end, or discarded with the overflow mark set where the queue is full (R182, R183). -/
def PortState.file (n : Notice) (q : PortState) : PortState :=
  if q.filter.lets n.kind.cls then
    if q.notices.length < Config.noticeDepth then { q with notices := q.notices ++ [n] } else { q with overflow := true }
  else q

/-- Posts a notice: files it on every port, stamped now; discarded for every port while the RESET line is asserted (R182, R186). -/
def State.post (s : State) (kind : NoticeKind) (zone : Option ZoneId) (header : Option HeaderId) (port : Option Port)
    (value : Option Int) : State :=
  if s.resetLow then s
  else { s with ports := s.ports.map (PortState.file ⟨kind, s.stamp, zone, header, port, value⟩) }

/-- The attention output of a port is driven low exactly while its queue holds a notice (R184). -/
def PortState.attentionLow (q : PortState) : Bool := !q.notices.isEmpty

/-! ### Replies -/

/-- The value of each reply code (R175). -/
def ReplyCode.value : ReplyCode → Nat
  | .done => 0x00
  | .deferred => 0x01
  | .already => 0x02
  | .withdrawn => 0x03
  | .tooLate => 0x04
  | .nothingPending => 0x05
  | .busy => 0x10
  | .noRight => 0x11
  | .range => 0x12
  | .duplicate => 0x13
  | .undefinedZone => 0x14
  | .heldElsewhere => 0x15
  | .notHolder => 0x16
  | .releasing => 0x17
  | .regime => 0x18
  | .stopLine => 0x19
  | .unknown => 0x1A
  | .malformed => 0x1B
  | .lineError => 0x1C

/-- The bytes of a reply frame: start byte, length, reply code with 0x80 added for the clamped mark, echoed code, payload, check byte
(R171, R175). -/
def Reply.frame (r : Reply) : List Byte :=
  let body := natBytes 1 (r.payload.length + 2) ++ natBytes 1 (r.code.value + if r.clamped then 0x80 else 0) ++ r.echo :: r.payload
  Config.replyStartByte :: body ++ [-(byteSum body)]

/-- One more line error (R167). -/
def PortState.countLineError (q : PortState) : PortState :=
  { q with lineErrors := satAdd Config.lineErrorTop q.lineErrors 1 }

/-- A reply joins the reply queue, or is discarded with a line error counted where 4 replies wait (R169). -/
def PortState.enqueue (r : Reply) (q : PortState) : PortState :=
  if q.replies.length < Config.replyDepth then { q with replies := q.replies ++ [r] } else q.countLineError

/-- Forms a reply on a port; a reply of LINE-ERROR counts as a line error (R167, R169). -/
def State.reply (s : State) (p : Port) (r : Reply) : State :=
  s.updPort p fun q => (if r.code = .lineError then q.countLineError else q).enqueue r

/-- What a directive answers: reply code, clamped mark and payload (R175). -/
structure Answer where
  code : ReplyCode
  clamped : Bool
  payload : List Byte
  deriving DecidableEq, Repr

/-- An answer without clamped mark and payload. -/
def Answer.plain (c : ReplyCode) : Answer := ⟨c, false, []⟩
/-- DONE with the clamped mark where a value was clamped. -/
def Answer.done (clamped : Bool) : Answer := ⟨.done, clamped, []⟩
/-- DONE with a result. -/
def Answer.result (payload : List Byte) : Answer := ⟨.done, false, payload⟩
/-- A refusal that names a number in one byte (R175). -/
def Answer.naming (c : ReplyCode) (n : Nat) : Answer := ⟨c, false, natBytes 1 n⟩

/-- Carries on with the value of a check, or refuses with RANGE naming the field (R175). -/
def Checked.orRange {α : Type} (c : Checked α) (s : State) (f : α → Bool → State × Answer) : State × Answer :=
  match c with
  | .ok v clamped => f v clamped
  | .out field => (s, .naming .range field)

/-- Carries on with an index below `n`, or refuses with RANGE naming field 0 in either mode (R7, R11, R24, R47, R71, R179). -/
def withIndex (n v : Nat) (s : State) (f : Fin n → State × Answer) : State × Answer :=
  match indexOf n v with
  | some i => f i
  | none => (s, .naming .range 0)

/-- The completion of a directive on a port (R172, R173). Where the port's mailbox is EXECUTING it, `run` gives its effects and its answer;
the mailbox becomes EMPTY and the reply is formed, or discarded where the port was reinitialised meanwhile (R170). Elsewhere there is
nothing to complete, and nothing changes (R172; log entry 1). While the RESET line is asserted nothing is executed (R173).

DESIGN CHOICE (log entry 30), unsafe: a directive is EXECUTING until all of `run` has happened, its own selection included, so no other directive is taken up inside
that selection and no DECLARE-SUPPLY or SET-FALLBACK comes there, though a lapse can; 95_what_each_step_holds.md lists SUPPLY_DECLARED within RESUME. The two supply
directives themselves complete before the selection that their ceiling change leads to, which is the engine's event (R84). -/
def State.complete (s : State) (p : Port) (d : Directive) (run : State → State × Answer) : State :=
  if s.resetLow then s
  else
    match (s.port p).mailbox with
    | .executing d' broken =>
      if d' = d then
        let r := run s
        let s' := r.1.updPort p fun q => { q with mailbox := .empty }
        if broken.isSome then s' else s'.reply p ⟨r.2.code, r.2.clamped, BitVec.ofNat 8 d.code, r.2.payload⟩
      else s
    | .empty => s
    | .pending _ => s

/-- Takes an event unless the RESET line is asserted, when the blocks take no event (R53, R73, R89, R107, R126, R143, R155). -/
def State.live (s : State) (f : State → State) : State := if s.resetLow then s else f s

/-- Applies `f` for each zone of a list, in list order. -/
def State.forZones (s : State) (zs : List ZoneId) (f : ZoneId → State → State) : State := zs.foldl (fun t z => f z t) s

/-- The port's range mode is STRICT (R176). -/
def State.strict (s : State) (p : Port) : Bool := (s.port p).strict

end Sys2Proof.Machine
end

