-- ==== Sys2Proof/Machine/Arbiter.lean ====
section
/-! DEFINITION. The Directive Arbiter: which port's directive is taken up next (R173). -/

namespace Sys2Proof.Machine

/-- The order that begins after a port (R173). -/
def turnAfter : Port → List Port
  | .a => [.b, .c, .a]
  | .b => [.c, .a, .b]
  | .c => [.a, .b, .c]

/-- The directive that a mailbox holds PENDING. -/
def Mailbox.waiting : Mailbox → Option Directive
  | .pending d => some d
  | .empty => none
  | .executing _ _ => none

/-- A directive is EXECUTING. -/
def Mailbox.isExecuting : Mailbox → Bool
  | .executing _ _ => true
  | .empty => false
  | .pending _ => false

/-- Some port's directive is EXECUTING. -/
def State.arbiterBusy (s : State) : Bool := allPorts.any fun p => (s.port p).mailbox.isExecuting

/-- The first PENDING port in turn, with its directive (R173). -/
def State.nextInTurn (s : State) : Option (Port × Directive) :=
  (turnAfter s.lastServed).findSome? fun p => (s.port p).mailbox.waiting.map fun d => (p, d)

/-- The arbiter takes up the next directive, where none is EXECUTING (R173). -/
def State.takeUp (s : State) : State :=
  if s.arbiterBusy then s
  else
    match s.nextInTurn with
    | some (p, d) => { s.updPort p (fun q => { q with mailbox := .executing d none }) with lastServed := p }
    | none => s

end Sys2Proof.Machine
end

