-- ==== Sys2Proof/Machine/Flags.lean ====
section
/-! DEFINITION. What the blocks compute from the state and do not store: sums of flows, fits, counts of deferred edits, windows, quotas, eligibility, frost candidates,
slack, thresholds. -/

namespace Sys2Proof.Machine

/-! ### Channels and flows -/

/-- The channel is in OPENING or WET. -/
def Zone.isOpen (x : Zone) : Bool := x.valve = .opening || x.valve = .wet

/-- The channel is in OPENING, WET or CLOSING: the zone is drawing (R60). -/
def Zone.drawing (x : Zone) : Bool := x.valve ≠ .shut

/-- The programme the channel was last opened with named this header (R58). -/
def Zone.onHeader (x : Zone) (h : HeaderId) : Bool :=
  match x.opened with
  | some o => o.header = h
  | none => false

/-- The nominal flow of the programme the channel was last opened with (R61, R76). -/
def Zone.openedFlow (x : Zone) : Nat :=
  match x.opened with
  | some o => o.flow
  | none => 0

/-- The header of the programme the channel was last opened with; absent where it was never opened (R46, log entry 11). -/
def Zone.openedHeader (x : Zone) : Option HeaderId := x.opened.map (·.header)

/-- The header of the zone's programme, absent where the zone is undefined (R116). -/
def Zone.header (x : Zone) : Option HeaderId := x.programme.map (·.header)

/-- The drawing set S of a header, in ascending zone number (R60). -/
def State.drawingSet (s : State) (h : HeaderId) : List ZoneId :=
  zoneIds.filter fun z => (s.zone z).drawing && (s.zone z).onHeader h

/-- The zones on a header in WET, in ascending zone number (R66). -/
def State.wetSet (s : State) (h : HeaderId) : List ZoneId :=
  zoneIds.filter fun z => (s.zone z).valve = .wet && (s.zone z).onHeader h

/-- The channels in OPENING and WET, from the two orders (R78). -/
def State.openChannels (s : State) : List ZoneId := s.energising ++ s.wetOrder

/-- The open flow of a header (R78). -/
def State.openFlow (s : State) (h : HeaderId) : Nat :=
  sumOver (s.openChannels.filter fun z => (s.zone z).onHeader h) fun z => (s.zone z).openedFlow

/-- The total open flow (R78). -/
def State.totalOpenFlow (s : State) : Nat := sumOver s.openChannels fun z => (s.zone z).openedFlow

/-- A header's open flow exceeds its ceiling in force (R85). -/
def State.headerOver (s : State) (h : HeaderId) : Bool := s.supply.inForce.header[h] < s.openFlow h

/-- The total open flow exceeds the total ceiling in force (R85). -/
def State.totalOver (s : State) : Bool := s.supply.inForce.total < s.totalOpenFlow

/-- Some header or the total is above its ceiling (R85). -/
def State.anyOver (s : State) : Bool := s.totalOver || headerIds.any s.headerOver

/-- A channel is over: its header or the total is above its ceiling (R85). -/
def State.channelOver (s : State) (z : ZoneId) : Bool :=
  s.totalOver ||
    match (s.zone z).openedHeader with
    | some h => s.headerOver h
    | none => false

/-- The shed order: OPENING channels from the most recently energised, then WET channels from the longest in WET (R85). -/
def State.shedOrder (s : State) : List ZoneId := s.energising.reverse ++ s.wetOrder

/-- Headroom of a header, negative when committed flow stands above the ceiling (R77). -/
def State.headroom (s : State) (h : HeaderId) : Int := (s.supply.inForce.header[h] : Int) - s.supply.committed.header[h]

/-- Total headroom (R77). -/
def State.totalHeadroom (s : State) : Int := (s.supply.inForce.total : Int) - s.supply.committed.total

/-- The opening test: true for FITS, false for NO-ROOM (R77). -/
def State.fits (s : State) (x : Programme) : Bool :=
  decide ((x.flow : Int) ≤ s.headroom x.header ∧ (x.flow : Int) ≤ s.totalHeadroom)

/-! ### Pending edits and holds -/

/-- A zone's pending edit belongs to a group (R16). -/
def Zone.editBelongs (x : Zone) (g : GroupId) : Bool :=
  match x.pendingEdit with
  | none => false
  | some e =>
    x.programme.any (fun p => decide (p.group = g)) ||
      match e with
      | .edit p => decide (p.group = g)
      | .clear => false

/-- The count of outstanding deferred edits of a group (R25). -/
def State.deferredCount (s : State) (g : GroupId) : Nat := (zoneIds.filter fun z => (s.zone z).editBelongs g).length

/-- The groups an edit touches, in ascending group number; `named` is the group the new programme names, absent for CLEAR-ZONE (R13). -/
def Zone.touched (x : Zone) (named : Option GroupId) : List GroupId :=
  groupIds.filter fun g =>
    x.programme.any (fun p => decide (p.group = g)) || x.editBelongs g || decide (named = some g)

/-! ### Clock and windows -/

/-- The minute of day (R91). -/
def Clock.minute (c : Clock) : Nat := c.second / 60

/-- Whether a window from `start` to `finish` is open (R95). -/
def windowOpenAt (valid : Bool) (start finish minute : Nat) : Bool :=
  if start = finish then true
  else if !valid then false
  else if start < finish then decide (start ≤ minute ∧ minute < finish)
  else decide (start ≤ minute ∨ minute < finish)

/-- The result of evaluating a group's window now (R95). -/
def State.windowNow (s : State) (g : GroupId) : Bool :=
  windowOpenAt s.clock.valid (s.group g).start (s.group g).finish s.clock.minute

/-- The next boundary as day count and minute, absent while the clock is INVALID (R98). -/
def Clock.nextBoundary (c : Clock) : Option (Nat × Nat) :=
  if c.valid then
    let k := c.periodLength - c.daysInto
    let ahead := if c.second < c.startMinute * 60 then k - 1 else k
    some (wrapAdd Config.countTop c.day ahead, c.startMinute)
  else none

/-! ### Quotas -/

/-- The zone is in the quota set: defined, enabled and named in the ring (R104). -/
def State.inQuotaSet (s : State) (z : ZoneId) : Bool :=
  (s.zone z).programme.any (·.enabled) && decide (z ∈ s.ring)

/-- The programmed quota, 0 where the zone is undefined. -/
def Zone.programmedQuota (x : Zone) : Nat := (x.programme.map (·.quota)).getD 0

/-- T: the sum of the programmed quotas of the quota set (R104). -/
def State.quotaSum (s : State) : Nat := sumOver (zoneIds.filter s.inQuotaSet) fun z => (s.zone z).programmedQuota

/-- The effective quota that R104 gives a zone. -/
def State.quotaShare (s : State) (z : ZoneId) : Nat :=
  if s.inQuotaSet z then
    match s.clock.allotment with
    | some a => if a < s.quotaSum then (s.zone z).programmedQuota * a / s.quotaSum else (s.zone z).programmedQuota
    | none => (s.zone z).programmedQuota
  else 0

/-- The sum of the quota volumes of all zones (R140). -/
def State.quotaVolumeSum (s : State) : Nat := sumOver zoneIds fun z => (s.zone z).quotaVolume

/-- The allotment test is due (R140). -/
def State.allotmentDue (s : State) : Bool :=
  match s.clock.allotment with
  | some a => decide (a * 100 ≤ s.quotaVolumeSum)
  | none => false

/-- Eligibility for quota rotation (R128). -/
def State.eligible (s : State) (z : ZoneId) : Bool :=
  let x := s.zone z
  match x.programme with
  | none => false
  | some p =>
    p.enabled && decide (z ∈ s.ring) && decide (x.valve = .shut) && x.lockout.isNone && (s.group p.group).windowOpen &&
      decide (0 < x.cyclesRemaining) && decide (p.soak ≤ x.soakTimer) && decide (x.quotaVolume < x.effectiveQuota * 100) &&
      !s.planner.allotmentReached

/-- The target of a new visit: the even share per cycle, or what remains of the quota where that is less (R131). -/
def visitTarget (effectiveQuota cycles quotaVolume : Nat) : Nat :=
  min (ceilDiv (effectiveQuota * 100) cycles) (effectiveQuota * 100 - quotaVolume)

/-- The guard of a visit that is still owed `owed` cL (R132). -/
def guardSeconds (fill flow owed : Nat) : Nat := min Config.guardTop (fill + ceilDiv (9 * owed) (10 * flow))

/-- Quota remaining in cL, signed (R142, R180). -/
def Zone.quotaRemaining (x : Zone) : Int := (x.effectiveQuota : Int) * 100 - x.quotaVolume

/-! ### Frost -/

/-- Frost is armed (R143). -/
def State.armed (s : State) : Bool := s.climate.frost ≠ .disarmed

/-- Defined, enabled and a frost member: a frost candidate but for a lockout (R156). -/
def Zone.frostMember (x : Zone) : Bool := x.programme.any fun p => p.enabled && p.frostMember

/-- A frost candidate (R156). -/
def Zone.frostCandidate (x : Zone) : Bool := x.frostMember && x.lockout.isNone

/-- The required flow of a feasible programme; absent for an infeasible one (R156). -/
def Programme.required (p : Programme) : Option Nat :=
  if p.maxDry ≤ p.fill then none else some (ceilDiv (p.flow * (p.dwell + p.fill)) (p.dwell + p.maxDry))

/-- Slack: max dry less the dry clock (R159). -/
def Zone.slack (x : Zone) (p : Programme) : Int := (p.maxDry : Int) - x.dryClock

/-- The zones now admitted, in ascending zone number. -/
def State.admittedSet (s : State) : List ZoneId := zoneIds.filter fun z => (s.zone z).admitted

/-- The dry clock has reached the max dry of the zone's programme (R160). -/
def Zone.dryTooLong (x : Zone) : Bool := x.programme.any fun p => decide (p.maxDry ≤ x.dryClock)

/-! ### Climate -/

/-- The temperatures of the fresh slots (R143, R146). -/
def Climate.freshTemperatures (c : Climate) : List Int :=
  allPorts.filterMap fun p =>
    match c.slots.get p with
    | some x => if x.fresh then some x.temperature else none
    | none => none

/-- The lowest of a list of temperatures, absent for none (R146). -/
def lowest : List Int → Option Int
  | [] => none
  | t :: rest =>
    match lowest rest with
    | none => some t
    | some u => some (min t u)

/-- FRESH with an effective temperature above the disarm threshold (R147, R148). -/
def Climate.warm (c : Climate) : Bool := c.effective.any fun t => decide (c.limits.disarm < t)

/-- FRESH with an effective temperature at or below the arm threshold (R147). -/
def Climate.cold (c : Climate) : Bool := c.effective.any fun t => decide (t ≤ c.limits.arm)

/-! ### Engine -/

/-- A QUOTA frame stands in the stack. -/
def Engine.hasQuotaFrame (e : Engine) : Bool :=
  e.stack.any fun f =>
    match f with
    | .quota _ _ => true
    | .manual _ => false

/-- A MANUAL frame stands in the stack. -/
def Engine.hasManualFrame (e : Engine) : Bool :=
  e.stack.any fun f =>
    match f with
    | .manual _ => true
    | .quota _ _ => false

/-- The number of each regime (R111, R171). -/
def Regime.number : Regime → Nat
  | .idle => 0
  | .quota => 1
  | .manual => 2
  | .frost => 3

/-- The number of each use tag (R88, R171). -/
def UseTag.number : UseTag → Nat
  | .quota => 1
  | .manual => 2
  | .frost => 3

/-- The number of each lockout kind (R46, R171). -/
def Lockout.number : Lockout → Nat
  | .driveFault => 1
  | .noFlow => 2
  | .burst => 3

end Sys2Proof.Machine
end

