-- ==== Sys2Proof/Machine/Channel.lean ====
section
/-! DEFINITION. The end of an opening: what a close command does to a channel (R40), what the engine makes of the CLOSING report (R49, R117, R133,
R135, R159, R162), and entry to WET (R39, R50). -/

namespace Sys2Proof.Machine

/-! ### Quota visits -/

/-- What becomes of an OPEN quota visit (R133). -/
inductive VisitOutcome where
  | complete | suspended | dropped
  deriving DecidableEq, Repr

/-- The outcome that each cause gives an OPEN visit (R133). The causes that do not end a quota visit drop it (log entry 11). -/
def Ending.visitOutcome : Ending → VisitOutcome
  | .targetReached | .guardExpired => .complete
  | .windowClosed | .shed | .stop | .preemption => .suspended
  | .allotmentReached | .lockout | .closeZone | .stopQuota | .periodRoll => .dropped
  | .cancelManual | .runTimeSpent | .dwellEnd => .dropped

/-- A zone without a quota visit: target absent, volume 0, guard stopped (R127, R133). -/
def Zone.noVisit (x : Zone) : Zone := { x with visit := .noVisit, visitTarget := none, visitVolume := 0, guardTimer := none }

/-- Ends an OPEN visit. A complete visit spends a cycle; a suspended one joins the end of the suspended list with its target and volume kept, and is dropped
instead where the ring does not name the zone (R10, R133, R135). -/
def State.endVisit (s : State) (z : ZoneId) (o : VisitOutcome) : State :=
  match o with
  | .complete => s.updZone z fun x => { x.noVisit with cyclesRemaining := x.cyclesRemaining - 1 }
  | .dropped => s.updZone z Zone.noVisit
  | .suspended =>
    if z ∈ s.ring then
      { s.updZone z (fun x => { x with visit := .suspended, guardTimer := none }) with
        planner := { s.planner with suspended := s.planner.suspended ++ [z] } }
    else s.updZone z Zone.noVisit

/-- Ends the visit of the zone where it is OPEN; a later cause finds none and does nothing (R133). -/
def State.endOpenVisit (s : State) (z : ZoneId) (o : VisitOutcome) : State :=
  if (s.zone z).visit = .openVisit then s.endVisit z o else s

/-- Ends the frost visit of the zone; the dwell not spent is discarded (R162). -/
def State.endFrostVisit (s : State) (z : ZoneId) : State := s.updZone z fun x => { x with frostVisit := false, dwellRemaining := none }

/-! ### Close commands -/

/-- The header's current interval is settling (R58). -/
def State.markSettling (s : State) (h : Option HeaderId) : State :=
  match h with
  | some h => s.updMeter h fun m => { m with settling := true }
  | none => s

/-- The dry clock of a zone whose WET spell has just ended begins from 0 while frost is armed (R159). -/
def State.startDryClock (s : State) (z : ZoneId) (wetEnded : Bool) : State :=
  if wetEnded && s.armed then s.updZone z fun x => { x with dryClock := 0 } else s

/-- The engine takes a CLOSING report: the visit that the use tag names ends as the cause gives (R49, R133, R162). A manual entry stays RUNNING until
the SHUT report; the cause stands in the channel until then (R117). -/
def State.takeClosing (s : State) (z : ZoneId) (tag : Option UseTag) (e : Ending) (wetEnded : Bool) : State :=
  (match tag with
    | some .quota => s.endOpenVisit z e.visitOutcome
    | some .frost => s.endFrostVisit z
    | some .manual => s
    | none => s).startDryClock z wetEnded

/-- The close time of the zone's programme (R40); 0 where it has none, which no open channel lacks (log entry 21). -/
def Zone.closeSeconds (x : Zone) : Nat := (x.programme.map (·.closing)).getD 0

/-- The channel enters CLOSING: output and timers off, close timer started, the cause recorded (R40). -/
def Zone.closing (x : Zone) (e : Ending) : Zone :=
  { x with valve := .closing, energised := false, fillTimer := none, senseTimer := none, closeTimer := some x.closeSeconds, timeInState := 0,
           endedBy := some e }

/-- Takes a channel out of both orders (R37). -/
def State.leaveOrders (s : State) (z : ZoneId) : State :=
  { s with energising := s.energising.filter (fun i => decide (i ≠ z)), wetOrder := s.wetOrder.filter (fun i => decide (i ≠ z)) }

/-- A close command or a close by directive or lockout: OPENING and WET enter CLOSING and the CLOSING reports are made, first to the Meter Unit and then to
the engine; in CLOSING and SHUT it has no effect (R40, R50). -/
def State.closeChannel (s : State) (z : ZoneId) (e : Ending) : State :=
  let x := s.zone z
  if x.isOpen then
    (((s.updZone z fun x => x.closing e).leaveOrders z).markSettling x.openedHeader).takeClosing z x.useTag e (decide (x.valve = .wet))
  else s

/-- Closes every OPENING or WET channel of a use tag in ascending zone number (R109, R113, R118). -/
def State.closeTagged (s : State) (tag : UseTag) (e : Ending) : State :=
  s.forZones zoneIds fun z t => if (t.zone z).useTag = some tag then t.closeChannel z e else t

/-- Closes every OPENING or WET channel in ascending zone number (R120). -/
def State.closeAll (s : State) (e : Ending) : State := s.forZones zoneIds fun z t => t.closeChannel z e

/-- Closes the channel of every OPEN visit for which `sel` holds, in ascending zone number (R137, R140, R141). -/
def State.closeVisits (s : State) (sel : Zone → Bool) (e : Ending) : State :=
  s.forZones zoneIds fun z t => if (t.zone z).visit = .openVisit && sel (t.zone z) then t.closeChannel z e else t

/-! ### Entry to WET -/

/-- The channel enters WET and the WET reports are made: the overdue mark clears, and while frost is armed the dry clock is 0 (R39, R50, R159). -/
def State.enterWet (s : State) (z : ZoneId) : State :=
  let s' := s.updZone z fun x =>
    { x with valve := .wet, fillTimer := none, timeInState := 0, overdue := false, dryClock := if s.armed then 0 else x.dryClock }
  { s' with energising := s.energising.filter (fun i => decide (i ≠ z)), wetOrder := s.wetOrder ++ [z] }

/-! ### The suspended list -/

/-- Removes a zone from the suspended list and clears its visit; no effect on a zone that is not on the list (R17, R18). -/
def State.dropSuspended (s : State) (z : ZoneId) : State :=
  if z ∈ s.planner.suspended then
    { s.updZone z Zone.noVisit with planner := { s.planner with suspended := s.planner.suspended.filter (fun i => decide (i ≠ z)) } }
  else s

/-- Removes from the suspended list the zones for which `sel` holds and clears their visits (R10, R113, R141). -/
def State.pruneSuspended (s : State) (sel : ZoneId → Bool) : State :=
  { s.mapZones (fun z x => if decide (z ∈ s.planner.suspended) && sel z then x.noVisit else x) with
    planner := { s.planner with suspended := s.planner.suspended.filter (fun i => !sel i) } }

end Sys2Proof.Machine
end

