-- ==== Sys2Proof/Machine/Shedding.lean ====
section
/-! DEFINITION. The Supply Monitor at work: the shed walk (R85, R86), a change of the ceilings (R84), declarations, fallbacks and lapses (R80, R81,
R83). The selection that the engine makes on a ceiling change stands in Select.lean. -/

namespace Sys2Proof.Machine

/-! ### Committed flow -/

/-- The flows with `q` more on a header and in total (R76). -/
def Flows.add (f : Flows) (h : HeaderId) (q : Nat) : Flows := ⟨f.total + q, f.header.set h (f.header[h] + q)⟩

/-- The flows with `q` less on a header and in total (R76). -/
def Flows.sub (f : Flows) (h : HeaderId) (q : Nat) : Flows := ⟨f.total - q, f.header.set h (f.header[h] - q)⟩

/-- Committed flow rises at an OPENING report by the flow of the programme the channel was opened with (R76). -/
def State.raiseCommitted (s : State) (o : Opened) : State :=
  { s with supply := { s.supply with committed := s.supply.committed.add o.header o.flow } }

/-- Committed flow falls at a SHUT report by the flow of the programme the channel was opened with (R76). -/
def State.lowerCommitted (s : State) (o : Option Opened) : State :=
  match o with
  | some o => { s with supply := { s.supply with committed := s.supply.committed.sub o.header o.flow } }
  | none => s

/-! ### The shed walk -/

/-- Sheds one channel: the engine closes it, then ZONE-SHED is posted (R86, R88). -/
def State.shed (s : State) (port : Option Port) (z : ZoneId) : State :=
  let x := s.zone z
  (s.closeChannel z .shed).post .zoneShed (some z) x.openedHeader port (x.useTag.map fun t => (t.number : Int))

/-- One step of the shed walk: it has ended where nothing is above its ceiling; a channel that is over is shed, another is passed (R85). -/
def State.shedStep (s : State) (port : Option Port) (z : ZoneId) : State :=
  if s.anyOver && s.channelOver z then s.shed port z else s

/-- The shed walk, in the shed order as it stands at its start; `port` is the port whose directive made the ceiling change (R85, R88). -/
def State.shedWalk (s : State) (port : Option Port) : State := s.forZones s.shedOrder fun z t => t.shedStep port z

/-! ### Ceiling changes -/

/-- Takes a ceiling change where a ceiling in force differs from what it was: the shed walk runs, and the report to the engine is owed (R84). -/
def State.ceilingChange (s : State) (before : Flows) (port : Option Port) : State :=
  if s.supply.inForce = before then s else { s.shedWalk port with ceilingReportOwed := true }

/-- A declaration that has passed its checks (R80). -/
def State.declare (s : State) (p : Port) (flows : Flows) (validity : Nat) : State :=
  (State.post { s with supply := { s.supply with inForce := flows, validity := some validity, status := .declared } }
    .supplyDeclared none none (some p) (some flows.total)).ceilingChange s.supply.inForce (some p)

/-- New fallbacks that have passed their checks; they come into force at once in NONE and LAPSED (R83). -/
def State.replaceFallback (s : State) (p : Port) (flows : Flows) : State :=
  if s.supply.status = .declared then { s with supply := { s.supply with fallback := flows } }
  else (State.ceilingChange { s with supply := { s.supply with fallback := flows, inForce := flows } } s.supply.inForce (some p))

/-- The lapse of a declaration whose validity timer has run out (R81). -/
def State.lapse (s : State) : State :=
  if s.supply.status = .declared ∧ s.supply.validity = some 0 then
    (State.post { s with supply := { s.supply with inForce := s.supply.fallback, status := .lapsed, validity := none } }
      .supplyLapsed none none none (some s.supply.fallback.total)).ceilingChange s.supply.inForce none
  else s

/-! ### The two directives, up to the report to the engine -/

/-- DECLARE-SUPPLY: the check of its fields, then the declaration (R79, R80). -/
def State.runDeclare (s : State) (p : Port) (flows : FlowFields) (validity : Nat) : State × Answer :=
  (checkDeclaration (s.strict p) flows validity).orRange s fun v clamped => (s.declare p v.1 v.2, .done clamped)

/-- SET-FALLBACK: the check of its fields, then the replacement (R83). -/
def State.runSetFallback (s : State) (p : Port) (flows : FlowFields) : State × Answer :=
  (checkFlows (s.strict p) flows).orRange s fun v clamped => (s.replaceFallback p v, .done clamped)

/-- The Supply Monitor takes a supply event: a directive comes to its completion, or the declaration lapses. -/
def State.takeSupplyEvent (s : State) : SupplyEvent → State
  | .declare p flows validity => s.complete p (.declareSupply flows validity) fun t => t.runDeclare p flows validity
  | .fallback p flows => s.complete p (.setFallback flows) fun t => t.runSetFallback p flows
  | .lapse => s.lapse

/-! ### Supply events inside a selection -/

/-- A supply event comes to the Supply Monitor inside a selection. A directive that still waits for its turn is taken up before it completes (R173); while another
directive is EXECUTING, whose own selection this then is, it is not (log entry 30). -/
def State.takeAtPoint (s : State) (ev : SupplyEvent) : State :=
  match ev with
  | .lapse => s.takeSupplyEvent ev
  | .declare _ _ _ => s.takeUp.takeSupplyEvent ev
  | .fallback _ _ => s.takeUp.takeSupplyEvent ev

/-- A point of a selection passes: the supply events that have no point left are taken, in the order they were sent; the others come one point nearer (R87,
R124; log entry 10). -/
def State.passPoint (s : State) : State :=
  (s.supplyInFlight.filter fun e => decide (e.points = 0)).foldl (fun t e => t.takeAtPoint e.event)
    { s with supplyInFlight := (s.supplyInFlight.filter fun e => decide (e.points ≠ 0)).map fun e => { e with points := e.points - 1 } }

end Sys2Proof.Machine
end

