-- ==== Sys2Proof/Machine/Triage.lean ====
section
/-! DEFINITION. Triage: which frost candidates are admitted at the ceilings in force, and what follows from a change of the admitted set (R156 to R158,
R160). -/

namespace Sys2Proof.Machine

/-- A feasible frost candidate with its required flow (R156). -/
structure Feasible where
  zone : ZoneId
  programme : Programme
  required : Nat
  deriving DecidableEq, Repr

/-- The feasible candidate that a zone is, if any (R156). -/
def State.feasible (s : State) (z : ZoneId) : Option Feasible :=
  if (s.zone z).frostCandidate then
    match (s.zone z).programme with
    | some p => p.required.map fun r => ⟨z, p, r⟩
    | none => none
  else none

/-- Inserts before the first member that does not stand earlier in triage order. -/
def Feasible.insert (a : Feasible) : List Feasible → List Feasible
  | [] => [a]
  | b :: rest =>
    if a.programme.frostRank < b.programme.frostRank ∨ (a.programme.frostRank = b.programme.frostRank ∧ a.zone ≤ b.zone) then a :: b :: rest
    else b :: Feasible.insert a rest

/-- The feasible candidates in triage order (R157). -/
def State.triageOrder (s : State) : List Feasible := (zoneIds.filterMap s.feasible).foldr Feasible.insert []

/-- The outcome of triage: the loads and the admitted zones with their required flows. -/
structure Admission where
  loads : Flows
  zones : List (ZoneId × Nat)
  deriving DecidableEq, Repr

/-- The three conditions on which triage admits a zone (R157). -/
def Admission.admits (ceilings : Flows) (a : Admission) (c : Feasible) : Bool :=
  decide (c.programme.flow ≤ ceilings.header[c.programme.header] ∧ c.programme.flow ≤ ceilings.total ∧
    a.loads.header[c.programme.header] + c.required ≤ ceilings.header[c.programme.header] ∧
    a.loads.total + c.required ≤ ceilings.total)

/-- Tries one zone; an admitted zone's required flow joins the loads (R157). -/
def Admission.consider (ceilings : Flows) (a : Admission) (c : Feasible) : Admission :=
  if a.admits ceilings c then ⟨a.loads.add c.programme.header c.required, a.zones ++ [(c.zone, c.required)]⟩
  else a

/-- The admission that triage forms at the ceilings in force (R157). -/
def State.admission (s : State) : Admission := s.triageOrder.foldl (Admission.consider s.supply.inForce) ⟨.zero, []⟩

/-- The required flow of an admitted zone, absent for an excluded one. -/
def Admission.required (a : Admission) (z : ZoneId) : Option Nat := (a.zones.find? fun e => decide (e.1 = z)).map (·.2)

/-- The zone as triage leaves it: admitted with its required flow, or out of the set with its overdue mark clear (R158). -/
def Zone.judged (x : Zone) (r : Option Nat) : Zone :=
  match r with
  | some q => { x with admitted := true, requiredFlow := some q }
  | none => { x with admitted := false, requiredFlow := none, overdue := false }

/-- The new admitted set and loads replace the old ones (R158). -/
def State.admitAll (s : State) (a : Admission) : State :=
  { s.mapZones (fun z x => x.judged (a.required z)) with loads := a.loads }

/-- Sets the overdue mark of an admitted zone that is overdue and posts ZONE-OVERDUE, where the mark is clear (R160). -/
def State.markOverdue (s : State) (z : ZoneId) : State :=
  let x := s.zone z
  if x.admitted && x.dryTooLong && !x.overdue then
    (s.updZone z fun x => { x with overdue := true }).post .zoneOverdue (some z) x.header none (some x.dryClock)
  else s

/-- The zones that join the set with their dry clock at or above their max dry are overdue at once (R158). That their notices come in ascending zone number is
a DESIGN CHOICE (log entry 25), unsafe; that a zone which was admitted before is left to OVERDUE is DEDUCED (log entry 26), unsafe. -/
def State.markJoined (s : State) (before : List ZoneId) : State :=
  s.forZones zoneIds fun z t => if z ∈ before then t else t.markOverdue z

/-- Posts TRIAGE-CHANGED where the admitted set differs from the one before (R158). -/
def State.reportTriage (s : State) (before : List ZoneId) : State :=
  if s.admittedSet = before then s else s.post .triageChanged none none none (some (s.admittedSet.length : Int))

/-- One run of triage (R157, R158). -/
def State.triage (s : State) : State :=
  ((s.admitAll s.admission).markJoined s.admittedSet).reportTriage s.admittedSet

/-- Triage is rerun while frost is armed (R158). -/
def State.retriage (s : State) : State := if s.armed then s.triage else s

end Sys2Proof.Machine
end

