-- ==== Sys2Proof/Machine/Selection.lean ====
section
/-! DEFINITION. Selections (R124): the open command (R38, R50), the quota selection (R129, R130), the manual walk (R116), the frost selection (R161), pops
(R110), and the selection that a ceiling change inside a selection makes afterwards (R84, R87). -/

namespace Sys2Proof.Machine

/-! ### The open command -/

/-- Steps 1 to 6 of the open command (R38). The programme it opens with is remembered until the next opening (R46, R51). -/
def Zone.opening (x : Zone) (p : Programme) (tag : UseTag) : Zone :=
  { x with valve := .opening, energised := true, useTag := some tag, fillTimer := some p.fill, sensePhase := .awaiting,
           senseTimer := some Config.senseSeconds, timeInState := 0, opened := some ⟨p.header, p.flow⟩, lockedSinceOpen := false,
           endedBy := none }

/-- The Meter Unit takes an OPENING report: the header's interval is settling and has been drawn on (R50, R58). -/
def State.markOpening (s : State) (h : HeaderId) : State := s.updMeter h fun m => { m with settling := true, drawn := true }

/-- The OPENING reports in their order: committed flow rises and the open flow is checked, then the Meter Unit; the engine needs nothing of it
(R50, R76, R87). -/
def State.openingReports (s : State) (p : Programme) : State :=
  ((s.raiseCommitted ⟨p.header, p.flow⟩).shedWalk none).markOpening p.header

/-- The open command. It is refused, with the channel unchanged, unless the channel is SHUT, carries no lockout and is defined. A fill time of 0 s takes a
channel still in OPENING to WET in the same event (R38, R39). -/
def State.openChannel (s : State) (z : ZoneId) (tag : UseTag) : State :=
  match (s.zone z).programme with
  | none => s
  | some p =>
    if (s.zone z).valve = .shut ∧ (s.zone z).lockout = none then
      let s1 := s.updZone z fun x => x.opening p tag
      let s2 := State.openingReports { s1 with energising := s1.energising ++ [z] } p
      if p.fill = 0 ∧ (s2.zone z).valve = .opening then s2.enterWet z else s2
    else s

/-! ### Quota selection -/

/-- A selection on its way: the state, and whether a NO-ROOM or a waiting entry has ended it. -/
structure Progress where
  state : State
  ended : Bool

/-- Goes through a list in order until the selection ends. -/
def Progress.through {α : Type} (l : List α) (f : State → α → Progress) (s : State) : Progress :=
  l.foldl (fun r a => if r.ended then r else f r.state a) ⟨s, false⟩

/-- A visit becomes OPEN with a target and a volume, and its guard is started on what is owed (R131, R132). -/
def Zone.startVisit (x : Zone) (p : Programme) (target volume : Nat) : Zone :=
  { x with visit := .openVisit, visitTarget := some target, visitVolume := volume,
           guardTimer := some (guardSeconds p.fill p.flow (target - volume)) }

/-- Continues a suspended visit: off the list, target and volume kept (R129). -/
def State.continueVisit (s : State) (z : ZoneId) (p : Programme) : State :=
  State.openChannel
    { s.updZone z (fun x => x.startVisit p (x.visitTarget.getD 0) x.visitVolume) with
      planner := { s.planner with suspended := s.planner.suspended.filter (fun i => decide (i ≠ z)) } } z .quota

/-- Sets up a new visit and opens the zone (R131). -/
def State.newVisit (s : State) (z : ZoneId) (p : Programme) : State :=
  (s.updZone z fun x => x.startVisit p (visitTarget x.effectiveQuota p.cycles x.quotaVolume) 0).openChannel z .quota

/-- The planner asks whether the zone fits (R77): on FITS it goes on with `openZone`, on NO-ROOM it ends with `otherwise`. The Supply Monitor can take its other
events before the question, and between the answer FITS and the OPENING report (R87, R124). -/
def State.ifFits (s : State) (p : Programme) (openZone : State → State) (otherwise : State → State) : Progress :=
  let t := s.passPoint
  if t.fits p then ⟨openZone t.passPoint, false⟩ else ⟨otherwise t, true⟩

/-- First phase, one zone of the suspended list (R129). -/
def State.suspendedStep (s : State) (z : ZoneId) : Progress :=
  match (s.zone z).programme with
  | some p => if s.eligible z then s.ifFits p (fun t => t.continueVisit z p) id else ⟨s, false⟩
  | none => ⟨s, false⟩

/-- The pointer moves to position `n`; the round count rises where the pointer has passed the end of the ring to get there (R130). -/
def State.movePointer (s : State) (n : Nat) (passed : Bool) : State :=
  { s with planner := { s.planner with pointer := n, round := if passed then wrapAdd Config.countTop s.planner.round 1 else s.planner.round } }

/-- Second phase, ring position `k` (R130): an opening moves the pointer to the position after it, a NO-ROOM moves it here. -/
def State.ringStep (s : State) (k : Nat) : Progress :=
  match s.ring[k]? with
  | none => ⟨s, false⟩
  | some z =>
    match (s.zone z).programme with
    | none => ⟨s, false⟩
    | some p =>
      if s.eligible z && !decide (z ∈ s.planner.suspended) then
        let after := if k + 1 < s.ring.length then k + 1 else 0
        s.ifFits p (fun t => (t.movePointer after (decide (after ≤ s.planner.pointer))).newVisit z p)
          (fun t => t.movePointer k (decide (k < s.planner.pointer)))
      else ⟨s, false⟩

/-- The ring positions in the order of the scan: from the pointer on, and from the first after the last (R130). -/
def State.scanOrder (s : State) : List Nat := (List.range s.ring.length).map fun i => (s.planner.pointer + i) % s.ring.length

/-- The quota selection: the suspended list first, and the ring where no NO-ROOM has ended it (R129, R130). -/
def State.quotaSelect (s : State) : State :=
  let first := Progress.through s.planner.suspended State.suspendedStep s
  if first.ended then first.state else (Progress.through first.state.scanOrder State.ringStep first.state).state

/-! ### Frost selection -/

/-- An admitted zone that frost selection examines, with its slack (R161). -/
structure Urgent where
  zone : ZoneId
  programme : Programme
  slack : Int
  deriving DecidableEq, Repr

/-- The zone as frost selection examines it: admitted, its channel SHUT, defined and free of lockout (R161). -/
def State.urgent (s : State) (z : ZoneId) : Option Urgent :=
  let x := s.zone z
  if x.admitted && decide (x.valve = .shut) && x.lockout.isNone then x.programme.map fun p => ⟨z, p, x.slack p⟩ else none

/-- Stands before another in frost selection, or is the same: least slack, then lowest rank, then lowest zone number (R161). -/
def Urgent.notAfter (a b : Urgent) : Bool :=
  decide (a.slack < b.slack) ||
    (decide (a.slack = b.slack) &&
      (decide (a.programme.frostRank < b.programme.frostRank) ||
        (decide (a.programme.frostRank = b.programme.frostRank) && decide (a.zone ≤ b.zone))))

/-- Inserts before the first that it is not after. -/
def Urgent.insert (a : Urgent) : List Urgent → List Urgent
  | [] => [a]
  | b :: rest => if a.notAfter b then a :: b :: rest else b :: Urgent.insert a rest

/-- The zones in the order of frost selection (R161). -/
def State.frostOrder (s : State) : List Urgent := (zoneIds.filterMap s.urgent).foldr Urgent.insert []

/-- Starts a frost visit with its full dwell and opens the zone (R162). -/
def State.frostVisit (s : State) (z : ZoneId) (p : Programme) : State :=
  (s.updZone z fun x => { x with frostVisit := true, dwellRemaining := some p.dwell }).openChannel z .frost

/-- One zone of the frost selection (R161). -/
def State.frostStep (s : State) (u : Urgent) : Progress := s.ifFits u.programme (fun t => t.frostVisit u.zone u.programme) id

/-- The frost selection (R161). -/
def State.frostSelect (s : State) : State := (Progress.through s.frostOrder State.frostStep s).state

/-! ### The manual walk -/

/-- The manual run list in force; empty where there is none. -/
def Engine.entries (e : Engine) : List Entry := e.manual.getD []

/-- Sets the state of entry `i` of the run list. -/
def State.setEntry (s : State) (i : Nat) (e : EntryState) : State :=
  { s with engine := { s.engine with manual := s.engine.manual.map fun l => l.modify i fun x => { x with state := e } } }

/-- Passes an entry over and posts MANUAL-SKIPPED (R116). -/
def State.skipEntry (s : State) (i : Nat) (z : ZoneId) (value : Int) : State :=
  (s.setEntry i .skipped).post .manualSkipped (some z) (s.zone z).header none (some value)

/-- One entry of the walk, acting only at a WAITING entry (R116). -/
def State.walkStep (s : State) (i : Nat) : Progress :=
  match s.engine.entries[i]? with
  | none => ⟨s, false⟩
  | some e =>
    if e.state = .waiting then
      match (s.zone e.zone).programme with
      | none => ⟨s.skipEntry i e.zone 2, false⟩
      | some p =>
        if (s.zone e.zone).lockout.isSome then ⟨s.skipEntry i e.zone 1, false⟩
        else if (s.zone e.zone).valve ≠ .shut then ⟨s, true⟩
        else s.ifFits p (fun t => (t.setEntry i .running).openChannel e.zone .manual) id
    else ⟨s, false⟩

/-- The walk of the manual run list in list order (R116). -/
def State.walk (s : State) : State := (Progress.through (List.range s.engine.entries.length) State.walkStep s).state

/-- No entry is left in WAITING or RUNNING: the list is complete (R116). -/
def State.listComplete (s : State) : Bool := s.engine.entries.all fun e => e.state = .done || e.state = .skipped

/-! ### Pops -/

/-- Takes the top frame off the stack and restores its regime and state, or enters IDLE; REGIME-CHANGED is posted (R110, R111). -/
def State.restore (s : State) (port : Option Port) : State :=
  let s' :=
    match s.engine.stack.getLast? with
    | none => { s with engine := { s.engine with regime := .idle, manual := none } }
    | some (.quota pointer round) =>
      { s with
        engine := { s.engine with regime := .quota, manual := none, stack := s.engine.stack.dropLast }
        planner := { s.planner with pointer := pointer, round := round } }
    | some (.manual entries) =>
      { s with engine := { s.engine with regime := .manual, manual := some entries, stack := s.engine.stack.dropLast } }
  s'.post .regimeChanged none none port (some (s'.engine.regime.number : Int))

/-- A restored manual run list has nothing left to run (R110). -/
def Engine.nothingWaiting (e : Engine) : Bool := decide (e.regime = .manual) && e.entries.all fun x => x.state ≠ .waiting

/-- A pop up to its selection: a MANUAL frame restored with no entry in WAITING is popped again, with the same port (R110; log entry 13). -/
def State.pop (s : State) (port : Option Port) : State :=
  let s' := s.restore port
  if s'.engine.nothingWaiting then s'.restore port else s'

/-! ### Selections -/

/-- A selection by the regime in force (R124). A walk that leaves the list complete pops, and the restored regime makes its selection (R116); there is at most
one such turn for each frame of the stack, and `n` counts them. -/
def State.selectTurns : Nat → State → State
  | 0, s => s
  | n + 1, s =>
    if s.engine.runState = .running then
      match s.engine.regime with
      | .idle => s
      | .quota => s.quotaSelect
      | .frost => s.frostSelect
      | .manual =>
        let s' := s.walk
        if s'.listComplete then State.selectTurns n (s'.pop none) else s'
    else s

/-- One selection (R124). -/
def State.selectOnce (s : State) : State := s.selectTurns (s.engine.stack.length + 1)

/-- The engine takes the report of the ceiling changes made inside a selection after it, as an event of its own: triage while frost is armed, then a selection,
in which further changes can come (R84, R124; log entry 10). Each turn but the first takes a supply event that was in flight, so `n` counts those. -/
def State.reportTurns : Nat → State → State
  | 0, s => s
  | n + 1, s =>
    if s.ceilingReportOwed then State.reportTurns n (State.retriage { s with ceilingReportOwed := false }).selectOnce else s

/-- After a selection, the reports of the ceiling changes made inside it (R124). -/
def State.reportAfter (s : State) : State := s.reportTurns (s.supplyInFlight.length + 1)

/-- A selection, with the report of a ceiling change taken while it was made (R124). -/
def State.select (s : State) : State := s.selectOnce.reportAfter

/-- The report of a ceiling change reaches the engine: triage while frost is armed, then a selection (R84). -/
def State.reportCeilings (s : State) : State :=
  if s.ceilingReportOwed then (State.retriage { s with ceilingReportOwed := false }).select else s

end Sys2Proof.Machine
end

