-- ==== Sys2Proof/Machine/Arrival.lean ====
section
/-! DEFINITION. Arrival at SHUT: the application of edits (R17, R18) and its hand-off (R19, R30), the SHUT reports (R51), drive faults (R43), lockout
requests (R45), the recomputation of effective quotas (R104). -/

namespace Sys2Proof.Machine

/-! ### Effective quotas -/

/-- Recomputes all 32 effective quotas (R104, R105). -/
def State.recomputeQuotas (s : State) : State := s.mapZones fun z x => { x with effectiveQuota := s.quotaShare z }

/-! ### Application of an edit -/

/-- The zone with a full programme applied (R17) or made undefined (R18); its pending edit is gone. -/
def Zone.applied (x : Zone) (e : PendingEdit) : Zone :=
  match e with
  | .edit p =>
    { x with programme := some p, pendingEdit := none,
             cyclesRemaining := if x.programme.isSome then min x.cyclesRemaining p.cycles else p.cycles }
  | .clear => { x with programme := none, pendingEdit := none, cyclesRemaining := 0 }

/-- Applies an edit to the record, and clears the zone's suspended visit (R17, R18). -/
def State.applyEdit (s : State) (z : ZoneId) (e : PendingEdit) : State := (s.updZone z fun x => x.applied e).dropSuspended z

/-- Defined state, enabled field or quota differs (R19). -/
def quotaInputsDiffer (a b : Zone) : Bool :=
  decide (a.programme.isSome ≠ b.programme.isSome) || decide (a.programme.map (·.enabled) ≠ b.programme.map (·.enabled)) ||
    decide (a.programme.map (·.quota) ≠ b.programme.map (·.quota))

/-- The hand-off of an application to the Night Clock and the frost planner; `before` is the zone as it was (R19). -/
def State.handOff (s : State) (z : ZoneId) (before : Zone) : State :=
  let s1 := if decide (z ∈ s.ring) && quotaInputsDiffer before (s.zone z) then s.recomputeQuotas else s
  if before.frostCandidate || (s1.zone z).frostCandidate then s1.retriage else s1

/-- The hold of a group becomes FREE where it is RELEASING and no pending edit belongs to the group any more (R30). -/
def State.landEdit (s : State) (g : GroupId) : State :=
  match s.hold (groupEntry g) with
  | .releasing _ => if s.deferredCount g = 0 then s.setHold (groupEntry g) .free else s
  | .held _ => s
  | .free => s

/-- The hand-off to the Hold Table: the groups that the pending edit belonged to (R19, R30). -/
def State.landEdits (s : State) (before : Zone) : State :=
  (groupIds.filter fun g => before.editBelongs g).foldl State.landEdit s

/-- An edit applied at its directive, with its hand-off up to the selection (R14, R15, R19). -/
def State.applyNow (s : State) (z : ZoneId) (e : PendingEdit) : State := (s.applyEdit z e).handOff z (s.zone z)

/-- The Zone Table's part of a SHUT report: the pending edit, if any, is applied and handed off (R20). -/
def State.applyPending (s : State) (z : ZoneId) : State :=
  match (s.zone z).pendingEdit with
  | some e => (s.applyNow z e).landEdits (s.zone z)
  | none => s

/-! ### Lockouts -/

/-- Sets a lockout on a zone without one and posts ZONE-LOCKED; a lockout already held keeps its kind (R44, R46). -/
def State.setLockout (s : State) (z : ZoneId) (k : Lockout) : State :=
  let x := s.zone z
  if x.lockout = none then
    (s.updZone z fun x => { x with lockout := some k, lockedSinceOpen := true }).post .zoneLocked (some z) x.openedHeader none
      (some (k.number : Int))
  else s

/-! ### Manual entries -/

/-- A RUNNING entry whose opening has ended for the given cause (R117). -/
def Entry.finish (x : Entry) (e : Ending) : Entry :=
  match e with
  | .runTimeSpent | .closeZone => { x with state := .done, remaining := 0 }
  | .lockout => { x with state := .skipped }
  | .shed | .stop | .preemption => { x with state := .waiting }
  | .targetReached | .guardExpired | .windowClosed | .allotmentReached | .stopQuota | .periodRoll | .cancelManual | .dwellEnd =>
    { x with state := .waiting }

/-- The entry runs on this zone. -/
def Entry.runsOn (x : Entry) (z : ZoneId) : Bool := decide (x.state = .running ∧ x.zone = z)

/-- The engine takes the SHUT report of a manual channel: its RUNNING entry becomes DONE, WAITING or SKIPPED, a lockout with MANUAL-SKIPPED value 3 (R117). -/
def State.finishEntry (s : State) (z : ZoneId) (e : Ending) : State :=
  if s.engine.entries.any (·.runsOn z) then
    let s' := { s with engine := { s.engine with manual := s.engine.manual.map fun l => l.map fun x => if x.runsOn z then x.finish e else x } }
    if e = .lockout then s'.post .manualSkipped (some z) (s.zone z).header none (some 3) else s'
  else s

/-! ### The SHUT reports -/

/-- What the engine is told at a SHUT report (R51): the use tag the channel had, whether it left OPENING or WET directly by a drive fault, whether WET
ended, and the cause recorded at the CLOSING report, if any. -/
structure ShutReport where
  tag : Option UseTag
  direct : Bool
  wetEnded : Bool
  cause : Option Ending
  deriving DecidableEq, Repr

/-- The cause that ends a manual entry at its SHUT report: a drive fault counts as a lockout (R117). -/
def ShutReport.ending (r : ShutReport) : Ending := if r.direct then .lockout else r.cause.getD .stop

/-- The engine's bookkeeping at a SHUT report, by use tag (R117, R133, R138, R162). -/
def State.takeShut (s : State) (z : ZoneId) (r : ShutReport) : State :=
  match r.tag with
  | some .quota => (s.endOpenVisit z .dropped).updZone z fun x => { x with soakTimer := 0 }
  | some .manual => s.finishEntry z r.ending
  | some .frost => if r.direct then s.endFrostVisit z else s
  | none => s

/-- Triage is rerun at the SHUT report of a channel whose zone was locked out since it last left SHUT, where the zone, but for the lockout, was a frost
candidate with the programme it was opened with (R158; log entry 21). -/
def State.triageAtShut (s : State) (before : Zone) : State :=
  if before.lockedSinceOpen && before.frostMember then s.retriage else s

/-- The SHUT reports in their order: Supply Monitor, Meter Unit, Zone Table, Rotation Engine; then one selection (R51). -/
def State.shutReports (s : State) (z : ZoneId) (r : ShutReport) : State :=
  let x := s.zone z
  let s1 := s.lowerCommitted x.opened
  let s2 := if r.direct && r.wetEnded then s1.markSettling x.openedHeader else s1
  let s3 := s2.applyPending z
  let s4 := (s3.takeShut z r).startDryClock z (r.direct && r.wetEnded)
  (s4.triageAtShut x).select

/-- The channel in SHUT: output and timers off, use tag absent (R41, R43). -/
def Zone.shut (x : Zone) : Zone :=
  { x with valve := .shut, energised := false, fillTimer := none, closeTimer := none, senseTimer := none, useTag := none, timeInState := 0 }

/-- The close timer has expired: the channel enters SHUT (R41). -/
def State.reachShut (s : State) (z : ZoneId) : State :=
  let x := s.zone z
  (s.updZone z Zone.shut).shutReports z ⟨x.useTag, false, false, x.endedBy⟩

/-- A drive fault in OPENING or WET: straight to SHUT with lockout DRIVE-FAULT (R43). -/
def State.driveFault (s : State) (z : ZoneId) : State :=
  let x := s.zone z
  if x.isOpen then
    (((s.updZone z Zone.shut).leaveOrders z).setLockout z .driveFault).shutReports z ⟨x.useTag, true, decide (x.valve = .wet), none⟩
  else s

/-! ### Lockout requests -/

/-- A lockout set on a SHUT channel is reported to the engine by itself: triage reruns where the zone was a frost candidate, and a changed admitted set is a
selection event (R45, R123, R158). -/
def State.lockoutWhileShut (s : State) (z : ZoneId) : State :=
  let s' := if (s.zone z).frostMember then s.retriage else s
  if s'.admittedSet = s.admittedSet then s' else s'.select

/-- A lockout request of the Meter Unit (R45). -/
def State.requestLockout (s : State) (z : ZoneId) (k : Lockout) : State :=
  let x := s.zone z
  if x.lockout = none then
    let s' := s.setLockout z k
    match x.valve with
    | .opening => s'.closeChannel z .lockout
    | .wet => s'.closeChannel z .lockout
    | .closing => s'
    | .shut => s'.lockoutWhileShut z
  else s

/-- The Valve Sequencer takes the oldest lockout request on its way, and acts on the zone as the request finds it; none while the RESET line is asserted (R45,
R53; log entry 28). -/
def State.takeLockoutRequest (s : State) : State :=
  match s.lockoutRequests with
  | [] => s
  | r :: rest => s.live fun t => State.requestLockout { t with lockoutRequests := rest } r.zone r.kind

end Sys2Proof.Machine
end

