-- ==== Sys2Proof/Machine/Regimes.lean ====
section
/-! DEFINITION. Changes of regime and run state: pushes (R109), arming and disarming in the engine (R163, R164), stops (R120); the climate evaluation
(R146 to R148). -/

namespace Sys2Proof.Machine

/-! ### Pushes -/

/-- Enters a regime: the frames stand under it, REGIME-CHANGED is posted (R109, R111, R112, R115). -/
def State.enterRegime (s : State) (r : Regime) (manual : Option (List Entry)) (stack : List Frame) (port : Option Port) : State :=
  State.post { s with engine := { s.engine with regime := r, manual := manual, stack := stack } } .regimeChanged none none port (some (r.number : Int))

/-- The QUOTA frame of the pointer and round count as they stand (R108). -/
def State.quotaFrame (s : State) : Frame := .quota s.planner.pointer s.planner.round

/-- How frost arming records a RUNNING entry in the frame: by what has ended its opening, or WAITING where its channel is still open (R117). -/
def State.framedEntry (s : State) (e : Entry) : Entry :=
  if e.state = .running then e.finish ((s.zone e.zone).endedBy.getD .preemption) else e

/-- The entries that frost arming records SKIPPED each post MANUAL-SKIPPED value 3 (R117). That they do so in the order of the run list is a DESIGN CHOICE (log
entry 25), unsafe. -/
def State.reportFramed (s : State) (es : List Entry) : State :=
  es.foldl (fun t e =>
    if e.state = .running ∧ (t.zone e.zone).endedBy = some .lockout then
      t.post .manualSkipped (some e.zone) (t.zone e.zone).header none (some 3)
    else t) s

/-- Frost arming pushes a frame of the regime in force and closes that regime's open channels, and enters FROST (R109 steps 1 to 3). -/
def State.pushFrost (s : State) : State :=
  match s.engine.regime with
  | .idle => s.enterRegime .frost none s.engine.stack none
  | .quota => (s.closeTagged .quota .preemption).enterRegime .frost none (s.engine.stack ++ [s.quotaFrame]) none
  | .manual =>
    ((s.reportFramed s.engine.entries).closeTagged .manual .preemption).enterRegime .frost none
      (s.engine.stack ++ [.manual (s.engine.entries.map s.framedEntry)]) none
  | .frost => s

/-! ### Arming and disarming -/

/-- The arming changes (R109 step 4, R163): PAUSED becomes RUNNING, dry clocks and overdue marks are cleared, and triage runs. -/
def State.armingChanges (s : State) : State :=
  State.triage
    { s.mapZones (fun _ x => { x with dryClock := 0, overdue := false }) with
      engine := { s.engine with runState := if s.engine.runState = .paused then .running else s.engine.runState } }

/-- The engine takes an arming (R109, R163). -/
def State.takeArming (s : State) : State := s.pushFrost.armingChanges.select

/-- The frost planner takes a disarming (R164 step 1). -/
def State.clearAdmitted (s : State) : State :=
  { s.mapZones (fun _ x => { x with admitted := false, requiredFlow := none, overdue := false }) with loads := .zero }

/-- The engine takes a disarming: the pop, with its selection (R110, R164). -/
def State.takeDisarming (s : State) (port : Option Port) : State := (s.clearAdmitted.pop port).select

/-- Frost arms from DISARMED: FROST-ARMED is filed before the engine's notices (R147, R149, R152). -/
def State.armFrost (s : State) (target : FrostState) (inhibit : Bool) (port : Option Port) (value : Int) : State :=
  State.takeArming
    (State.post { s with climate := { s.climate with frost := target, thawTimer := 0, inhibit := inhibit } } .frostArmed none none port (some value))

/-- Frost disarms: FROST-DISARMED is filed before the engine's notice (R148, R150, R152). -/
def State.disarmFrost (s : State) (inhibit : Bool) (port : Option Port) (value : Int) : State :=
  State.takeDisarming
    (State.post { s with climate := { s.climate with frost := .disarmed, thawTimer := 0, inhibit := inhibit } } .frostDisarmed none none port
      (some value)) port

/-! ### The climate evaluation -/

/-- Step 1 of the evaluation: only a report that leaves it warm clears inhibit (R147, R151). -/
def Climate.judgeInhibit (c : Climate) (isReport : Bool) : Climate := if isReport && c.warm then { c with inhibit := false } else c

/-- Step 2 of the evaluation, by frost state (R147, R148). -/
def State.judgeFrost (s : State) (port : Option Port) : State :=
  let c := s.climate
  match c.frost with
  | .disarmed => if !c.inhibit && c.cold then s.armFrost .armedAuto c.inhibit port 1 else s
  | .armedAuto =>
    if c.warm then
      if c.limits.thawHold ≤ c.thawTimer then s.disarmFrost c.inhibit none 1 else s
    else { s with climate := { c with thawTimer := 0 } }
  | .armedManual => s

/-- The number of each frost state (R152, R171). -/
def FrostState.number : FrostState → Nat
  | .disarmed => 0
  | .armedAuto => 1
  | .armedManual => 2

/-- Step 3 of the evaluation: CLIMATE-STALE where the condition has gone from FRESH to STALE while armed (R147, R152). -/
def State.judgeStale (s : State) (wasFresh : Bool) : State :=
  if wasFresh && s.climate.effective.isNone && s.armed then
    s.post .climateStale none none none (some (s.climate.frost.number : Int))
  else s

/-- The recomputation of the effective temperature and the climate evaluation that follows it (R146, R147). `port` is the port whose directive caused it. -/
def State.evaluateClimate (s : State) (isReport : Bool) (port : Option Port) : State :=
  (State.judgeFrost
    { s with climate := Climate.judgeInhibit { s.climate with effective := lowest s.climate.freshTemperatures } isReport } port).judgeStale
      s.climate.effective.isSome

/-! ### Stops -/

/-- The engine stops: STOPPED with its cause, every OPENING or WET channel closed, STOPPED posted (R120, R121). -/
def State.stopEngine (s : State) (cause : StopCause) (port : Option Port) (value : Int) : State :=
  (State.closeAll { s with engine := { s.engine with runState := .stopped, stopCause := some cause } } .stop).post .stopped none none port (some value)

end Sys2Proof.Machine
end

