-- ==== Sys2Proof/Machine/EngineControl.lean ====
section
/-! DEFINITION. The directives of the Rotation Engine: START-QUOTA (R112), STOP-QUOTA (R113), RUN-MANUAL (R114, R115), CANCEL-MANUAL (R118), PAUSE (R119),
SHUTDOWN (R120), RESUME (R122). -/

namespace Sys2Proof.Machine

/-! ### Quota -/

/-- A QUOTA frame goes in at the bottom of the stack (R112). -/
def State.insertQuotaFrame (s : State) : State := { s with engine := { s.engine with stack := s.quotaFrame :: s.engine.stack } }

/-- START-QUOTA by where QUOTA stands (R112). -/
def State.runStartQuota (s : State) (p : Port) : State × Answer :=
  match s.engine.regime with
  | .quota => (s, .plain .already)
  | .idle => ((s.enterRegime .quota none s.engine.stack (some p)).select, .done false)
  | .manual => if s.engine.hasQuotaFrame then (s, .plain .already) else (s.insertQuotaFrame, .done false)
  | .frost => if s.engine.hasQuotaFrame then (s, .plain .already) else (s.insertQuotaFrame, .done false)

/-- START_QUOTA. -/
def execStartQuota (p : Port) (s : State) : Host.Outcome State Fault Refusal := .next (s.complete p .startQuota fun t => t.runStartQuota p)

/-- Clears the suspended list and the visits of its zones (R113). -/
def State.clearSuspended (s : State) : State := s.pruneSuspended fun _ => true

/-- The frame is a QUOTA frame. -/
def Frame.isQuota : Frame → Bool
  | .quota _ _ => true
  | .manual _ => false

/-- Takes the QUOTA frame out of the stack (R113). -/
def State.removeQuotaFrame (s : State) : State :=
  { s with engine := { s.engine with stack := s.engine.stack.filter fun f => !f.isQuota } }

/-- STOP-QUOTA by where QUOTA stands (R113). -/
def State.runStopQuota (s : State) (p : Port) : State × Answer :=
  if s.engine.regime = .quota then (((s.closeTagged .quota .stopQuota).clearSuspended.pop (some p)).select, .done false)
  else if s.engine.hasQuotaFrame then (s.removeQuotaFrame.clearSuspended, .done false)
  else (s, .plain .already)

/-- STOP_QUOTA. -/
def execStopQuota (p : Port) (s : State) : Host.Outcome State Fault Refusal := .next (s.complete p .stopQuota fun t => t.runStopQuota p)

/-! ### Manual runs -/

/-- Enters MANUAL with a new run list, from IDLE or by a push from QUOTA, and makes a selection (R109, R115). -/
def State.startManual (s : State) (p : Port) (entries : List Entry) : State :=
  let s' := if s.engine.regime = .quota then s.closeTagged .quota .preemption else s
  let stack := if s.engine.regime = .quota then s.engine.stack ++ [s.quotaFrame] else s.engine.stack
  (s'.enterRegime .manual (some entries) stack (some p)).select

/-- The entries of a new run list, all WAITING with their full run time (R115). -/
def newEntries (zones : List ZoneId) (times : List Nat) : List Entry := (zones.zip times).map fun e => ⟨e.1, e.2, e.2, .waiting⟩

/-- RUN-MANUAL, after its range checks: every zone defined, then the regime decides (R114 steps 4 and 5, R115). -/
def State.takeRunManual (s : State) (p : Port) (zones : List ZoneId) (times : List Nat) (clamped : Bool) : State × Answer :=
  match zones.find? fun z => (s.zone z).programme.isNone with
  | some z => (s, .naming .undefinedZone z)
  | none =>
    match s.engine.regime with
    | .idle => (s.startManual p (newEntries zones times), .done clamped)
    | .quota => (s.startManual p (newEntries zones times), .done clamped)
    | .manual => (s, .plain .busy)
    | .frost => (s, .plain .regime)

/-- RUN-MANUAL (R114): the count, the zone numbers, the run times, then the rest. -/
def State.runRunManual (s : State) (p : Port) (entries : List (Nat × Nat)) : State × Answer :=
  if entries = [] ∨ Config.manualTop < entries.length then (s, .naming .range 0)
  else
    match zonesFrom 1 (entries.map (·.1)) with
    | .error k => (s, .naming .range (2 * k - 1))
    | .ok zones =>
      (checkRunTimes (s.strict p) 1 (entries.map (·.2))).orRange s fun times clamped => s.takeRunManual p zones times clamped

/-- RUN_MANUAL. -/
def execRunManual (p : Port) (entries : List (Nat × Nat)) (s : State) : Host.Outcome State Fault Refusal :=
  .next (s.complete p (.runManual entries) fun t => t.runRunManual p entries)

/-- Discards the manual run list in force (R118). -/
def State.discardManual (s : State) : State := { s with engine := { s.engine with manual := none } }

/-- Takes the MANUAL frame out of the stack (R118). -/
def State.removeManualFrame (s : State) : State :=
  { s with engine := { s.engine with stack := s.engine.stack.filter fun f => f.isQuota } }

/-- CANCEL-MANUAL by where MANUAL stands (R118). -/
def State.runCancelManual (s : State) (p : Port) : State × Answer :=
  if s.engine.regime = .manual then (((s.closeTagged .manual .cancelManual).discardManual.pop (some p)).select, .done false)
  else if s.engine.hasManualFrame then (s.removeManualFrame, .done false)
  else (s, .plain .already)

/-- CANCEL_MANUAL. -/
def execCancelManual (p : Port) (s : State) : Host.Outcome State Fault Refusal := .next (s.complete p .cancelManual fun t => t.runCancelManual p)

/-! ### Run control -/

/-- PAUSE by regime and run state (R119). -/
def State.runPause (s : State) : State × Answer :=
  if s.engine.regime = .frost then (s, .plain .regime)
  else if s.engine.runState = .running then ({ s with engine := { s.engine with runState := .paused } }, .done false)
  else (s, .plain .already)

/-- PAUSE. -/
def execPause (p : Port) (s : State) : Host.Outcome State Fault Refusal := .next (s.complete p .pause fun t => t.runPause)

/-- RESUME by the STOP input and the run state (R122). -/
def State.runResume (s : State) : State × Answer :=
  if s.stopLow then (s, .plain .stopLine)
  else if s.engine.runState = .running then (s, .plain .already)
  else (State.select { s with engine := { s.engine with runState := .running, stopCause := none } }, .done false)

/-- RESUME. -/
def execResume (p : Port) (s : State) : Host.Outcome State Fault Refusal := .next (s.complete p .resume fun t => t.runResume)

/-- SHUTDOWN by the run state (R120). -/
def State.runShutdown (s : State) (p : Port) : State × Answer :=
  if s.engine.runState = .stopped then (s, .plain .already) else (s.stopEngine (.shutdown p) (some p) 1, .done false)

/-- SHUTDOWN. -/
def execShutdown (p : Port) (s : State) : Host.Outcome State Fault Refusal := .next (s.complete p .shutdown fun t => t.runShutdown p)

end Sys2Proof.Machine
end

