-- ==== Sys2Proof/Machine/Holds.lean ====
section
/-! DEFINITION. The Hold Table: TAKE-HOLD (R28), RELEASE-HOLD (R29), BREAK-HOLD (R31), and the hold checks of other directives (R13, R27). -/

namespace Sys2Proof.Machine

/-! ### Hold checks

A check reads the table as it stands when the directive has its effect, at its completion (R27, R173). So an entry that a break has made FREE under the directive
(R33) refuses it, but for SET-METER and SET-PERIOD (R55, R91). -/

/-- The first of the groups whose entry is not HELD by the port (R13). -/
def State.firstNotHeld (s : State) (p : Port) (gs : List GroupId) : Option GroupId := gs.find? fun g => decide (s.hold (groupEntry g) ≠ .held p)

/-- Goes on where every group is HELD by the requester; else RELEASING or NOT-HOLDER, naming the first group that is not (R7, R13, R27). -/
def State.requireGroups (s : State) (p : Port) (gs : List GroupId) (run : State × Answer) : State × Answer :=
  match s.firstNotHeld p gs with
  | none => run
  | some g => (s, .naming (if s.hold (groupEntry g) = .releasing p then .releasing else .notHolder) g)

/-- Goes on where `held` says that the plan hold is the requester's; else NOT-HOLDER, naming entry 8 (R27). -/
def State.requirePlanIf (s : State) (held : Bool) (run : State × Answer) : State × Answer :=
  if held then run else (s, .naming .notHolder planEntry)

/-- Goes on where the plan hold is HELD by the requester (R9, R27). -/
def State.requirePlan (s : State) (p : Port) (run : State × Answer) : State × Answer := s.requirePlanIf (decide (s.hold planEntry = .held p)) run

/-- A break has come under the EXECUTING directive, and the port held the plan hold then. -/
def Mailbox.heldPlanAtBreak : Mailbox → Bool
  | .executing _ broken => broken.getD false
  | .empty => false
  | .pending _ => false

/-- The plan hold is HELD by the requester, or was when its port was reinitialised under the directive (R33, R55, R91; log entry 29). -/
def State.heldPlanFor (s : State) (p : Port) : Bool := decide (s.hold planEntry = .held p) || (s.port p).mailbox.heldPlanAtBreak

/-- Goes on where the plan hold is HELD by the requester, or was at a break under the directive: for SET-METER and SET-PERIOD, which then have their effect
nevertheless (R27, R55, R91; log entry 29). -/
def State.requirePlanOverBreak (s : State) (p : Port) (run : State × Answer) : State × Answer := s.requirePlanIf (s.heldPlanFor p) run

/-! ### Directives -/

/-- The holder's port letter and the state of its entry (R171). -/
def holderBytes (p : Port) (releasing : Bool) : List Byte := natBytes 1 p.number ++ natBytes 1 (if releasing then 2 else 1)

/-- TAKE-HOLD by the state of the entry (R28). -/
def State.runTakeHold (s : State) (p : Port) (e : EntryId) : State × Answer :=
  match s.hold e with
  | .free => (s.setHold e (.held p), .done false)
  | .held q => if q = p then (s, .plain .already) else (s, ⟨.heldElsewhere, false, holderBytes q false⟩)
  | .releasing q => if q = p then (s.setHold e (.held p), .done false) else (s, ⟨.heldElsewhere, false, holderBytes q true⟩)

/-- TAKE_HOLD. -/
def execTakeHold (p : Port) (entry : Nat) (s : State) : Host.Outcome State Fault Refusal :=
  .next (s.complete p (.takeHold entry) fun t => withIndex 9 entry t fun e => t.runTakeHold p e)

/-- Pending edits are outstanding for the entry: it is a group's, and one belongs to the group (R25, R29). -/
def State.outstanding (s : State) (e : EntryId) : Bool :=
  match indexOf 8 e.val with
  | some g => decide (0 < s.deferredCount g)
  | none => false

/-- RELEASE-HOLD by the state of the entry and the count of its group (R29). -/
def State.runReleaseHold (s : State) (p : Port) (e : EntryId) : State × Answer :=
  if s.hold e = .held p then
    if s.outstanding e then (s.setHold e (.releasing p), .plain .deferred) else (s.setHold e .free, .done false)
  else (s, .naming .notHolder e)

/-- RELEASE_HOLD. -/
def execReleaseHold (p : Port) (entry : Nat) (s : State) : Host.Outcome State Fault Refusal :=
  .next (s.complete p (.releaseHold entry) fun t => withIndex 9 entry t fun e => t.runReleaseHold p e)

/-- An entry is freed by BREAK-HOLD: HOLD-BROKEN names the former holder and the entry (R31, R32). -/
def State.breakEntry (s : State) (e : EntryId) (holder : Port) : State :=
  (s.setHold e .free).post .holdBroken none none (some holder) (some (e.val : Int))

/-- BREAK-HOLD by the state of the entry (R31). That its DONE names the holder and the state as HELD-ELSEWHERE does is a DESIGN CHOICE (log entry 12), unsafe. -/
def State.runBreakHold (s : State) (e : EntryId) : State × Answer :=
  match s.hold e with
  | .held q => (s.breakEntry e q, .result (holderBytes q false))
  | .releasing q => (s.breakEntry e q, .result (holderBytes q true))
  | .free => (s, .plain .already)

/-- BREAK_HOLD. -/
def execBreakHold (p : Port) (entry : Nat) (s : State) : Host.Outcome State Fault Refusal :=
  .next (s.complete p (.breakHold entry) fun t => withIndex 9 entry t fun e => t.runBreakHold e)

/-! ### Reinitialisation of a port -/

/-- The entry is held or being released by the port. -/
def Hold.isOf (h : Hold) (p : Port) : Bool := decide (h = .held p) || decide (h = .releasing p)

/-- Every entry of the port becomes FREE, without a notice (R33). -/
def State.freeHolds (s : State) (p : Port) : State := { s with holds := s.holds.map fun h => if h.isOf p then .free else h }

end Sys2Proof.Machine
end

