-- ==== Sys2Proof/Machine/Periods.lean ====
section
/-! DEFINITION. What the quota planner and the Night Clock do on reports: visit progress (R134), the allotment test (R140), window changes (R96, R137), period
rolls (R99, R141). -/

namespace Sys2Proof.Machine

/-! ### Visit progress and the allotment -/

/-- The visit of the zone is OPEN and its volume has reached its target (R134). -/
def Zone.targetReached (x : Zone) : Bool := decide (x.visit = .openVisit) && x.visitTarget.any fun t => decide (t ≤ x.visitVolume)

/-- Sets the allotment-reached mark and drops every OPEN visit; ALLOTMENT-REACHED carries the sum of the quota volumes in litres (R140). -/
def State.reachAllotment (s : State) (port : Option Port) : State :=
  (State.post { s with planner := { s.planner with allotmentReached := true } } .allotmentReached none none port
    (some ((s.quotaVolumeSum / 100 : Nat) : Int))).closeVisits (fun _ => true) .allotmentReached

/-- The allotment test; `port` is the port of the SET-PERIOD that changed the allotment (R140). -/
def State.testAllotment (s : State) (port : Option Port) : State :=
  if s.allotmentDue then
    if s.planner.allotmentReached then s else s.reachAllotment port
  else { s with planner := { s.planner with allotmentReached := false } }

/-- The planner takes a visit progress report: the listed zones whose visit has reached its target complete, in ascending zone number, then the allotment
test is made (R134). -/
def State.takeProgress (s : State) (zs : List ZoneId) : State :=
  (s.forZones zs fun z t => if (t.zone z).targetReached then t.closeChannel z .targetReached else t).testAllotment none

/-! ### Windows -/

/-- The zone's programme names one of the groups. -/
def Zone.inGroups (gs : List GroupId) (x : Zone) : Bool := x.programme.any fun p => decide (p.group ∈ gs)

/-- Stores the present result in the window flag of a group. -/
def State.storeWindow (s : State) (g : GroupId) : State := s.updGroup g fun x => { x with windowOpen := s.windowNow g }

/-- Evaluates the windows of the groups: changed flags are stored and, unless the RESET line is asserted, reported; the planner takes the closings, suspending open
visits in ascending zone number (R92, R96, R137). Answers whether a window opened, which is a selection event. -/
def State.evaluateWindows (s : State) (gs : List GroupId) : State × Bool :=
  let closed := gs.filter fun g => (s.group g).windowOpen && !s.windowNow g
  let opened := gs.filter fun g => !(s.group g).windowOpen && s.windowNow g
  let s1 := gs.foldl State.storeWindow s
  (if s.resetLow then s1 else s1.closeVisits (Zone.inGroups closed) .windowClosed, !opened.isEmpty)

/-! ### Period rolls -/

/-- Steps 1 and 2 of the roll: last-period volumes are set and the period volumes cleared (R99). -/
def Zone.closePeriod (x : Zone) : Zone :=
  { x with lastPeriodVolume := x.quotaVolume / 100, quotaVolume := 0, manualVolume := 0, frostVolume := 0 }

/-- The planner takes a period roll: open visits dropped, the suspended list cleared, cycles remaining set to the programmed cycles, the mark cleared
(R141). -/
def State.takeRoll (s : State) : State :=
  let s1 := (s.closeVisits (fun _ => true) .periodRoll).pruneSuspended fun _ => true
  { s1.mapZones (fun _ x => { x with cyclesRemaining := (x.programme.map (·.cycles)).getD 0 }) with
    planner := { s1.planner with allotmentReached := false } }

/-- A period roll, up to the selection; `cause` is the value of PERIOD-ROLLED (R99, R100). -/
def State.rollPeriod (s : State) (cause : Int) (port : Option Port) : State :=
  ((s.mapZones fun _ x => x.closePeriod).recomputeQuotas.post .periodRolled none none port (some cause)).takeRoll

end Sys2Proof.Machine
end

