-- ==== Sys2Proof/Machine/Meters.lean ====
section
/-! DEFINITION. The Meter Unit: pulses (R56, R57), apportionment (R60 to R63), the interval expiry (R59, R65 to R70) and SET-METER (R71, R72). -/

namespace Sys2Proof.Machine

/-! ### Pulses -/

/-- One divided pulse; a pulse that finds P at its greatest value is lost, and the first such in an interval posts METER-SATURATED (R57). -/
def State.dividedPulse (s : State) (h : HeaderId) : State :=
  if (s.meter h).count < Config.countTop then s.updMeter h fun m => { m with count := m.count + 1 }
  else if (s.meter h).saturated then s
  else (s.updMeter h fun m => { m with saturated := true }).post .meterSaturated none (some h) none none

/-- A raw pulse: the residue rises, and at the divisor it returns to 0 and one divided pulse is counted (R56). -/
def State.rawPulse (s : State) (h : HeaderId) : State :=
  if (s.meter h).residue + 1 < (s.meter h).divisor then s.updMeter h fun m => { m with residue := m.residue + 1 }
  else (s.updMeter h fun m => { m with residue := 0 }).dividedPulse h

/-- RAW_PULSE; no pulse is counted while the RESET line is asserted (R73). -/
def execRawPulse (h : HeaderId) (s : State) : Host.Outcome State Fault Refusal := .next (s.live fun t => t.rawPulse h)

/-! ### Apportionment -/

/-- V, the volume of the current interval (R59). -/
def Meter.volume (m : Meter) : Nat := m.count * m.weight

/-- The share of the zone at place `i` of S, by its flow `q`: `V × q / Q` rounded down, and one centilitre more for the first R zones (R61). -/
def share (v total remainder q i : Nat) : Nat := v * q / total + if i < remainder then 1 else 0

/-- The shares of a volume among the zones of S, in the order of S (R61). -/
def State.shares (s : State) (members : List ZoneId) (v : Nat) : List (ZoneId × Nat) :=
  let total := sumOver members fun z => (s.zone z).openedFlow
  let remainder := v - sumOver members fun z => v * (s.zone z).openedFlow / total
  members.zipIdx.map fun e => (e.1, share v total remainder (s.zone e.1).openedFlow e.2)

/-- Credits a share to the period volume of the channel's use tag, and to the visit volume of an OPEN quota visit (R62). -/
def Zone.credit (x : Zone) (a : Nat) : Zone :=
  match x.useTag with
  | some .quota =>
    { x with quotaVolume := satAdd Config.volumeTop x.quotaVolume a,
             visitVolume := if x.visit = .openVisit then satAdd Config.volumeTop x.visitVolume a else x.visitVolume }
  | some .manual => { x with manualVolume := satAdd Config.volumeTop x.manualVolume a }
  | some .frost => { x with frostVolume := satAdd Config.volumeTop x.frostVolume a }
  | none => x

/-- Adds V to the metered total, and to the stray total where S is empty, else to the attributed total (R61, R63). -/
def Meter.addVolume (m : Meter) (v : Nat) (idle : Bool) : Meter :=
  { m with metered := wrapAdd Config.volumeTop m.metered v,
           attributed := if idle then m.attributed else wrapAdd Config.volumeTop m.attributed v,
           stray := if idle then wrapAdd Config.volumeTop m.stray v else m.stray }

/-- Apportions and credits the interval volume of a header (R60 to R63). -/
def State.apportion (s : State) (h : HeaderId) : State :=
  let members := s.drawingSet h
  let v := (s.meter h).volume
  ((s.shares members v).foldl (fun t e => t.updZone e.1 fun x => x.credit e.2) s).updMeter h fun m => m.addVolume v members.isEmpty

/-- The list of the visit progress report: the QUOTA-tagged zones of S whose visit is OPEN; no report where S holds no QUOTA-tagged zone (R64). -/
def State.progressReport (s : State) (h : HeaderId) : Option (List ZoneId) :=
  let tagged := (s.drawingSet h).filter fun z => (s.zone z).useTag = some .quota
  if tagged = [] then none else some (tagged.filter fun z => (s.zone z).visit = .openVisit)

/-- The planner takes the report, if one was made (R64, R134). -/
def State.reportProgress (s : State) (r : Option (List ZoneId)) : State :=
  match r with
  | some zs => s.takeProgress zs
  | none => s

/-- The next interval begins: count and saturated mark cleared, the marks set afresh from channel state, the timer restarted (R58, R59 step 8). -/
def State.beginInterval (s : State) (h : HeaderId) : State :=
  s.updMeter h fun m =>
    { m with count := 0, saturated := false, timer := m.interval,
             settling := (s.drawingSet h).any fun z => (s.zone z).valve ≠ .wet,
             drawn := !(s.drawingSet h).isEmpty }

/-! ### The flow test -/

/-- F, the measured flow of a full interval (R65). -/
def Meter.flow (m : Meter) : Nat := m.volume * 60 / (100 * m.interval)

/-- E, the expected flow (R66). -/
def State.expectedFlow (s : State) (h : HeaderId) : Nat := sumOver (s.wetSet h) fun z => (s.zone z).openedFlow

/-- The result of the flow test of a full interval: none where it is untested or settling, or passes (R66, R67). -/
def Meter.test (m : Meter) (expected : Nat) : Option Direction :=
  if !m.checks || m.settling then none
  else if 0 < expected then
    if m.flow * 100 < expected * (100 - m.tolerance) then some .low
    else if expected * (100 + m.tolerance) < m.flow * 100 then some .high
    else none
  else if m.drawn then none
  else if m.strayThreshold < m.flow then some .stray
  else none

/-- The run after an interval with the given result, and whether it has reached length 2, when it is back at 0 (R68). -/
def advanceRun (run result : Option Direction) : Option Direction × Bool :=
  match result with
  | none => (none, false)
  | some d => if run = some d then (none, true) else (some d, false)

/-- The notice of each direction (R69). -/
def Direction.notice : Direction → NoticeKind
  | .low => .lowFlow
  | .high => .highFlow
  | .stray => .strayFlow

/-- The lockout that each direction asks for (R69). -/
def Direction.lockout : Direction → Option Lockout
  | .low => some .noFlow
  | .high => some .burst
  | .stray => none

/-- The only zone of a list, if it has exactly one. -/
def onlyZone : List ZoneId → Option ZoneId
  | [z] => some z
  | _ => none

/-- Posts the flow notice of a run that has reached length 2, if one has; it names the zone where exactly one is WET (R69, R70). -/
def State.postFlow (s : State) (h : HeaderId) (called : Option Direction) (only : Option ZoneId) (flow : Nat) : State :=
  match called with
  | some d => s.post d.notice (if d = .stray then none else only) (some h) none (some (flow : Int))
  | none => s

/-- The lockout request that a run which has reached length 2 calls for, where exactly one zone is WET (R69). The Valve Sequencer takes it at once, or later, after
events that reach it before (R41, R45; log entry 28). -/
def State.sendLockout (s : State) (called : Option Direction) (only : Option ZoneId) (later : Bool) : State :=
  match called.bind Direction.lockout, only with
  | some k, some z => if later then { s with lockoutRequests := s.lockoutRequests ++ [⟨z, k⟩] } else s.requestLockout z k
  | _, _ => s

/-- The expiry of a header's interval timer (R59). `order` says when the planner takes the progress report, beside the flow notice and the lockout request (R45, R69,
R133, R182; log entry 9). -/
def State.expireInterval (s : State) (h : HeaderId) (order : ExpiryOrder) : State :=
  let m := s.meter h
  let result := m.test (s.expectedFlow h)
  let run := advanceRun m.run result
  let called := if run.2 then result else none
  let only := onlyZone (s.wetSet h)
  let report : State → State := fun t => t.reportProgress (s.progressReport h)
  let notice : State → State := fun t => t.postFlow h called only m.flow
  let request : State → State := fun t => t.sendLockout called only false
  let requestLater : State → State := fun t => t.sendLockout called only true
  let s1 := (s.apportion h).updMeter h fun m' => { m' with lastFlow := m.flow, run := run.1 }
  let s2 :=
    match order with
    | .progressFirst => request (notice (report s1))
    | .noticeFirst => request (report (notice s1))
    | .lockoutFirst => report (request (notice s1))
    | .lockoutLater => requestLater (notice (report s1))
    | .noticeFirstLockoutLater => requestLater (report (notice s1))
  s2.beginInterval h

/-- INTERVAL_TIMER_EXPIRY. -/
def execIntervalTimerExpiry (h : HeaderId) (order : ExpiryOrder) (s : State) : Host.Outcome State Fault Refusal :=
  .next (s.live fun t => if (t.meter h).timer = 0 then t.expireInterval h order else t)

/-! ### SET-METER -/

/-- The header with its new settings; a new divisor discards the residue, and the run ends (R72 steps 2, 3 and 5). -/
def Meter.withSettings (m : Meter) (v : MeterSettings) : Meter :=
  { m with residue := if v.divisor = m.divisor then m.residue else 0,
           divisor := v.divisor, weight := v.weight, interval := v.interval, tolerance := v.tolerance, strayThreshold := v.strayThreshold,
           checks := v.checks, run := none }

/-- A SET-METER that has passed its checks: close-out, residue, settings, new interval, run (R72). -/
def State.replaceMeter (s : State) (h : HeaderId) (v : MeterSettings) : State :=
  ((((s.apportion h).reportProgress (s.progressReport h)).updMeter h fun m => m.withSettings v)).beginInterval h

/-- SET-METER (R71, R72). -/
def State.runSetMeter (s : State) (p : Port) (header : Nat) (fields : MeterFields) : State × Answer :=
  withIndex 4 header s fun h =>
    (checkMeter (s.strict p) fields).orRange s fun v clamped => s.requirePlanOverBreak p (s.replaceMeter h v, .done clamped)

/-- SET_METER. -/
def execSetMeter (p : Port) (header : Nat) (fields : MeterFields) (s : State) : Host.Outcome State Fault Refusal :=
  .next (s.complete p (.setMeter header fields) fun t => t.runSetMeter p header fields)

end Sys2Proof.Machine
end

