-- ==== Sys2Proof/Machine/NightClock.lean ====
section
/-! DEFINITION. The Night Clock: SECOND_ADVANCE (R92, R97), SET-CLOCK (R94), NEW-PERIOD (R101), SET-PERIOD (R102, R103), SET-WINDOW (R7); and every count that
moves once a second (log entry 2). -/

namespace Sys2Proof.Machine

/-! ### What a second counts -/

/-- The counts of one zone: running timers fall, time in state and soak timer rise (R37, R52, R132, R138, R159, R162). -/
def Zone.countSecond (x : Zone) (armed : Bool) : Zone :=
  { x with
    fillTimer := x.fillTimer.map (· - 1)
    closeTimer := x.closeTimer.map (· - 1)
    senseTimer := x.senseTimer.map (· - 1)
    timeInState := satAdd Config.countTop x.timeInState 1
    guardTimer := x.guardTimer.map (· - 1)
    soakTimer := satAdd Config.countTop x.soakTimer 1
    dryClock := if armed && decide (x.valve ≠ .wet) then satAdd Config.countTop x.dryClock 1 else x.dryClock
    dwellRemaining := if x.valve = .wet then x.dwellRemaining.map (· - 1) else x.dwellRemaining }

/-- A RUNNING entry counts down while its channel is in WET (R117). -/
def State.countEntry (s : State) (e : Entry) : Entry :=
  if e.state = .running ∧ (s.zone e.zone).valve = .wet then { e with remaining := e.remaining - 1 } else e

/-- The age of a present slot rises (R144). -/
def Slot.countSecond (x : Slot) : Slot := { x with age := satAdd Config.countTop x.age 1 }

/-- The slots age, and the thaw-hold timer rises in ARMED-AUTO while it is warm, up to the thaw hold (R144, R148; log entry 17). -/
def Climate.countSecond (c : Climate) : Climate :=
  { c with
    slots := c.slots.map fun x => x.map Slot.countSecond
    thawTimer := if c.frost = .armedAuto ∧ c.warm ∧ c.thawTimer < c.limits.thawHold then c.thawTimer + 1 else c.thawTimer }

/-- Every count of the part but the clock's moves by one second; none while the RESET line is asserted. -/
def State.countSecond (s : State) : State :=
  { s.mapZones (fun _ x => x.countSecond s.armed) with
    meters := s.meters.map fun m => { m with timer := m.timer - 1 }
    supply := { s.supply with validity := s.supply.validity.map (· - 1) }
    climate := s.climate.countSecond
    engine := { s.engine with manual := s.engine.manual.map fun l => l.map s.countEntry } }

/-! ### The clock -/

/-- The second of day advances; past the last it becomes 0 and the day count rises (R92). -/
def Clock.advance (c : Clock) : Clock :=
  if c.second < Config.lastSecond then { c with second := c.second + 1 }
  else { c with second := 0, day := wrapAdd Config.countTop c.day 1 }

/-- The present minute change is a pass of the start minute (R97). -/
def Clock.passes (c : Clock) : Bool := c.valid && decide (c.minute = c.startMinute)

/-- A pass: the days into period rise, and at the period length the period rolls, or the pending roll mark is set while the RESET line is asserted
(R92, R97). Answers whether it rolled. -/
def State.takePass (s : State) : State × Bool :=
  if s.clock.daysInto + 1 = s.clock.periodLength then
    if s.resetLow then ({ s with clock := { s.clock with daysInto := 0, pendingRoll := true } }, false)
    else (State.rollPeriod { s with clock := { s.clock with daysInto := 0 } } 1 none, true)
  else ({ s with clock := { s.clock with daysInto := s.clock.daysInto + 1 } }, false)

/-- A selection where the event calls for one. -/
def State.selectIf (s : State) (due : Bool) : State := if due then s.select else s

/-- A minute change: the windows are evaluated and reported, then the pass is taken, then one selection is made for both (R92, R96, R97). -/
def State.minuteChange (s : State) : State :=
  let w := s.evaluateWindows groupIds
  let r := if w.1.clock.passes then w.1.takePass else (w.1, false)
  r.1.selectIf (!s.resetLow && (w.2 || r.2))

/-- The clock's part of SECOND_ADVANCE (R92). -/
def State.advanceClock (s : State) : State :=
  let s' := { s with clock := s.clock.advance }
  if s'.clock.second % 60 = 0 then s'.minuteChange else s'

/-- SECOND_ADVANCE: one second passes for every count, then for the clock, which runs on while the RESET line is asserted (R92; log entry 2). -/
def execSecondAdvance (s : State) : Host.Outcome State Fault Refusal := .next (s.live State.countSecond).advanceClock

/-! ### Directives -/

/-- SET-CLOCK (R94). -/
def State.runSetClock (s : State) (p : Port) (day second : Nat) : State × Answer :=
  ((checkNat (s.strict p) 0 0 Config.countTop day).andThen fun d =>
    (checkNat (s.strict p) 1 0 Config.lastSecond second).andThen fun v => .ok (d, v) false).orRange s fun v clamped =>
      let w := State.evaluateWindows { s with clock := { s.clock with day := v.1, second := v.2, valid := true } } groupIds
      (w.1.selectIf w.2, .done clamped)

/-- SET_CLOCK. -/
def execSetClock (p : Port) (day second : Nat) (s : State) : Host.Outcome State Fault Refusal :=
  .next (s.complete p (.setClock day second) fun t => t.runSetClock p day second)

/-- NEW-PERIOD (R101). -/
def State.runNewPeriod (s : State) (p : Port) : State × Answer :=
  ((State.rollPeriod { s with clock := { s.clock with daysInto := 0 } } 2 (some p)).select, .done false)

/-- NEW_PERIOD. -/
def execNewPeriod (p : Port) (s : State) : Host.Outcome State Fault Refusal := .next (s.complete p .newPeriod fun t => t.runNewPeriod p)

/-- The settings of a SET-PERIOD that has passed its checks (R103 steps 1 and 2). -/
def Clock.withSettings (c : Clock) (v : PeriodSettings) : Clock :=
  { c with periodLength := v.length, startMinute := v.startMinute, allotment := v.allotment,
           daysInto := if c.daysInto < v.length then c.daysInto else v.length - 1 }

/-- A SET-PERIOD that has passed its checks; a changed allotment has the quotas recomputed and the allotment tested, and is a selection event (R103, R123,
R140). -/
def State.replacePeriod (s : State) (p : Port) (v : PeriodSettings) : State :=
  let s' := { s with clock := s.clock.withSettings v }
  if s.clock.allotment = v.allotment then s' else (s'.recomputeQuotas.testAllotment (some p)).select

/-- SET-PERIOD (R102, R103). -/
def State.runSetPeriod (s : State) (p : Port) (length startMinute allotment : Nat) : State × Answer :=
  (checkPeriod (s.strict p) length startMinute allotment).orRange s fun v clamped => s.requirePlanOverBreak p (s.replacePeriod p v, .done clamped)

/-- SET_PERIOD. -/
def execSetPeriod (p : Port) (length startMinute allotment : Nat) (s : State) : Host.Outcome State Fault Refusal :=
  .next (s.complete p (.setPeriod length startMinute allotment) fun t => t.runSetPeriod p length startMinute allotment)

/-- A SET-WINDOW that has passed its checks: the fields are replaced and evaluated at once (R7, R96). -/
def State.replaceWindow (s : State) (g : GroupId) (start finish : Nat) : State :=
  let w := (s.updGroup g fun x => { x with start := start, finish := finish }).evaluateWindows [g]
  w.1.selectIf w.2

/-- SET-WINDOW (R7). -/
def State.runSetWindow (s : State) (p : Port) (group start finish : Nat) : State × Answer :=
  withIndex 8 group s fun g =>
    (checkWindow (s.strict p) start finish).orRange s fun v clamped =>
      s.requireGroups p [g] (s.replaceWindow g v.1 v.2, .done clamped)

/-- SET_WINDOW. -/
def execSetWindow (p : Port) (group start finish : Nat) (s : State) : Host.Outcome State Fault Refusal :=
  .next (s.complete p (.setWindow group start finish) fun t => t.runSetWindow p group start finish)

end Sys2Proof.Machine
end

