-- ==== Sys2Proof/Machine/Planners.lean ====
section
/-! DEFINITION. The planners' own events: the guard (R134), the soak (R138), the dwell (R162), the run time of a manual entry (R117), overdue zones
(R160). -/

namespace Sys2Proof.Machine

/-- The shortfall of a visit: its target less its volume (R134). -/
def Zone.shortfall (x : Zone) : Int := (x.visitTarget.getD 0 : Int) - x.visitVolume

/-- The visit completes by its guard: the channel is closed and SHORT-VISIT posted (R134). -/
def State.expireGuard (s : State) (z : ZoneId) : State :=
  (s.closeChannel z .guardExpired).post .shortVisit (some z) (s.zone z).header none (some (s.zone z).shortfall)

/-- GUARD_TIMER_EXPIRY (R134). -/
def execGuardTimerExpiry (z : ZoneId) (s : State) : Host.Outcome State Fault Refusal :=
  .next (s.live fun t => if (t.zone z).visit = .openVisit ∧ (t.zone z).guardTimer = some 0 then t.expireGuard z else t)

/-- The soak timer stands at the zone's soak while it is defined and SHUT (R138). -/
def Zone.soaked (x : Zone) : Bool := decide (x.valve = .shut) && x.programme.any fun p => decide (x.soakTimer = p.soak)

/-- SOAK_REACHED: a selection event (R138; log entry 17). -/
def execSoakReached (z : ZoneId) (s : State) : Host.Outcome State Fault Refusal :=
  .next (s.live fun t => if (t.zone z).soaked then t.select else t)

/-- DWELL_END: the engine closes the channel, in whatever regime (R162, R164). -/
def execDwellEnd (z : ZoneId) (s : State) : Host.Outcome State Fault Refusal :=
  .next (s.live fun t => if (t.zone z).frostVisit && decide ((t.zone z).dwellRemaining = some 0) then t.closeChannel z .dwellEnd else t)

/-- A RUNNING entry on the zone has no seconds left (R117). -/
def State.runTimeSpent (s : State) (z : ZoneId) : Bool := s.engine.entries.any fun e => e.runsOn z && decide (e.remaining = 0)

/-- RUN_TIME_SPENT: the engine closes the channel; the entry stays RUNNING until the SHUT report (R117). -/
def execRunTimeSpent (z : ZoneId) (s : State) : Host.Outcome State Fault Refusal :=
  .next (s.live fun t =>
    if t.runTimeSpent z && decide ((t.zone z).valve = .wet ∧ (t.zone z).useTag = some .manual) then t.closeChannel z .runTimeSpent else t)

/-- OVERDUE: while frost is armed, an admitted zone whose dry clock has reached its max dry is marked and reported once (R160). -/
def execOverdue (z : ZoneId) (s : State) : Host.Outcome State Fault Refusal :=
  .next (s.live fun t => if t.armed then t.markOverdue z else t)

end Sys2Proof.Machine
end

