-- ==== Sys2Proof/Machine/Power.lean ====
section
/-! DEFINITION. POWER_ON, the RESET line (R4, R5, R21, R26, R53, R54, R73, R89, R92, R107, R126, R143, R155, R186) and the STOP line (R121). -/

namespace Sys2Proof.Machine

/-! ### Power -/

/-- POWER_ON: every block takes its power-on values; the STOP level and the commands that wait are outside the part (R4; log entries 6 and 8). -/
def execPowerOn (strapsA strapsB strapsC : Straps) (s : State) : Host.Outcome State Fault Refusal :=
  .next (.powerOn strapsA strapsB strapsC s.stopLow s.pending)

/-! ### RESET asserted -/

/-- The channel while the RESET line is asserted: output low and timers stopped; state, use tag, lockout and places in the orders are kept (R53). -/
def Zone.silenced (x : Zone) : Zone := { x with energised := false, fillTimer := none, closeTimer := none, senseTimer := none }

/-- A port when the RESET line is asserted: the executing directive is abandoned, the queues are emptied (R169, R172, R186; log entry 8). -/
def PortState.silenced (q : PortState) : PortState := { q with mailbox := .empty, replies := [], notices := [], overflow := false }

/-- The RESET line falls low (R26, R53, R73, R89, R172, R186). -/
def State.assertReset (s : State) : State :=
  { s.mapZones (fun _ x => x.silenced) with
    holds := Vector.replicate 9 .free
    supply := { s.supply with validity := none }
    ports := s.ports.map PortState.silenced
    resetLow := true
    supplyInFlight := []
    ceilingReportOwed := false
    lockoutRequests := [] }

/-- RESET_ASSERTED. -/
def execResetAsserted (s : State) : Host.Outcome State Fault Refusal := .next (if s.resetLow then s else s.assertReset)

/-! ### RESET released -/

/-- A zone at release, but for its pending edit (R5, R54, R126, R155). -/
def Zone.released (x : Zone) : Zone :=
  { x.shut.noVisit with
    endedBy := none, dryClock := 0, overdue := false, admitted := false, requiredFlow := none, frostVisit := false, dwellRemaining := none }

/-- A meter channel at release (R73). -/
def Meter.released (m : Meter) : Meter :=
  { m with residue := 0, count := 0, saturated := false, settling := false, drawn := false, timer := m.interval, run := none }

/-- A port at release: as at power-on, the straps read again; the level of its receive line is outside the part (R166, R167, R169, R172, R176,
R186). -/
def PortState.released (q : PortState) (x : Straps) : PortState := { PortState.powerOn x with lineLow := q.lineLow }

/-- The release changes of all blocks but the Zone Table's pending edits and the Night Clock's pending roll. -/
def State.releaseBlocks (s : State) (strapsA strapsB strapsC : Straps) : State :=
  { s.mapZones (fun _ x => x.released) with
    energising := []
    wetOrder := []
    holds := Vector.replicate 9 .free
    meters := s.meters.map Meter.released
    supply := { s.supply with inForce := s.supply.fallback, committed := .zero, status := .none, validity := none }
    climate := { Climate.powerOn with limits := s.climate.limits }
    engine := .powerOn s.stopLow
    planner := { s.planner with suspended := [] }
    loads := .zero
    ports := ⟨s.ports.a.released strapsA, s.ports.b.released strapsB, s.ports.c.released strapsC⟩
    lastServed := .c
    resetLow := false
    supplyInFlight := []
    ceilingReportOwed := false
    lockoutRequests := [] }

/-- The zones with a pending edit, in ascending zone number. -/
def State.pendingZones (s : State) : List ZoneId := zoneIds.filter fun z => (s.zone z).pendingEdit.isSome

/-- Applies the pending edit of a zone without hand-off (R21). -/
def State.applyAtRelease (s : State) (z : ZoneId) : State :=
  match (s.zone z).pendingEdit with
  | some e => s.applyEdit z e
  | none => s

/-- Every pending edit is applied in ascending zone number, then the effective quotas are recomputed once where any was (R5, R21). -/
def State.applyAllPending (s : State) : State :=
  if s.pendingZones = [] then s else (s.forZones s.pendingZones fun z t => t.applyAtRelease z).recomputeQuotas

/-- The roll of a boundary that fell during the assertion, with cause 3. The selection it calls for finds the engine IDLE (R92, R99, R100). -/
def State.rollPending (s : State) : State :=
  if s.clock.pendingRoll then State.rollPeriod { s with clock := { s.clock with pendingRoll := false } } 3 none else s

/-- The RESET line is released. -/
def State.releaseReset (s : State) (strapsA strapsB strapsC : Straps) : State :=
  (s.releaseBlocks strapsA strapsB strapsC).applyAllPending.rollPending

/-- RESET_RELEASED. -/
def execResetReleased (strapsA strapsB strapsC : Straps) (s : State) : Host.Outcome State Fault Refusal :=
  .next (if s.resetLow then s.releaseReset strapsA strapsB strapsC else s)

/-! ### STOP -/

/-- The engine takes an assertion of the STOP input (R121). -/
def State.takeStop (s : State) : State :=
  match s.engine.runState with
  | .running => s.stopEngine .stopLine none 2
  | .paused => s.stopEngine .stopLine none 2
  | .stopped =>
    if s.engine.stopCause = some .stopLine then s
    else State.post { s with engine := { s.engine with stopCause := some .stopLine } } .stopped none none none (some 2)

/-- STOP_ASSERTED: the level is held; unless the RESET line is asserted, the engine acts on it (R121). -/
def execStopAsserted (s : State) : Host.Outcome State Fault Refusal :=
  .next (if s.stopLow then s else State.live { s with stopLow := true } State.takeStop)

/-- STOP_RELEASED: nothing changes in the engine (R121). -/
def execStopReleased (s : State) : Host.Outcome State Fault Refusal := .next { s with stopLow := false }

end Sys2Proof.Machine
end

