-- ==== Sys2Proof/Machine/ClimateMonitor.lean ====
section
/-! DEFINITION. The Climate Monitor: SLOT_EXPIRY (R144), THAW_HOLD_EXPIRY (R148), REPORT-TEMPERATURE (R145), ARM-FROST (R149), DISARM-FROST (R150) and
SET-FROST-LIMITS (R153). -/

namespace Sys2Proof.Machine

/-- Sets the climate slot of a port. -/
def State.setSlot (s : State) (p : Port) (x : Option Slot) : State := { s with climate := { s.climate with slots := s.climate.slots.set p x } }

/-- A slot expiry: the slot stops being fresh, and the climate is evaluated (R144). -/
def State.expireSlot (s : State) (p : Port) : State :=
  match s.climate.slots.get p with
  | some x => if x.fresh && decide (s.climate.limits.timeout ≤ x.age) then (s.setSlot p (some { x with fresh := false })).evaluateClimate false none else s
  | none => s

/-- SLOT_EXPIRY. -/
def execSlotExpiry (p : Port) (s : State) : Host.Outcome State Fault Refusal := .next (s.live fun t => t.expireSlot p)

/-- The thaw-hold timer has reached the thaw hold in ARMED-AUTO (R148). -/
def Climate.thawed (c : Climate) : Bool := decide (c.frost = .armedAuto) && c.warm && decide (c.limits.thawHold ≤ c.thawTimer)

/-- THAW_HOLD_EXPIRY: frost disarms by itself (R148). -/
def execThawHoldExpiry (s : State) : Host.Outcome State Fault Refusal :=
  .next (s.live fun t => if t.climate.thawed then t.disarmFrost t.climate.inhibit none 1 else t)

/-- A port reinitialisation clears the port's slot, and the climate is evaluated (R143). -/
def State.clearSlot (s : State) (p : Port) : State := (s.setSlot p none).evaluateClimate false none

/-- Frost state and effective temperature, as the reply to REPORT-TEMPERATURE carries them (R145). That a presence byte stands before the effective temperature, which
is never absent after a report, is a DESIGN CHOICE (log entry 12), unsafe. -/
def State.reportBytes (s : State) : List Byte :=
  natBytes 1 s.climate.frost.number ++
    match s.climate.effective with
    | some t => natBytes 1 1 ++ intBytes 2 t
    | none => natBytes 1 0

/-- REPORT-TEMPERATURE: clamped in either mode; the slot is filled and the climate evaluated as for a report (R145). -/
def State.runReportTemperature (s : State) (p : Port) (temperature : Int) : State × Answer :=
  (checkInt false 0 (-400) 500 temperature).orRange s fun t clamped =>
    let s' := (s.setSlot p (some ⟨t, 0, true⟩)).evaluateClimate true (some p)
    (s', ⟨.done, clamped, s'.reportBytes⟩)

/-- REPORT_TEMPERATURE. -/
def execReportTemperature (p : Port) (temperature : Int) (s : State) : Host.Outcome State Fault Refusal :=
  .next (s.complete p (.reportTemperature temperature) fun t => t.runReportTemperature p temperature)

/-- ARM-FROST by the frost state; a conversion of ARMED-AUTO hands nothing to the engine (R149). -/
def State.runArmFrost (s : State) (p : Port) : State × Answer :=
  match s.climate.frost with
  | .disarmed => (s.armFrost .armedManual false (some p) 2, .done false)
  | .armedAuto =>
    (State.post { s with climate := { s.climate with frost := .armedManual, thawTimer := 0 } } .frostArmed none none (some p) (some 2), .done false)
  | .armedManual => (s, .plain .already)

/-- ARM_FROST. -/
def execArmFrost (p : Port) (s : State) : Host.Outcome State Fault Refusal := .next (s.complete p .armFrost fun t => t.runArmFrost p)

/-- DISARM-FROST by the frost state and inhibit (R150). -/
def State.runDisarmFrost (s : State) (p : Port) : State × Answer :=
  if s.armed then (s.disarmFrost true (some p) 2, .done false)
  else if s.climate.inhibit then (s, .plain .already)
  else ({ s with climate := { s.climate with inhibit := true } }, .done false)

/-- DISARM_FROST. -/
def execDisarmFrost (p : Port) (s : State) : Host.Outcome State Fault Refusal := .next (s.complete p .disarmFrost fun t => t.runDisarmFrost p)

/-- A slot judged against a report timeout (R144, R153). -/
def Slot.judged (x : Slot) (timeout : Nat) : Slot := { x with fresh := decide (x.age < timeout) }

/-- A SET-FROST-LIMITS that has passed its checks (R153). -/
def State.replaceLimits (s : State) (p : Port) (v : FrostLimits) : State :=
  State.evaluateClimate
    { s with climate := { s.climate with limits := v, slots := s.climate.slots.map fun x => x.map fun y => y.judged v.timeout } } false (some p)

/-- SET-FROST-LIMITS (R153). -/
def State.runSetFrostLimits (s : State) (p : Port) (arm disarm : Int) (thawHold timeout : Nat) : State × Answer :=
  (checkFrostLimits (s.strict p) arm disarm thawHold timeout).orRange s fun v clamped => (s.replaceLimits p v, .done clamped)

/-- SET_FROST_LIMITS. -/
def execSetFrostLimits (p : Port) (arm disarm : Int) (thawHold timeout : Nat) (s : State) : Host.Outcome State Fault Refusal :=
  .next (s.complete p (.setFrostLimits arm disarm thawHold timeout) fun t => t.runSetFrostLimits p arm disarm thawHold timeout)

end Sys2Proof.Machine
end

