-- ==== Sys2Proof/Machine/Ports.lean ====
section
/-! DEFINITION. The Port Controllers and the Directive Arbiter: characters and frames (R166 to R168), WITHDRAW (R174), breaks (R170), replies (R169),
take-up (R173), options and rights (R176, R177). -/

namespace Sys2Proof.Machine

/-! ### A complete frame -/

/-- The rights in force include a required right (R168 step 5). -/
def grants (x : Rights) : Option Right → Bool
  | none => true
  | some .program => x.program
  | some .supply => x.supply
  | some .climate => x.climate
  | some .operate => x.operate

/-- Refuses a frame, echoing its code byte and naming nothing (R168). -/
def State.refuse (s : State) (p : Port) (c : ReplyCode) (echo : Byte) : State := s.reply p ⟨c, false, echo, []⟩

/-- WITHDRAW by the state of the mailbox (R174). -/
def State.takeWithdraw (s : State) (p : Port) : State :=
  match (s.port p).mailbox with
  | .empty => s.refuse p .nothingPending Config.withdrawCode
  | .pending d =>
    (s.updPort p fun q => { q with mailbox := .empty }).reply p ⟨.withdrawn, false, Config.withdrawCode, natBytes 1 d.code⟩
  | .executing _ _ => s.refuse p .tooLate Config.withdrawCode

/-- The right and the mailbox, for a frame that has passed the checks before (R168 steps 5 and 6). -/
def State.admitDirective (s : State) (p : Port) (d : Directive) : State :=
  if grants (s.port p).rights d.right then
    if (s.port p).mailbox = .empty then s.updPort p fun q => { q with mailbox := .pending d }
    else s.refuse p .busy (BitVec.ofNat 8 d.code)
  else s.refuse p .noRight (BitVec.ofNat 8 d.code)

/-- A complete frame, from its length byte to its check byte, is checked; the first check that fails decides the reply (R168). -/
def State.checkFrame (s : State) (p : Port) (frame : List Byte) : State :=
  match readFrame frame with
  | .badCheck => s.refuse p .lineError (frameCode frame)
  | .unknown => s.refuse p .unknown (frameCode frame)
  | .withdraw => s.takeWithdraw p
  | .malformed => s.refuse p .malformed (frameCode frame)
  | .directive d => s.admitDirective p d

/-! ### The assembler -/

/-- Sets the assembler of a port. -/
def State.setAssembler (s : State) (p : Port) (a : Assembler) : State := s.updPort p fun q => { q with assembler := a }

/-- A byte after the start byte: a length byte of 0 or above 60 discards the frame; the last byte completes it (R167). -/
def State.storeByte (s : State) (p : Port) (bytes : List Byte) (b : Byte) : State :=
  match bytes with
  | [] =>
    if 1 ≤ b.toNat ∧ b.toNat ≤ Config.frameLengthTop then s.setAssembler p (.receiving [b]) else s.setAssembler p (.discarding .form none)
  | len :: rest =>
    if (len :: rest).length = len.toNat + 1 then (s.setAssembler p .idle).checkFrame p (len :: rest ++ [b])
    else s.setAssembler p (.receiving (len :: rest ++ [b]))

/-- A character without parity or framing error (R167). -/
def State.takeByte (s : State) (p : Port) (b : Byte) : State :=
  match (s.port p).assembler with
  | .idle => if b = Config.startByte then s.setAssembler p (.receiving []) else s
  | .receiving bytes => s.storeByte p bytes b
  | .discarding _ _ => s

/-- A character with a parity or framing error moves RECEIVING to DISCARDING, which keeps the code byte where one was received (R167, R171). That a code byte which
itself comes with the error is not received, so that the reply echoes 0x00, is a DESIGN CHOICE (log entry 18), unsafe. -/
def State.takeBadCharacter (s : State) (p : Port) : State :=
  match (s.port p).assembler with
  | .idle => s
  | .receiving bytes => s.setAssembler p (.discarding .line bytes[1]?)
  | .discarding _ _ => s

/-- The data bits and the parity bit hold an even count of ones (R166). -/
def evenParity (data : Byte) (parity : Bool) : Bool :=
  ((((List.range 8).filter fun i => data.getLsbD i).length + if parity then 1 else 0) % 2) == 0

/-- The port receives: the RESET line is released and its receive line is not held low by a break (R167, R170). -/
def State.receives (s : State) (p : Port) : Bool := !s.resetLow && !(s.port p).lineLow

/-- CHARACTER_RECEIVED: clean, or with a parity or framing error (R166, R167). -/
def execCharacterReceived (p : Port) (data : Byte) (parity stop : Bool) (s : State) : Host.Outcome State Fault Refusal :=
  .next (if s.receives p then (if stop && evenParity data parity then s.takeByte p data else s.takeBadCharacter p) else s)

/-- FRAME_COMPLETE: the start byte and the bytes of a whole frame arrive one after the other without an error (R167, R168; log entry 5). -/
def execFrameComplete (p : Port) (frame : List Byte) (s : State) : Host.Outcome State Fault Refusal :=
  .next (if s.receives p && wholeFrame frame then (Config.startByte :: frame).foldl (fun t b => t.takeByte p b) s else s)

/-- The reply code of each discard cause (R167). -/
def DiscardCause.reply : DiscardCause → ReplyCode
  | .line => .lineError
  | .form => .malformed

/-- A silence answers the frame under way once, and the assembler returns to IDLE (R167). -/
def State.takeSilence (s : State) (p : Port) : State :=
  match (s.port p).assembler with
  | .idle => s
  | .receiving bytes => (s.setAssembler p .idle).refuse p .malformed (bytes[1]?.getD 0#8)
  | .discarding cause code => (s.setAssembler p .idle).refuse p cause.reply (code.getD 0#8)

/-- SILENCE (R167). -/
def execSilence (p : Port) (s : State) : Host.Outcome State Fault Refusal := .next (s.live fun t => t.takeSilence p)

/-- WITHDRAW: its frame arrives whole and without an error on an IDLE assembler (R168, R174; log entry 5). -/
def execWithdraw (p : Port) (s : State) : Host.Outcome State Fault Refusal := .next (if s.receives p then s.takeWithdraw p else s)

/-! ### Breaks -/

/-- The mailbox after a reinitialisation: a PENDING directive is discarded, an EXECUTING one loses its reply (R170, R172). `held` says whether the
port holds the plan hold when the break comes; a second break keeps what the first recorded (log entry 29). -/
def Mailbox.reinitialised (held : Bool) : Mailbox → Mailbox
  | .empty => .empty
  | .pending _ => .empty
  | .executing d broken => .executing d (some (broken.getD held))

/-- The port's own part of a reinitialisation, its notice queue included (R170 steps 1 to 6, R186). -/
def PortState.reinitialised (q : PortState) (x : Straps) (held : Bool) : PortState :=
  { PortState.powerOn x with mailbox := q.mailbox.reinitialised held, lineLow := q.lineLow }

/-- A port is reinitialised; the change is handed to the Climate Monitor and the Hold Table (R170, R143, R33). -/
def State.reinitialise (s : State) (p : Port) (x : Straps) : State :=
  ((s.updPort p fun q => q.reinitialised x (decide (s.hold planEntry = .held p))).clearSlot p).freeHolds p

/-- BREAK: the line has been low for 50 ms. A line still low from a break makes no second reinitialisation, and while the RESET line is asserted the
port is held as it is (R170). -/
def execLineBreak (p : Port) (straps : Straps) (s : State) : Host.Outcome State Fault Refusal :=
  .next
    (if (s.port p).lineLow then s
    else State.live (s.updPort p fun q => { q with lineLow := true }) fun t => t.reinitialise p straps)

/-- RECEIVE_LINE_RETURNS_HIGH: a start byte and another break can come again (R170). -/
def execReceiveLineReturnsHigh (p : Port) (s : State) : Host.Outcome State Fault Refusal :=
  .next (s.updPort p fun q => { q with lineLow := false })

/-! ### Take-up and replies -/

/-- TAKE_UP; while the RESET line is asserted nothing is taken up (R173). -/
def execTakeUp (s : State) : Host.Outcome State Fault Refusal := .next (s.live State.takeUp)

/-- REPLY_SENT: the last character of the oldest reply is sent, and it leaves the queue (R169). -/
def execReplySent (p : Port) (s : State) : Host.Outcome State Fault Refusal :=
  .next (s.live fun t => t.updPort p fun q => { q with replies := q.replies.drop 1 })

/-! ### Options and rights -/

/-- SET-OPTIONS, judged under the mode in force before it (R176). -/
def State.runSetOptions (s : State) (p : Port) (mode fault supply frost plan : Nat) : State × Answer :=
  (checkOptions (s.strict p) mode fault supply frost plan).orRange s fun v clamped =>
    (s.updPort p fun q => { q with strict := v.1, filter := v.2 }, .done clamped)

/-- SET_OPTIONS. -/
def execSetOptions (p : Port) (mode fault supply frost plan : Nat) (s : State) : Host.Outcome State Fault Refusal :=
  .next (s.complete p (.setOptions mode fault supply frost plan) fun t => t.runSetOptions p mode fault supply frost plan)

/-- The rights left when those whose mark is 1 or more are removed (R177). -/
def narrowed (x : Rights) (program supply climate operate : Nat) : Rights :=
  ⟨x.program && decide (program = 0), x.supply && decide (supply = 0), x.climate && decide (climate = 0), x.operate && decide (operate = 0)⟩

/-- A set of marks as one byte, the first in bit 0 (R171). -/
def markByte (a b c d : Bool) : List Byte :=
  natBytes 1 ((if a then 1 else 0) + (if b then 2 else 0) + (if c then 4 else 0) + if d then 8 else 0)

/-- The rights as a reply carries them (R171). -/
def rightsBytes (x : Rights) : List Byte := markByte x.program x.supply x.climate x.operate

/-- NARROW-RIGHTS; either reply carries the rights in force afterwards (R177). -/
def State.runNarrowRights (s : State) (p : Port) (program supply climate operate : Nat) : State × Answer :=
  let before := (s.port p).rights
  let after := narrowed before program supply climate operate
  (s.updPort p fun q => { q with rights := after }, ⟨if after = before then .already else .done, false, rightsBytes after⟩)

/-- NARROW_RIGHTS. -/
def execNarrowRights (p : Port) (program supply climate operate : Nat) (s : State) : Host.Outcome State Fault Refusal :=
  .next (s.complete p (.narrowRights program supply climate operate) fun t => t.runNarrowRights p program supply climate operate)

end Sys2Proof.Machine
end

