-- ==== Sys2Proof/Machine/Readings.lean ====
section
/-! DEFINITION. The reading directives and the bytes of their replies (R36, R74, R90, R106, R125, R142, R165, R178 to R180, R185). An optional item is preceded
by a presence byte, a list by its count; each number takes the fewest bytes that hold its range (R171; log entry 12). -/

namespace Sys2Proof.Machine

/-! ### Items -/

/-- A yes-or-no item or a mark (R171). -/
def yesNo (b : Bool) : List Byte := natBytes 1 (if b then 1 else 0)

/-- An optional item behind its presence byte (R171). -/
def optional {α : Type} (x : Option α) (f : α → List Byte) : List Byte :=
  match x with
  | some v => natBytes 1 1 ++ f v
  | none => natBytes 1 0

/-- A list behind its count (R171). -/
def listed {α : Type} (l : List α) (f : α → List Byte) : List Byte := natBytes 1 l.length ++ (l.map f).flatten

/-- The zone number in one byte. -/
def zoneByte (z : ZoneId) : List Byte := natBytes 1 z.val

/-- The number of each valve state (R171). -/
def Valve.number : Valve → Nat
  | .shut => 0
  | .opening => 1
  | .wet => 2
  | .closing => 3

/-- The number of each visit status (R171). -/
def VisitStatus.number : VisitStatus → Nat
  | .noVisit => 0
  | .openVisit => 1
  | .suspended => 2

/-- The number of each run state (R171). -/
def RunState.number : RunState → Nat
  | .running => 0
  | .paused => 1
  | .stopped => 2

/-- The number of each manual entry state (R171). -/
def EntryState.number : EntryState → Nat
  | .waiting => 0
  | .running => 1
  | .done => 2
  | .skipped => 3

/-- The number of each declaration status (R171). -/
def Declaration.number : Declaration → Nat
  | .none => 0
  | .declared => 1
  | .lapsed => 2

/-- The number of each deviation run direction (R171). -/
def Direction.number : Direction → Nat
  | .low => 1
  | .high => 2
  | .stray => 3

/-- The line rate (R171). -/
def lineRateNumber : LineRate → Nat
  | .r9600 => 0
  | .r19200 => 1
  | .r38400 => 2
  | .r57600 => 3

/-- The thirteen fields in index order, in the widths of EDIT-ZONE (R171, R179). -/
def Programme.bytes (p : Programme) : List Byte :=
  joinWidths editWidths
    [p.header.val, p.group.val, if p.enabled then 1 else 0, p.flow, p.fill, p.closing, p.quota, p.cycles, p.soak,
      if p.frostMember then 1 else 0, p.frostRank, p.dwell, p.maxDry]

/-- A pending edit (R171). -/
def pendingBytes : Option PendingEdit → List Byte
  | none => natBytes 1 0
  | some .clear => natBytes 1 1
  | some (.edit p) => natBytes 1 2 ++ p.bytes

/-- The time left on the timer that runs, fill or close (R52). -/
def Zone.timeLeft (x : Zone) : Option Nat :=
  match x.fillTimer with
  | some n => some n
  | none => x.closeTimer

/-! ### READ-ZONE -/

/-- The reply of READ-ZONE (R179). That one presence byte stands for the thirteen fields together, and that the time left takes two bytes for the fill timer and the
close timer alike, is a DESIGN CHOICE (log entry 12), unsafe: R171 asks the fewest bytes for the stated range, R37 states 0 to 600 s for the one and 1 to 120 s for the
other, and no rule says which range the shared item of R52 takes. -/
def Zone.bytes (x : Zone) : List Byte :=
  optional x.programme Programme.bytes ++ pendingBytes x.pendingEdit ++
    natBytes 1 x.valve.number ++ optional x.useTag (fun t => natBytes 1 t.number) ++ optional x.lockout (fun k => natBytes 1 k.number) ++
    natBytes 2 x.timeInState ++ optional x.timeLeft (natBytes 2) ++
    natBytes 6 x.quotaVolume ++ natBytes 6 x.manualVolume ++ natBytes 6 x.frostVolume ++ natBytes 6 x.lastPeriodVolume ++
    natBytes 3 x.effectiveQuota ++
    natBytes 1 x.visit.number ++ optional x.visitTarget (natBytes 4) ++ natBytes 6 x.visitVolume ++ optional x.guardTimer (natBytes 2) ++
    natBytes 1 x.cyclesRemaining ++ natBytes 2 x.soakTimer ++
    yesNo x.admitted ++ optional x.requiredFlow (natBytes 2) ++ natBytes 2 x.dryClock ++ yesNo x.overdue ++ yesNo x.frostVisit ++
    optional x.dwellRemaining (natBytes 2)

/-- READ_ZONE. -/
def execReadZone (p : Port) (zone : Nat) (s : State) : Host.Outcome State Fault Refusal :=
  .next (s.complete p (.readZone zone) fun t => withIndex 32 zone t fun z => (t, .result (t.zone z).bytes))

/-! ### READ-GROUP and READ-RING -/

/-- READ_GROUP: window start and end minutes and the window flag (R106). That the flag is 1 for open and 0 for closed, which R171 does not say, is a DESIGN CHOICE (log
entry 12), unsafe. -/
def execReadGroup (p : Port) (group : Nat) (s : State) : Host.Outcome State Fault Refusal :=
  .next (s.complete p (.readGroup group) fun t => withIndex 8 group t fun g =>
    (t, .result (natBytes 2 (t.group g).start ++ natBytes 2 (t.group g).finish ++ yesNo (t.group g).windowOpen)))

/-- The reply of READ-RING (R142). -/
def State.ringBytes (s : State) : List Byte :=
  listed s.ring zoneByte ++ natBytes 1 s.planner.pointer ++ natBytes 2 s.planner.round ++ listed s.planner.suspended zoneByte ++
    yesNo s.planner.allotmentReached

/-- READ_RING. -/
def execReadRing (p : Port) (s : State) : Host.Outcome State Fault Refusal :=
  .next (s.complete p .readRing fun t => (t, .result t.ringBytes))

/-! ### READ-HEADER -/

/-- The meter's part of READ-HEADER (R74). That the deviation run is its length, then a presence byte and its direction where the length is 1, is a DESIGN CHOICE
(log entry 12), unsafe. The checks are 1 for on and 0 for off (R71). -/
def Meter.bytes (m : Meter) : List Byte :=
  natBytes 1 m.divisor ++ natBytes 2 m.weight ++ natBytes 1 m.interval ++ natBytes 1 m.tolerance ++ natBytes 2 m.strayThreshold ++ yesNo m.checks ++
    natBytes 6 m.metered ++ natBytes 6 m.attributed ++ natBytes 6 m.stray ++ natBytes 4 m.lastFlow ++
    natBytes 1 (if m.run.isSome then 1 else 0) ++ optional m.run (fun d => natBytes 1 d.number) ++
    natBytes 2 m.count ++ yesNo m.saturated ++ yesNo m.settling ++ natBytes 1 m.timer

/-- The supply's part of READ-HEADER (R90). -/
def Supply.bytes (x : Supply) (h : HeaderId) : List Byte :=
  natBytes 2 x.inForce.header[h] ++ natBytes 2 x.fallback.header[h] ++ natBytes 3 x.committed.header[h] ++
    natBytes 2 x.inForce.total ++ natBytes 2 x.fallback.total ++ natBytes 3 x.committed.total ++ natBytes 1 x.status.number ++
    optional x.validity (natBytes 2)

/-- READ_HEADER. -/
def execReadHeader (p : Port) (header : Nat) (s : State) : Host.Outcome State Fault Refusal :=
  .next (s.complete p (.readHeader header) fun t => withIndex 4 header t fun h => (t, .result ((t.meter h).bytes ++ t.supply.bytes h)))

/-! ### READ-ENGINE -/

/-- A stop cause, with the port for SHUTDOWN (R125). That a presence byte stands before the port is a DESIGN CHOICE (log entry 12), unsafe. -/
def StopCause.bytes : StopCause → List Byte
  | .shutdown p => natBytes 1 1 ++ optional (some p) (fun q => natBytes 1 q.number)
  | .stopLine => natBytes 1 2 ++ natBytes 1 0

/-- A manual entry (R125). -/
def Entry.bytes (e : Entry) : List Byte := zoneByte e.zone ++ natBytes 2 e.runTime ++ natBytes 2 e.remaining ++ natBytes 1 e.state.number

/-- A frame of the stack (R125). -/
def Frame.bytes : Frame → List Byte
  | .quota pointer round => natBytes 1 1 ++ natBytes 1 pointer ++ natBytes 2 round
  | .manual entries => natBytes 1 2 ++ listed entries Entry.bytes

/-- The reply of READ-ENGINE (R125). That the manual run list has its presence byte and then its count is a DESIGN CHOICE (log entry 12), unsafe. -/
def State.engineBytes (s : State) : List Byte :=
  natBytes 1 s.engine.regime.number ++ natBytes 1 s.engine.runState.number ++ optional s.engine.stopCause StopCause.bytes ++ yesNo s.stopLow ++
    listed s.engine.stack Frame.bytes ++ optional s.engine.manual (fun l => listed l Entry.bytes)

/-- READ_ENGINE. -/
def execReadEngine (p : Port) (s : State) : Host.Outcome State Fault Refusal :=
  .next (s.complete p .readEngine fun t => (t, .result t.engineBytes))

/-! ### READ-CLIMATE -/

/-- A slot: temperature, age and whether it is fresh (R165); no port letter stands before it (log entry 12). -/
def Slot.bytes (x : Slot) : List Byte := intBytes 2 x.temperature ++ natBytes 2 x.age ++ yesNo x.fresh

/-- The reply of READ-CLIMATE (R165). That no count byte stands before the three slots, nor before the four header loads, which R171 gives a list, is a DESIGN CHOICE
(log entry 12), unsafe. -/
def State.climateBytes (s : State) : List Byte :=
  let c := s.climate
  (allPorts.map fun p => optional (c.slots.get p) Slot.bytes).flatten ++
    yesNo c.effective.isSome ++ optional c.effective (intBytes 2) ++ natBytes 1 c.frost.number ++ yesNo c.inhibit ++
    intBytes 1 c.limits.arm ++ intBytes 1 c.limits.disarm ++ natBytes 2 c.limits.thawHold ++ natBytes 2 c.limits.timeout ++
    natBytes 2 c.thawTimer ++
    natBytes 1 s.admittedSet.length ++ (headerIds.map fun h => natBytes 2 s.loads.header[h]).flatten ++ natBytes 2 s.loads.total

/-- READ_CLIMATE. -/
def execReadClimate (p : Port) (s : State) : Host.Outcome State Fault Refusal :=
  .next (s.complete p .readClimate fun t => (t, .result t.climateBytes))

/-! ### READ-CLOCK -/

/-- The reply of READ-CLOCK (R106). That one presence byte stands for the day and the minute of the next boundary together, and that the two sums take four bytes each,
is a DESIGN CHOICE (log entry 12), unsafe. -/
def State.clockBytes (s : State) : List Byte :=
  let c := s.clock
  natBytes 3 c.second ++ natBytes 2 c.day ++ yesNo c.valid ++ natBytes 1 c.periodLength ++ natBytes 2 c.startMinute ++ natBytes 1 c.daysInto ++
    optional c.allotment (natBytes 4) ++ optional c.nextBoundary (fun b => natBytes 2 b.1 ++ natBytes 2 b.2) ++
    natBytes 4 s.quotaSum ++ natBytes 4 (sumOver zoneIds fun z => (s.zone z).effectiveQuota)

/-- READ_CLOCK. -/
def execReadClock (p : Port) (s : State) : Host.Outcome State Fault Refusal :=
  .next (s.complete p .readClock fun t => (t, .result t.clockBytes))

/-! ### READ-HOLDS -/

/-- The state of a hold entry and, where it is not FREE, the holding port (R36). That a presence byte stands before the port is a DESIGN CHOICE (log entry 12),
unsafe. -/
def Hold.bytes : Hold → List Byte
  | .free => natBytes 1 0 ++ natBytes 1 0
  | .held p => natBytes 1 1 ++ optional (some p) (fun q => natBytes 1 q.number)
  | .releasing p => natBytes 1 2 ++ optional (some p) (fun q => natBytes 1 q.number)

/-- The reply of READ-HOLDS: the nine entries, each group's with its count (R36). That no count byte stands before the nine, which R171 gives a list, is a
DESIGN CHOICE (log entry 12), unsafe. -/
def State.holdsBytes (s : State) : List Byte :=
  (groupIds.map fun g => (s.hold (groupEntry g)).bytes ++ natBytes 1 (s.deferredCount g)).flatten ++ (s.hold planEntry).bytes

/-- READ_HOLDS. -/
def execReadHolds (p : Port) (s : State) : Host.Outcome State Fault Refusal :=
  .next (s.complete p .readHolds fun t => (t, .result t.holdsBytes))

/-! ### READ-PORT -/

/-- The reply of READ-PORT (R178). -/
def PortState.bytes (q : PortState) (p : Port) : List Byte :=
  natBytes 1 p.number ++ rightsBytes q.rights ++ rightsBytes q.strapRights ++ natBytes 1 (lineRateNumber q.rate) ++ yesNo q.strict ++
    markByte q.filter.fault q.filter.supply q.filter.frost q.filter.plan ++ natBytes 1 q.lineErrors ++ natBytes 1 q.notices.length ++ yesNo q.overflow

/-- READ_PORT: the overflow mark is cleared after its value has been placed in the reply (R178, R183). -/
def execReadPort (p : Port) (s : State) : Host.Outcome State Fault Refusal :=
  .next (s.complete p .readPort fun t => (t.updPort p fun q => { q with overflow := false }, .result ((t.port p).bytes p)))

/-! ### SELECT-ZONES -/

/-- The quantity that a field of SELECT-ZONES names, of a defined zone (R180). -/
def Zone.quantity (x : Zone) (p : Programme) (field : Nat) : Int :=
  match field with
  | 0 => x.quotaRemaining
  | 1 => x.slack p
  | 2 => x.cyclesRemaining
  | 3 => x.dryClock
  | _ => if x.lockout.isSome then 1 else 0

/-- The test that SELECT-ZONES makes (R180). -/
def meets (test : Nat) (v : Int) : Bool :=
  match test with
  | 0 => decide (v = 0)
  | 1 => decide (v ≠ 0)
  | 2 => decide (0 < v)
  | _ => decide (v < 0)

/-- The defined zones whose quantity meets the test, in ascending zone number (R180). -/
def State.selected (s : State) (field test : Nat) : List ZoneId :=
  zoneIds.filter fun z => (s.zone z).programme.any fun p => meets test ((s.zone z).quantity p field)

/-- SELECT-ZONES; field and test are refused out of range in either mode (R180). That the field is named where both are out of range is a DESIGN CHOICE (log
entry 27), unsafe. -/
def State.runSelectZones (s : State) (field test : Nat) : State × Answer :=
  if 4 < field then (s, .naming .range 0)
  else if 3 < test then (s, .naming .range 1)
  else (s, .result (listed (s.selected field test) zoneByte))

/-- SELECT_ZONES. -/
def execSelectZones (p : Port) (field test : Nat) (s : State) : Host.Outcome State Fault Refusal :=
  .next (s.complete p (.selectZones field test) fun t => t.runSelectZones field test)

/-! ### FETCH-NOTICE -/

/-- A notice as FETCH-NOTICE carries it (R181, R185). -/
def Notice.bytes (n : Notice) : List Byte :=
  natBytes 1 n.kind.number ++ optional n.stamp (fun t => natBytes 2 t.1 ++ natBytes 3 t.2) ++ optional n.zone zoneByte ++
    optional n.header (fun h => natBytes 1 h.val) ++ optional n.port (fun q => natBytes 1 q.number) ++ optional n.value (intBytes 6)

/-- FETCH-NOTICE: the oldest notice leaves the queue; the reply carries it and the count left (R185). -/
def State.runFetchNotice (s : State) (p : Port) : State × Answer :=
  match (s.port p).notices with
  | n :: rest => (s.updPort p fun q => { q with notices := rest }, .result (optional (some n) Notice.bytes ++ natBytes 1 rest.length))
  | [] => (s, .result (natBytes 1 0 ++ natBytes 1 0))

/-- FETCH_NOTICE. -/
def execFetchNotice (p : Port) (s : State) : Host.Outcome State Fault Refusal := .next (s.complete p .fetchNotice fun t => t.runFetchNotice p)

end Sys2Proof.Machine
end

