-- ==== Sys2Proof/Machine/Supplies.lean ====
section
/-! DEFINITION. The commands of the Supply Monitor: DECLARE-SUPPLY (R79, R80), SET-FALLBACK (R83) and the expiry of the validity timer (R81), each taken at
once or inside a selection (R82, R87, R124). -/

namespace Sys2Proof.Machine

/-- The port's mailbox holds the directive, and the RESET line is released. -/
def State.carries (s : State) (p : Port) (d : Directive) : Bool :=
  !s.resetLow &&
    match (s.port p).mailbox with
    | .executing d' _ => decide (d' = d)
    | .pending d' => decide (d' = d)
    | .empty => false

/-- Sends a supply event into the selections to come, to be taken after `n` more points, where it is due (R87, R124; log entry 10). -/
def State.sendInto (s : State) (ev : SupplyEvent) (n : Nat) (due : Bool) : State :=
  if due then { s with supplyInFlight := s.supplyInFlight ++ [⟨ev, n⟩] } else s

/-- DECLARE_SUPPLY. To be taken inside a selection, it stays in its mailbox until then (R87, R124; log entry 10). -/
def execDeclareSupply (p : Port) (flows : FlowFields) (validity : Nat) (taking : Taking) (s : State) : Host.Outcome State Fault Refusal :=
  .next
    (match taking with
    | .atOnce => (s.takeSupplyEvent (.declare p flows validity)).reportCeilings
    | .inSelection n => s.sendInto (.declare p flows validity) n (s.carries p (.declareSupply flows validity)))

/-- SET_FALLBACK. To be taken inside a selection, it stays in its mailbox until then (R87, R124; log entry 10). -/
def execSetFallback (p : Port) (flows : FlowFields) (taking : Taking) (s : State) : Host.Outcome State Fault Refusal :=
  .next
    (match taking with
    | .atOnce => (s.takeSupplyEvent (.fallback p flows)).reportCeilings
    | .inSelection n => s.sendInto (.fallback p flows) n (s.carries p (.setFallback flows)))

/-- VALIDITY_TIMER_EXPIRY (R81). -/
def execValidityTimerExpiry (taking : Taking) (s : State) : Host.Outcome State Fault Refusal :=
  .next (s.live fun t =>
    match taking with
    | .atOnce => (t.takeSupplyEvent .lapse).reportCeilings
    | .inSelection n => t.sendInto .lapse n (decide (t.supply.status = .declared ∧ t.supply.validity = some 0)))

end Sys2Proof.Machine
end

