-- ==== Sys2Proof/Machine/Valves.lean ====
section
/-! DEFINITION. The Valve Sequencer's events: drive sense (R42, R43), fill and close timers (R39, R41); CLOSE-ZONE (R48) and CLEAR-LOCKOUT (R47). -/

namespace Sys2Proof.Machine

/-- DRIVE_SENSE_FALL: VSn falls low; a drive fault while the output is energised and the first sample has been made (R42). -/
def execDriveSenseFall (z : ZoneId) (s : State) : Host.Outcome State Fault Refusal :=
  .next (s.live fun t => if (t.zone z).energised && decide ((t.zone z).sensePhase = .watching) then t.driveFault z else t)

/-- SENSE_TIMER_EXPIRY: the first sample; a low level is a drive fault (R42). -/
def execSenseTimerExpiry (z : ZoneId) (high : Bool) (s : State) : Host.Outcome State Fault Refusal :=
  .next (s.live fun t =>
    if (t.zone z).energised && decide ((t.zone z).senseTimer = some 0) then
      let t' := t.updZone z fun x => { x with sensePhase := .watching, senseTimer := none }
      if high then t' else t'.driveFault z
    else t)

/-- FILL_TIMER_EXPIRY: an OPENING channel enters WET (R39). -/
def execFillTimerExpiry (z : ZoneId) (s : State) : Host.Outcome State Fault Refusal :=
  .next (s.live fun t => if (t.zone z).valve = .opening ∧ (t.zone z).fillTimer = some 0 then t.enterWet z else t)

/-- CLOSE_TIMER_EXPIRY: a CLOSING channel enters SHUT (R41). -/
def execCloseTimerExpiry (z : ZoneId) (s : State) : Host.Outcome State Fault Refusal :=
  .next (s.live fun t => if (t.zone z).valve = .closing ∧ (t.zone z).closeTimer = some 0 then t.reachShut z else t)

/-- CLOSE-ZONE by the state of the channel; DONE names the use tag (R48). -/
def State.runCloseZone (s : State) (z : ZoneId) : State × Answer :=
  if (s.zone z).isOpen then
    (s.closeChannel z .closeZone, .result (((s.zone z).useTag.map fun t => natBytes 1 t.number).getD []))
  else (s, .plain .already)

/-- CLOSE_ZONE. -/
def execCloseZone (p : Port) (zone : Nat) (s : State) : Host.Outcome State Fault Refusal :=
  .next (s.complete p (.closeZone zone) fun t => withIndex 32 zone t fun z => t.runCloseZone z)

/-- Removes the lockout of a zone. While frost is armed, triage is rerun where the zone is then a frost candidate; then a selection (R47, R158). -/
def State.removeLockout (s : State) (z : ZoneId) : State :=
  let s1 := s.updZone z fun x => { x with lockout := none }
  (if (s1.zone z).frostCandidate then s1.retriage else s1).select

/-- CLEAR-LOCKOUT by the state of the channel and the lockout; DONE names the kind removed (R47). -/
def State.runClearLockout (s : State) (z : ZoneId) : State × Answer :=
  if (s.zone z).valve ≠ .shut then (s, .plain .busy)
  else
    match (s.zone z).lockout with
    | none => (s, .plain .already)
    | some k => (s.removeLockout z, .result (natBytes 1 k.number))

/-- CLEAR_LOCKOUT. -/
def execClearLockout (p : Port) (zone : Nat) (s : State) : Host.Outcome State Fault Refusal :=
  .next (s.complete p (.clearLockout zone) fun t => withIndex 32 zone t fun z => t.runClearLockout z)

end Sys2Proof.Machine
end

