-- ==== Sys2Proof/Machine/ZoneTable.lean ====
section
/-! DEFINITION. The Zone Table's directives: EDIT-ZONE (R11 to R14), CLEAR-ZONE (R11, R13, R15) and SET-RING (R9, R10). -/

namespace Sys2Proof.Machine

/-- Carries an edit out by the zone's valve state: applied at once in SHUT, else it becomes the pending edit in place of an earlier one (R14, R15). -/
def State.carryOutEdit (s : State) (z : ZoneId) (e : PendingEdit) (clamped : Bool) : State × Answer :=
  if (s.zone z).valve = .shut then ((s.applyNow z e).select, .done clamped)
  else (s.updZone z fun x => { x with pendingEdit := some e }, ⟨.deferred, clamped, []⟩)

/-- EDIT-ZONE: zone number, fields, holds, effect (R11). -/
def State.runEditZone (s : State) (p : Port) (zone : Nat) (fields : ZoneFields) : State × Answer :=
  withIndex 32 zone s fun z =>
    (checkProgramme (s.strict p) fields).orRange s fun v clamped =>
      s.requireGroups p ((s.zone z).touched (some v.group)) (s.carryOutEdit z (.edit v) clamped)

/-- EDIT_ZONE. -/
def execEditZone (p : Port) (zone : Nat) (fields : ZoneFields) (s : State) : Host.Outcome State Fault Refusal :=
  .next (s.complete p (.editZone zone fields) fun t => t.runEditZone p zone fields)

/-- CLEAR-ZONE: zone number, zone present, holds, effect (R11). -/
def State.runClearZone (s : State) (p : Port) (zone : Nat) : State × Answer :=
  withIndex 32 zone s fun z =>
    if (s.zone z).programme.isNone then (s, .naming .undefinedZone z)
    else s.requireGroups p ((s.zone z).touched none) (s.carryOutEdit z .clear false)

/-- CLEAR_ZONE. -/
def execClearZone (p : Port) (zone : Nat) (s : State) : Host.Outcome State Fault Refusal :=
  .next (s.complete p (.clearZone zone) fun t => t.runClearZone p zone)

/-- A frame with its saved pointer at 0 (R10). -/
def Frame.rewound : Frame → Frame
  | .quota _ round => .quota 0 round
  | .manual entries => .manual entries

/-- A SET-RING that has passed its checks: the ring, the pointer, live and saved, the suspended list, the effective quotas, a selection (R10). -/
def State.replaceRing (s : State) (ring : List ZoneId) : State :=
  let s1 :=
    { s with
      ring := ring
      planner := { s.planner with pointer := 0 }
      engine := { s.engine with stack := s.engine.stack.map Frame.rewound } }
  (s1.pruneSuspended fun z => !decide (z ∈ ring)).recomputeQuotas.select

/-- SET-RING: zone numbers, duplicates, the plan hold (R9). -/
def State.runSetRing (s : State) (p : Port) (zones : List Nat) : State × Answer :=
  match zonesFrom 1 zones with
  | .error k => (s, .naming .range k)
  | .ok ring =>
    match firstRepeat [] ring with
    | some z => (s, .naming .duplicate z)
    | none => s.requirePlan p (s.replaceRing ring, .done false)

/-- SET_RING. -/
def execSetRing (p : Port) (zones : List Nat) (s : State) : Host.Outcome State Fault Refusal :=
  .next (s.complete p (.setRing zones) fun t => t.runSetRing p zones)

end Sys2Proof.Machine
end

