-- ==== Sys2Proof/Machine/Dispatch.lean ====
section
/-! DEFINITION. One arm per command of the opcode table, in the table's order. -/

namespace Sys2Proof.Machine

def exec (i : Instr) (s : State) : Host.Outcome State Fault Refusal :=
  match i with
  | .powerOn strapsA strapsB strapsC => Sys2Proof.Machine.execPowerOn strapsA strapsB strapsC s
  | .resetAsserted => Sys2Proof.Machine.execResetAsserted s
  | .resetReleased strapsA strapsB strapsC => Sys2Proof.Machine.execResetReleased strapsA strapsB strapsC s
  | .stopAsserted => Sys2Proof.Machine.execStopAsserted s
  | .stopReleased => Sys2Proof.Machine.execStopReleased s
  | .rawPulse h => Sys2Proof.Machine.execRawPulse h s
  | .driveSenseFall z => Sys2Proof.Machine.execDriveSenseFall z s
  | .senseTimerExpiry z high => Sys2Proof.Machine.execSenseTimerExpiry z high s
  | .fillTimerExpiry z => Sys2Proof.Machine.execFillTimerExpiry z s
  | .closeTimerExpiry z => Sys2Proof.Machine.execCloseTimerExpiry z s
  | .intervalTimerExpiry h order => Sys2Proof.Machine.execIntervalTimerExpiry h order s
  | .validityTimerExpiry taking => Sys2Proof.Machine.execValidityTimerExpiry taking s
  | .secondAdvance => Sys2Proof.Machine.execSecondAdvance s
  | .slotExpiry p => Sys2Proof.Machine.execSlotExpiry p s
  | .thawHoldExpiry => Sys2Proof.Machine.execThawHoldExpiry s
  | .guardTimerExpiry z => Sys2Proof.Machine.execGuardTimerExpiry z s
  | .soakReached z => Sys2Proof.Machine.execSoakReached z s
  | .dwellEnd z => Sys2Proof.Machine.execDwellEnd z s
  | .runTimeSpent z => Sys2Proof.Machine.execRunTimeSpent z s
  | .overdue z => Sys2Proof.Machine.execOverdue z s
  | .frameComplete p frame => Sys2Proof.Machine.execFrameComplete p frame s
  | .silence p => Sys2Proof.Machine.execSilence p s
  | .lineBreak p straps => Sys2Proof.Machine.execLineBreak p straps s
  | .takeUp => Sys2Proof.Machine.execTakeUp s
  | .replySent p => Sys2Proof.Machine.execReplySent p s
  | .readZone p zone => Sys2Proof.Machine.execReadZone p zone s
  | .readGroup p group => Sys2Proof.Machine.execReadGroup p group s
  | .readRing p => Sys2Proof.Machine.execReadRing p s
  | .readHeader p header => Sys2Proof.Machine.execReadHeader p header s
  | .readEngine p => Sys2Proof.Machine.execReadEngine p s
  | .readClimate p => Sys2Proof.Machine.execReadClimate p s
  | .readClock p => Sys2Proof.Machine.execReadClock p s
  | .readHolds p => Sys2Proof.Machine.execReadHolds p s
  | .readPort p => Sys2Proof.Machine.execReadPort p s
  | .selectZones p field test => Sys2Proof.Machine.execSelectZones p field test s
  | .fetchNotice p => Sys2Proof.Machine.execFetchNotice p s
  | .takeHold p entry => Sys2Proof.Machine.execTakeHold p entry s
  | .releaseHold p entry => Sys2Proof.Machine.execReleaseHold p entry s
  | .editZone p zone fields => Sys2Proof.Machine.execEditZone p zone fields s
  | .clearZone p zone => Sys2Proof.Machine.execClearZone p zone s
  | .setWindow p group start finish => Sys2Proof.Machine.execSetWindow p group start finish s
  | .setRing p zones => Sys2Proof.Machine.execSetRing p zones s
  | .setPeriod p length startMinute allotment => Sys2Proof.Machine.execSetPeriod p length startMinute allotment s
  | .setMeter p header fields => Sys2Proof.Machine.execSetMeter p header fields s
  | .declareSupply p flows validity taking => Sys2Proof.Machine.execDeclareSupply p flows validity taking s
  | .setFallback p flows taking => Sys2Proof.Machine.execSetFallback p flows taking s
  | .reportTemperature p temperature => Sys2Proof.Machine.execReportTemperature p temperature s
  | .armFrost p => Sys2Proof.Machine.execArmFrost p s
  | .disarmFrost p => Sys2Proof.Machine.execDisarmFrost p s
  | .setFrostLimits p arm disarm thawHold timeout => Sys2Proof.Machine.execSetFrostLimits p arm disarm thawHold timeout s
  | .startQuota p => Sys2Proof.Machine.execStartQuota p s
  | .stopQuota p => Sys2Proof.Machine.execStopQuota p s
  | .runManual p entries => Sys2Proof.Machine.execRunManual p entries s
  | .cancelManual p => Sys2Proof.Machine.execCancelManual p s
  | .pause p => Sys2Proof.Machine.execPause p s
  | .resume p => Sys2Proof.Machine.execResume p s
  | .shutdown p => Sys2Proof.Machine.execShutdown p s
  | .closeZone p zone => Sys2Proof.Machine.execCloseZone p zone s
  | .clearLockout p zone => Sys2Proof.Machine.execClearLockout p zone s
  | .breakHold p entry => Sys2Proof.Machine.execBreakHold p entry s
  | .setClock p day second => Sys2Proof.Machine.execSetClock p day second s
  | .newPeriod p => Sys2Proof.Machine.execNewPeriod p s
  | .withdraw p => Sys2Proof.Machine.execWithdraw p s
  | .setOptions p mode fault supply frost plan => Sys2Proof.Machine.execSetOptions p mode fault supply frost plan s
  | .narrowRights p program supply climate operate => Sys2Proof.Machine.execNarrowRights p program supply climate operate s
  | .characterReceived p data parity stop => Sys2Proof.Machine.execCharacterReceived p data parity stop s
  | .receiveLineReturnsHigh p => Sys2Proof.Machine.execReceiveLineReturnsHigh p s

end Sys2Proof.Machine
end

