-- ==== Sys2Proof/Machine/Step.lean ====
section
/-! DEFINITION. One step: the command at the front of the queue (log entry 3), or a lockout request on its way (log entry 28); and the placing of a command
there. -/

namespace Sys2Proof.Machine

/-- Takes the command at the front of the queue and runs it with the queue's rest. On an empty queue the oldest lockout request on its way is taken, and where
there is none the part idles (log entries 3 and 28). -/
def step (s : State) : Host.Outcome State Fault Refusal :=
  match s.pending with
  | [] => .next s.takeLockoutRequest
  | i :: rest => exec i { s with pending := rest }

/-- Puts the command that a word of the opcode table spells at the front of the queue; no row has bits, so nothing changes (log entry 19). -/
def State.withFetchWord (s : State) (nbits w : Nat) : State :=
  match decodeTableWord nbits w with
  | some i => { s with pending := i :: s.pending }
  | none => s

end Sys2Proof.Machine
end

