-- ==== Sys2Proof/WellFormed.lean ====
section
/-! DEFINITION. Which commands are well-formed: those whose operands a frame or a line can carry (R167, R171). An ill-formed command still has a meaning: no mailbox
holds its directive, or no assembler meets its frame, so that it changes nothing. -/

namespace Sys2Proof

/-- `n` fits `w` bytes (R171). -/
def fits (w n : Nat) : Bool := decide (n < 256 ^ w)

/-- A signed number fits `w` bytes in two's complement (R171). -/
def fitsInt (w : Nat) (v : Int) : Bool := decide (-(256 ^ w : Nat) ≤ 2 * v ∧ 2 * v < (256 ^ w : Nat))

/-- Each number fits its width. -/
def fitsAll : List Nat → List Nat → Bool
  | w :: ws, v :: vs => fits w v && fitsAll ws vs
  | [], [] => true
  | _, _ => false

/-- The five flows as a list, in field order (R79, R83). -/
def FlowFields.values (f : FlowFields) : List Nat := [f.total, f.h0, f.h1, f.h2, f.h3]

/-- Most entries of a RUN-MANUAL whose frame keeps to the greatest length byte (R171): 1 + 1 + 3 × 19 = 59. -/
def manualFrameTop : Nat := 19

/-- The parameters fit the widths that R171 gives them, and the lists fit a frame. -/
def Directive.wellFormed : Directive → Bool
  | .readZone z => fits 1 z
  | .readGroup g => fits 1 g
  | .readHeader h => fits 1 h
  | .selectZones f t => fits 1 f && fits 1 t
  | .takeHold e => fits 1 e
  | .releaseHold e => fits 1 e
  | .editZone z f => fits 1 z && fitsAll editWidths f.values
  | .clearZone z => fits 1 z
  | .setWindow g a b => fits 1 g && fits 2 a && fits 2 b
  | .setRing zs => decide (zs.length ≤ Config.ringTop) && zs.all (fits 1)
  | .setPeriod l m a => fits 1 l && fits 2 m && fits 4 a
  | .setMeter h f =>
    fits 1 h && fitsAll [1, 2, 1, 1, 2, 1] [f.divisor, f.weight, f.interval, f.tolerance, f.strayThreshold, f.checks]
  | .declareSupply f v => fitsAll [2, 2, 2, 2, 2] f.values && fits 2 v
  | .setFallback f => fitsAll [2, 2, 2, 2, 2] f.values
  | .reportTemperature t => fitsInt 2 t
  | .setFrostLimits a d h t => fitsInt 1 a && fitsInt 1 d && fits 2 h && fits 2 t
  | .runManual es => decide (es.length ≤ manualFrameTop) && es.all fun e => fits 1 e.1 && fits 2 e.2
  | .closeZone z => fits 1 z
  | .clearLockout z => fits 1 z
  | .breakHold e => fits 1 e
  | .setClock d s => fits 2 d && fits 3 s
  | .setOptions m f s r n => fitsAll [1, 1, 1, 1, 1] [m, f, s, r, n]
  | .narrowRights a b c d => fitsAll [1, 1, 1, 1] [a, b, c, d]
  | .readRing | .readEngine | .readClimate | .readClock | .readHolds | .readPort | .fetchNotice => true
  | .armFrost | .disarmFrost | .startQuota | .stopQuota | .cancelManual => true
  | .pause | .resume | .shutdown | .newPeriod => true

/-- A command is well-formed: its directive is, or its frame is whole; the operands of the other events are exact by their types. -/
def Instr.wellFormed (i : Instr) : Bool :=
  match i with
  | .frameComplete _ frame => wholeFrame frame
  | _ =>
    match i.directive with
    | some (_, d) => d.wellFormed
    | none => true

end Sys2Proof
end

