-- ==== Sys2Proof/Safety.lean ====
section
/-! DEFINITION. The laws that the spec says the blocks keep, as predicates on the state, and what the statements say a reply or a notice does to a
port. -/

namespace Sys2Proof.Machine

/-! ### Laws -/

/-- "the metered total equals the attributed total plus the stray total, counted modulo 2^48" (R63). -/
def State.metersBalance (s : State) : Prop :=
  ∀ h : HeaderId, (s.meter h).metered % 281474976710656 = ((s.meter h).attributed + (s.meter h).stray) % 281474976710656

/-- "each port's notice queue holds at most 16 notices" (R182). -/
def State.noticesBounded (s : State) : Prop := ∀ p : Port, (s.port p).notices.length ≤ 16

/-- A reply queue holds 0 to 4 replies (R169). -/
def State.repliesBounded (s : State) : Prop := ∀ p : Port, (s.port p).replies.length ≤ 4

/-- "The Directive Arbiter executes one directive at a time" (R173). -/
def State.oneExecuting (s : State) : Prop :=
  ∀ p q : Port, (s.port p).mailbox.isExecuting = true → (s.port q).mailbox.isExecuting = true → p = q

/-- "a zone that carries a lockout is never in OPENING or WET" (R44). -/
def State.lockedNeverOpen (s : State) : Prop := ∀ z : ZoneId, (s.zone z).lockout ≠ none → (s.zone z).isOpen = false

/-- "while the run state is STOPPED, no zone is in OPENING or WET" (R120). -/
def State.stoppedNoneOpen (s : State) : Prop := s.engine.runState = .stopped → ∀ z : ZoneId, (s.zone z).isOpen = false

/-- The rank of a frame's regime (R108). -/
def Frame.rank : Frame → Nat
  | .quota _ _ => 1
  | .manual _ => 2

/-- "each frame's regime ranks below the regime in force, and a lower frame ranks below the frame above it" (R108). -/
def State.stackRanked (s : State) : Prop :=
  (s.engine.stack.map Frame.rank ++ [s.engine.regime.number]).Pairwise (· < ·)

/-- The programmed cycles, 0 for an undefined zone. -/
def Zone.programmedCycles (x : Zone) : Nat := (x.programme.map (·.cycles)).getD 0

/-- "a zone's cycles remaining never exceeds its programmed cycles" (R139). -/
def State.cyclesWithin (s : State) : Prop := ∀ z : ZoneId, (s.zone z).cyclesRemaining ≤ (s.zone z).programmedCycles

/-- The entry is being released. -/
def Hold.isReleasing : Hold → Bool
  | .releasing _ => true
  | .free => false
  | .held _ => false

/-- "a hold entry is RELEASING only while at least one pending edit belongs to its group, and the plan hold is never RELEASING" (R25). -/
def State.releasingWaits (s : State) : Prop :=
  (∀ g : GroupId, (s.hold (groupEntry g)).isReleasing = true → 0 < s.deferredCount g) ∧ (s.hold planEntry).isReleasing = false

/-- The two orders list the channels in OPENING and the channels in WET, and neither holds duplicates (R37). -/
def State.ordersMatch (s : State) : Prop :=
  (∀ z : ZoneId, z ∈ s.energising ↔ (s.zone z).valve = .opening) ∧ (∀ z : ZoneId, z ∈ s.wetOrder ↔ (s.zone z).valve = .wet) ∧
    s.energising.Nodup ∧ s.wetOrder.Nodup

/-- "on every header, the nominal flows of the zones in OPENING or WET sum to no more than that header's ceiling in force, and over all headers to no more
than the total ceiling in force" (R78). -/
def State.openWithin (s : State) : Prop :=
  (∀ h : HeaderId, s.openFlow h ≤ s.supply.inForce.header[h]) ∧ s.totalOpenFlow ≤ s.supply.inForce.total

/-- The suspended list names each zone at most once, and names exactly the zones whose visit status is SUSPENDED (R127). -/
def State.suspendedMatch (s : State) : Prop :=
  s.planner.suspended.Nodup ∧ ∀ z : ZoneId, z ∈ s.planner.suspended ↔ (s.zone z).visit = .suspended

/-- The regime is FROST while the frost state is ARMED-AUTO or ARMED-MANUAL, and at no other time (R155). -/
def State.frostWhileArmed (s : State) : Prop := s.engine.regime = .frost ↔ s.armed = true

/-- "Committed flow equals the sum of q over the channels on the header in OPENING, WET or CLOSING at every moment outside the assertion of the RESET line", and in
total over all headers; q is of the programme the channel was opened with (R76). -/
def State.committedMatches (s : State) : Prop :=
  s.resetLow = false →
    (∀ h : HeaderId, s.supply.committed.header[h] =
      sumOver (zoneIds.filter fun z => decide ((s.zone z).valve ≠ .shut) && (s.zone z).onHeader h) fun z => (s.zone z).openedFlow) ∧
    s.supply.committed.total = sumOver (zoneIds.filter fun z => decide ((s.zone z).valve ≠ .shut)) fun z => (s.zone z).openedFlow

/-- "when an allotment is set, the effective quotas of all zones sum to no more than the allotment" (R104). -/
def State.quotasWithin (s : State) : Prop :=
  ∀ a, s.clock.allotment = some a → sumOver zoneIds (fun z => (s.zone z).effectiveQuota) ≤ a

/-- While frost is armed, the admitted load of each header is no more than its ceiling in force, and the total admitted load no more than the total ceiling (R157). The
engine owes no report of a ceiling change, as at the end of every event (R84). -/
def State.loadsWithin (s : State) : Prop :=
  s.ceilingReportOwed = false ∧
    (s.armed = true → (∀ h : HeaderId, s.loads.header[h] ≤ s.supply.inForce.header[h]) ∧ s.loads.total ≤ s.supply.inForce.total)

/-! ### Rules that the statements name -/

/-- The zone of an open channel after a close with cause `e`: CLOSING with its close timer started, the use tag kept and the cause recorded (R37, R40); its dry clock 0
where WET has ended while frost is armed (R159); a frost visit ended (R162); an OPEN visit on a QUOTA channel complete, suspended or dropped as the table of R133 gives,
and dropped in place of suspended where the ring does not name the zone (R10). A close time of 0 for a channel without a programme is log entry 21. -/
def State.closedZone (s : State) (z : ZoneId) (e : Ending) : Zone :=
  let x := s.zone z
  let y : Zone :=
    { x with
      valve := .closing, energised := false, fillTimer := none, senseTimer := none, timeInState := 0, endedBy := some e
      closeTimer := some (match x.programme with | some v => v.closing | none => 0)
      dryClock := if x.valve = .wet ∧ s.climate.frost ≠ .disarmed then 0 else x.dryClock }
  let ended : Zone := { y with visit := .noVisit, visitTarget := none, visitVolume := 0, guardTimer := none }
  match x.useTag with
  | some .frost => { y with frostVisit := false, dwellRemaining := none }
  | some .quota =>
    if x.visit = .openVisit then
      match e with
      | .targetReached | .guardExpired => { ended with cyclesRemaining := x.cyclesRemaining - 1 }
      | .windowClosed | .shed | .stop | .preemption => if z ∈ s.ring then { y with visit := .suspended, guardTimer := none } else ended
      | _ => ended
    else y
  | some .manual => y
  | none => y

/-- From `s` to `u` the channels named by `sel` that are open, and no others, have been closed with cause `e`: they have left the two orders, their headers' intervals
are settling (R58), the visits suspended have joined the end of the suspended list in ascending zone number, and nothing else has changed (R40, R49, R133, R135). -/
def State.channelsClosed (s : State) (sel : ZoneId → Bool) (e : Ending) (u : State) : Prop :=
  let c : ZoneId → Bool := fun z => sel z && (s.zone z).isOpen
  (∀ z, u.zone z = if c z = true then s.closedZone z e else s.zone z) ∧
    (∀ h, u.meter h = { s.meter h with settling := (s.meter h).settling || zoneIds.any fun z => c z && (s.zone z).onHeader h }) ∧
    u = { s with
      zones := u.zones
      meters := u.meters
      energising := s.energising.filter fun z => !c z
      wetOrder := s.wetOrder.filter fun z => !c z
      planner := { s.planner with
        suspended := s.planner.suspended ++ zoneIds.filter fun z =>
          c z && decide ((s.zone z).useTag = some .quota ∧ (s.zone z).visit = .openVisit ∧ z ∈ s.ring ∧ e ∈ [.windowClosed, .shed, .stop, .preemption]) } }

/-- A fresh slot holds the temperature (R143, R144). -/
def State.freshAt (s : State) (t : Int) : Prop := ∃ p x, s.climate.slots.get p = some x ∧ x.fresh = true ∧ x.temperature = t

/-- The table of R95: a window from `start` to `finish` is open at minute `m` of a clock that is VALID or not. The span is half-open, goes through midnight where
it starts after it ends, and where the two are equal it is always open. -/
def inSpan (valid : Bool) (start finish m : Nat) : Prop :=
  start = finish ∨
    valid = true ∧ ((start < finish ∧ start ≤ m ∧ m < finish) ∨ (finish < start ∧ (start ≤ m ∨ m < finish)))

/-- The evaluation of every window, the results being `w`, leaves `u`: the flags are stored; an OPEN visit of an open channel ends as a window close where its group's
window has closed, so that it is suspended, with its target and volume, where it is a QUOTA channel of the ring; nothing else has changed but the suspended list, the two
orders, the settling marks and, for a WET spell so ended while frost is armed, the dry clock (R96, R133, R135, R137). -/
def State.windowsTaken (s : State) (w : GroupId → Bool) (u : State) : Prop :=
  (∀ g, u.group g = { s.group g with windowOpen := w g }) ∧
    u = { s with
      zones := u.zones, groups := u.groups, energising := u.energising, wetOrder := u.wetOrder, meters := u.meters
      planner := { s.planner with suspended := u.planner.suspended } } ∧
    ∀ z, let closes := ∃ x, (s.zone z).programme = some x ∧ (s.group x.group).windowOpen = true ∧ w x.group = false
      ((s.zone z).visit = .openVisit → (s.zone z).isOpen = true → closes →
        (u.zone z).valve = .closing ∧ (u.zone z).endedBy = some .windowClosed ∧
          ((s.zone z).useTag = some .quota → z ∈ s.ring →
            (u.zone z).visit = .suspended ∧ (u.zone z).visitTarget = (s.zone z).visitTarget ∧ (u.zone z).visitVolume = (s.zone z).visitVolume ∧
              (u.zone z).guardTimer = none ∧ z ∈ u.planner.suspended)) ∧
      (¬((s.zone z).visit = .openVisit ∧ (s.zone z).isOpen = true ∧ closes) → u.zone z = s.zone z)

/-- The zone has an OPEN visit on an open QUOTA channel: what ends when the engine stops or the regime QUOTA is preempted (R133). -/
def State.visiting (s : State) (z : ZoneId) : Bool :=
  (s.zone z).isOpen && decide ((s.zone z).useTag = some .quota ∧ (s.zone z).visit = .openVisit)

/-- From `s` to `u` every such visit has been suspended: the zones of the ring have joined the end of the suspended list in ascending zone number, with their target
and volume kept and the guard stopped; one that the ring does not name is dropped; cycles remaining, and every other visit, stand as they were (R10, R133, R135). -/
def State.visitsSuspended (s u : State) : Prop :=
  u.planner.suspended = s.planner.suspended ++ zoneIds.filter (fun z => s.visiting z && decide (z ∈ s.ring)) ∧
    ∀ z, (u.zone z).cyclesRemaining = (s.zone z).cyclesRemaining ∧
      (s.visiting z = true → z ∈ s.ring →
        (u.zone z).visit = .suspended ∧ (u.zone z).visitTarget = (s.zone z).visitTarget ∧ (u.zone z).visitVolume = (s.zone z).visitVolume ∧
          (u.zone z).guardTimer = none) ∧
      (s.visiting z = true → z ∉ s.ring →
        (u.zone z).visit = .noVisit ∧ (u.zone z).visitTarget = none ∧ (u.zone z).visitVolume = 0 ∧ (u.zone z).guardTimer = none) ∧
      (s.visiting z = false →
        (u.zone z).visit = (s.zone z).visit ∧ (u.zone z).visitTarget = (s.zone z).visitTarget ∧
          (u.zone z).visitVolume = (s.zone z).visitVolume ∧ (u.zone z).guardTimer = (s.zone z).guardTimer)

/-- The nine conditions of R128 on a zone with programme `x`. -/
def State.mayRotate (s : State) (z : ZoneId) (x : Programme) : Prop :=
  (s.zone z).programme = some x ∧ x.enabled = true ∧ z ∈ s.ring ∧ (s.zone z).valve = .shut ∧ (s.zone z).lockout = none ∧
    (s.group x.group).windowOpen = true ∧ 0 < (s.zone z).cyclesRemaining ∧ x.soak ≤ (s.zone z).soakTimer ∧
    (s.zone z).quotaVolume < (s.zone z).effectiveQuota * 100 ∧ s.planner.allotmentReached = false

/-- The opening test of R77: committed flow and the zone's nominal flow together are within the header's ceiling in force and within the total. -/
def State.hasRoom (s : State) (x : Programme) : Prop :=
  s.supply.committed.header[x.header] + x.flow ≤ s.supply.inForce.header[x.header] ∧ s.supply.committed.total + x.flow ≤ s.supply.inForce.total

/-- The guard of R132 for a visit that is owed `owed` cL. -/
def guardOf (x : Programme) (owed : Nat) : Nat := min 14400 (x.fill + (9 * owed + (10 * x.flow - 1)) / (10 * x.flow))

/-- A zone that a frost selection takes: admitted, SHUT, free of lockout, with programme `x` (R161). -/
def State.mayProtect (s : State) (z : ZoneId) (x : Programme) : Prop :=
  (s.zone z).admitted = true ∧ (s.zone z).valve = .shut ∧ (s.zone z).lockout = none ∧ (s.zone z).programme = some x

/-- The order of R161: least slack, then lower frost rank, then lower zone number. -/
def State.protectsBefore (s : State) (z : ZoneId) (x : Programme) (y : ZoneId) (v : Programme) : Prop :=
  let a : Int := (x.maxDry : Int) - (s.zone z).dryClock
  let b : Int := (v.maxDry : Int) - (s.zone y).dryClock
  a < b ∨ a = b ∧ (x.frostRank < v.frostRank ∨ x.frostRank = v.frostRank ∧ z < y)

/-- A feasible frost candidate with its programme and its required flow (R156). -/
def State.mayBeAdmitted (s : State) (z : ZoneId) (x : Programme) (required : Nat) : Prop :=
  (s.zone z).programme = some x ∧ x.enabled = true ∧ x.frostMember = true ∧ (s.zone z).lockout = none ∧ x.fill < x.maxDry ∧
    required = (x.flow * (x.dwell + x.fill) + (x.dwell + x.maxDry - 1)) / (x.dwell + x.maxDry)

/-! ### Bytes in statements -/

/-- `n` in `w` bytes, most significant byte first (R171). -/
def bytesOf (w n : Nat) : List Byte := (List.range w).map fun i => BitVec.ofNat 8 (n / 256 ^ (w - 1 - i))

/-- `v` in `w` bytes of two's complement, most significant byte first (R171). -/
def signedBytesOf (w : Nat) (v : Int) : List Byte := bytesOf w (v % (256 ^ w : Nat)).toNat

/-- A mark or a yes-or-no item: 0 for no or clear, 1 for yes or set (R171). -/
def markOf (b : Bool) : List Byte := [if b then 0x01#8 else 0x00#8]

/-- An optional item behind its presence byte, 0 for absent and 1 for present (R171). -/
def itemOf {α : Type} (x : Option α) (f : α → List Byte) : List Byte :=
  match x with
  | none => [0x00#8]
  | some v => 0x01#8 :: f v

/-- A list behind one byte with the number of its items (R171). -/
def listOf {α : Type} (l : List α) (f : α → List Byte) : List Byte := BitVec.ofNat 8 l.length :: (l.map f).flatten

/-- The code of an enumerated item: its place in a list of R171, counted from `first`. -/
def codeOf {α : Type} [DecidableEq α] (l : List α) (first : Nat) (x : α) : List Byte := [BitVec.ofNat 8 (first + l.idxOf x)]

/-! ### Ports in statements -/

/-- The port's mailbox is EXECUTING the directive, its reply is wanted, the RESET line is released and the reply queue has room: the directive completes with
its reply (R169, R172). -/
def State.completing (s : State) (p : Port) (d : Directive) : Prop :=
  s.resetLow = false ∧ (s.port p).mailbox = .executing d none ∧ (s.port p).replies.length < 4

/-- The port's mailbox is EXECUTING the directive, its port was reinitialised meanwhile, and the RESET line is released: the directive completes without a reply
(R170, R172). `held` says whether the port held the plan hold at the break (log entry 29). -/
def State.completingUnanswered (s : State) (p : Port) (d : Directive) (held : Bool) : Prop :=
  s.resetLow = false ∧ (s.port p).mailbox = .executing d (some held)

/-- The state after a completion without a reply: the mailbox is EMPTY (R170, R172). -/
def State.unanswered (s : State) (p : Port) : State := s.updPort p fun q => { q with mailbox := .empty }

/-- The command completes its directive on the port at once; it does not send a supply event into a selection (R87; log entry 10). -/
def completesAtOnce (c : Instr) : Prop :=
  ∀ n, (∀ p f v, c ≠ .declareSupply p f v (.inSelection n)) ∧ ∀ p f, c ≠ .setFallback p f (.inSelection n)

/-- The port after a completion: mailbox EMPTY, the reply at the end of the reply queue (R169, R172). -/
def PortState.answered (q : PortState) (d : Directive) (code : ReplyCode) (clamped : Bool) (payload : List Byte) : PortState :=
  { q with mailbox := .empty, replies := q.replies ++ [⟨code, clamped, BitVec.ofNat 8 d.code, payload⟩] }

/-- The state after a completion that changes nothing but the port: the reply joins the queue and the mailbox is EMPTY (R172, R179). -/
def State.answer (s : State) (p : Port) (d : Directive) (code : ReplyCode) (clamped : Bool) (payload : List Byte) : State :=
  s.updPort p fun q => q.answered d code clamped payload

/-- The state with a frame's refusal in the port's reply queue (R168, R169). -/
def State.refused (s : State) (p : Port) (code : ReplyCode) (echo : Byte) : State :=
  s.updPort p fun q => { q with replies := q.replies ++ [⟨code, false, echo, []⟩] }

end Sys2Proof.Machine
end

