-- ==== Sys2Proof/Certificates/Slice0/Obligations.lean ====
section
/-! DEFINITION. The statements for the provers. Each docstring names the rules it formalises, or the spec's sentences and log entries it rests on. A
directive completes at a state where `State.completing` holds; `State.answer` is the completion's effect on the port. -/

open Sys2Proof Sys2Proof.Machine

/-! ### The queue -/

/-- A step runs the command at the front of the queue on the queue's rest (log entry 3). On an empty queue the oldest lockout request on its way is taken unless the
RESET line is asserted (log entry 28); where there is none, the part idles (log entry 3). -/
def Obligations.StepRunsTheFrontCommand : Prop :=
  (∀ (c : Instr) (s : State) (rest : List Instr), s.pending = c :: rest → step s = exec c { s with pending := rest }) ∧
    ∀ s : State, s.pending = [] →
      ((s.lockoutRequests = [] ∨ s.resetLow = true) → step s = .next s) ∧
      ∀ (z : ZoneId) (k : Lockout) (rest : List LockoutRequest), s.lockoutRequests = ⟨z, k⟩ :: rest → s.resetLow = false →
        step s = .next (State.requestLockout { s with lockoutRequests := rest } z k)

/-- Every command answers a next state in every state, and leaves the queue as it stands (section 1.5; log entry 3). -/
def Obligations.EveryCommandAnswersAndKeepsTheQueue : Prop :=
  ∀ (c : Instr) (s : State), ∃ t, exec c s = .next t ∧ t.pending = s.pending

/-! ### The laws of the blocks -/

/-- The state after power-on keeps every law (R25, R37, R44, R63, R76, R78, R104, R108, R120, R127, R139, R155, R157, R169, R173, R182). -/
def Obligations.ResetMeetsTheLaws : Prop :=
  State.reset.metersBalance ∧ State.reset.noticesBounded ∧ State.reset.repliesBounded ∧ State.reset.oneExecuting ∧ State.reset.lockedNeverOpen ∧
    State.reset.stoppedNoneOpen ∧ State.reset.stackRanked ∧ State.reset.cyclesWithin ∧ State.reset.releasingWaits ∧ State.reset.ordersMatch ∧
    State.reset.openWithin ∧ State.reset.suspendedMatch ∧ State.reset.frostWhileArmed ∧ State.reset.committedMatches ∧ State.reset.quotasWithin ∧
    State.reset.loadsWithin

/-- R63 and R76: the metered total equals the attributed total plus the stray total, modulo 2^48; and outside the assertion of the RESET line the committed flow of a
header, and of all, is the sum of the flows that its channels in OPENING, WET and CLOSING were opened with. -/
def Obligations.EveryStepKeepsMetersAndCommittedFlowBalanced : Prop :=
  (∀ s t : State, s.metersBalance → step s = .next t → t.metersBalance) ∧
    ∀ s t : State, s.committedMatches → step s = .next t → t.committedMatches

/-- R182: a notice queue holds at most 16 notices. -/
def Obligations.EveryStepKeepsNoticesBounded : Prop := ∀ s t : State, s.noticesBounded → step s = .next t → t.noticesBounded

/-- R169 and R173: a reply queue holds at most 4 replies; and one directive is EXECUTING at a time. -/
def Obligations.EveryStepKeepsRepliesBoundedAndOneExecuting : Prop :=
  (∀ s t : State, s.repliesBounded → step s = .next t → t.repliesBounded) ∧ ∀ s t : State, s.oneExecuting → step s = .next t → t.oneExecuting

/-- R44 and R120: a zone that carries a lockout is never in OPENING or WET; and while the run state is STOPPED, no zone is. -/
def Obligations.EveryStepKeepsLockedAndStoppedZonesClosed : Prop :=
  (∀ s t : State, s.lockedNeverOpen → step s = .next t → t.lockedNeverOpen) ∧
    ∀ s t : State, s.stoppedNoneOpen → step s = .next t → t.stoppedNoneOpen

/-- R108 and R155: the frames of the stack rank below the regime in force and above the frames below them; and the regime is FROST exactly while frost is armed. -/
def Obligations.EveryStepKeepsStackRankedAndFrostWhileArmed : Prop :=
  (∀ s t : State, s.stackRanked → step s = .next t → t.stackRanked) ∧ ∀ s t : State, s.frostWhileArmed → step s = .next t → t.frostWhileArmed

/-- R139 and R127: cycles remaining never exceeds the programmed cycles; and the suspended list names each zone at most once, and exactly those whose visit status is
SUSPENDED. -/
def Obligations.EveryStepKeepsCyclesWithinAndSuspendedListMatching : Prop :=
  (∀ s t : State, s.cyclesWithin → step s = .next t → t.cyclesWithin) ∧ ∀ s t : State, s.suspendedMatch → step s = .next t → t.suspendedMatch

/-- R25: an entry is RELEASING only while a pending edit belongs to its group, and the plan hold never is. -/
def Obligations.EveryStepKeepsReleasingWaiting : Prop := ∀ s t : State, s.releasingWaits → step s = .next t → t.releasingWaits

/-- R37 and R78: the two orders list the open channels once each, and the open flow of every header and of all together is within the ceilings in force. The law on
flows is kept by the shed walk, which goes through the two orders, so both are kept together. -/
def Obligations.EveryStepKeepsOpenFlowWithinCeilings : Prop :=
  ∀ s t : State, s.ordersMatch ∧ s.openWithin → step s = .next t → t.ordersMatch ∧ t.openWithin

/-! ### Frames and characters -/

/-- R171: the frame that carries a well-formed directive is a whole frame, and reading it gives that directive back with every parameter. -/
def Obligations.ReadingAFrameGivesItsDirective : Prop :=
  ∀ d : Directive, d.wellFormed = true → wholeFrame d.frame = true ∧ readFrame d.frame = .directive d

/-- R167, R168, R172: a whole frame received on an IDLE assembler is checked in the order of R168: sum, code, parameters, right, mailbox. The frame of a well-formed
directive is refused NO-RIGHT without its right, refused BUSY where the mailbox is not EMPTY, and else makes the mailbox PENDING; bytes that do not sum to 0 are
answered LINE-ERROR and counted, a code outside the catalogue UNKNOWN, wrong parameters MALFORMED. Nothing else changes. -/
def Obligations.FrameIsCheckedAndAdmitted : Prop :=
  (∀ (s : State) (p : Port) (d : Directive), d.wellFormed = true → s.resetLow = false → (s.port p).lineLow = false →
    (s.port p).assembler = .idle → (s.port p).replies.length < 4 →
    exec (.frameComplete p d.frame) s =
      .next
        (if grants (s.port p).rights d.right then
          if (s.port p).mailbox = .empty then s.updPort p fun q => { q with mailbox := .pending d }
          else s.refused p .busy (BitVec.ofNat 8 d.code)
        else s.refused p .noRight (BitVec.ofNat 8 d.code))) ∧
  ∀ (s : State) (p : Port) (frame : List Byte), wholeFrame frame = true → s.resetLow = false → (s.port p).lineLow = false →
    (s.port p).assembler = .idle → (s.port p).replies.length < 4 →
    (byteSum frame ≠ 0#8 →
      exec (.frameComplete p frame) s =
        .next ((s.refused p .lineError (frameCode frame)).updPort p fun q => { q with lineErrors := min 255 (q.lineErrors + 1) })) ∧
    (byteSum frame = 0#8 → codeRight (frameCode frame).toNat = none →
      exec (.frameComplete p frame) s = .next (s.refused p .unknown (frameCode frame))) ∧
    (byteSum frame = 0#8 → codeRight (frameCode frame).toNat ≠ none → ¬(frameCode frame = 0x61#8 ∧ frameParams frame = []) →
      parseDirective (frameCode frame).toNat (frameParams frame) = none →
      exec (.frameComplete p frame) s = .next (s.refused p .malformed (frameCode frame)))

/-- R166 and R167: what a character and a silence do by the state of the assembler. A character is clean where its stop bit is high and its parity bit makes the count
of ones even; the last character of a frame hands the frame over as a whole one would be. A silence answers an incomplete frame MALFORMED and a discarded one
LINE-ERROR or MALFORMED by its cause, once, and the assembler returns to IDLE; the echo is the code byte where one was received (R171). That a code byte which itself
comes with a parity or framing error is not received, so that 0x00 is echoed, is the model's choice; that DISCARDING remembers the code byte is its reading (log entry
18). -/
def Obligations.CharactersAndSilencesMoveTheAssembler : Prop :=
  (∀ (s : State) (p : Port) (b : Byte) (parity stop : Bool), s.resetLow = false → (s.port p).lineLow = false →
    match (s.port p).assembler, stop && evenParity b parity with
    | .idle, clean =>
      exec (.characterReceived p b parity stop) s =
        .next (if clean = true ∧ b = 0xC3#8 then s.updPort p fun q => { q with assembler := .receiving [] } else s)
    | .discarding _ _, _ => exec (.characterReceived p b parity stop) s = .next s
    | .receiving bytes, false =>
      exec (.characterReceived p b parity stop) s = .next (s.updPort p fun q => { q with assembler := .discarding .line bytes[1]? })
    | .receiving [], true =>
      exec (.characterReceived p b parity stop) s =
        .next (s.updPort p fun q =>
          { q with assembler := if b.toNat = 0 ∨ 60 < b.toNat then .discarding .form none else .receiving [b] })
    | .receiving (len :: rest), true =>
      (rest.length ≠ len.toNat →
        exec (.characterReceived p b parity stop) s = .next (s.updPort p fun q => { q with assembler := .receiving (len :: rest ++ [b]) })) ∧
      (rest.length = len.toNat → 1 ≤ len.toNat → len.toNat ≤ 60 →
        exec (.characterReceived p b parity stop) s =
          exec (.frameComplete p (len :: rest ++ [b])) (s.updPort p fun q => { q with assembler := .idle }))) ∧
  ∀ (s : State) (p : Port), s.resetLow = false → (s.port p).replies.length < 4 →
    exec (.silence p) s =
      .next
        (match (s.port p).assembler with
        | .idle => s
        | .receiving bytes => (s.updPort p fun q => { q with assembler := .idle }).refused p .malformed (bytes[1]?.getD 0x00#8)
        | .discarding .form code => (s.updPort p fun q => { q with assembler := .idle }).refused p .malformed (code.getD 0x00#8)
        | .discarding .line code =>
          (s.updPort p fun q => { q with assembler := .idle, lineErrors := min 255 (q.lineErrors + 1) }).refused p .lineError
            (code.getD 0x00#8))

/-- R173 and R174: WITHDRAW acts by the state of the mailbox. That it does so whatever the assembler holds, and that its frame on an IDLE assembler does the same, is
log entry 5. Take-up: where no directive is EXECUTING, the first PENDING port after the last-served port is taken up and becomes the last-served port; where one is
EXECUTING, or none is PENDING, nothing changes. -/
def Obligations.MailboxesAreWithdrawnAndServedInTurn : Prop :=
  (∀ (s : State) (p : Port), s.resetLow = false → (s.port p).lineLow = false → (s.port p).replies.length < 4 →
    exec (.withdraw p) s =
        .next
          (match (s.port p).mailbox with
          | .empty => s.refused p .nothingPending 0x61#8
          | .pending d =>
            s.updPort p fun q => { q with mailbox := .empty, replies := q.replies ++ [⟨.withdrawn, false, 0x61#8, [BitVec.ofNat 8 d.code]⟩] }
          | .executing _ _ => s.refused p .tooLate 0x61#8) ∧
      ((s.port p).assembler = .idle → exec (.frameComplete p withdrawFrame) s = exec (.withdraw p) s)) ∧
  ∀ s : State, s.resetLow = false →
    ((∃ p, (s.port p).mailbox.isExecuting = true) → exec .takeUp s = .next s) ∧
    ((∀ p, (s.port p).mailbox = .empty) → exec .takeUp s = .next s) ∧
    ∀ (p : Port) (d : Directive), (∀ q, (s.port q).mailbox.isExecuting = false) → (s.port p).mailbox = .pending d →
      (∀ q, q ∈ (turnAfter s.lastServed).takeWhile (fun r => decide (r ≠ p)) → (s.port q).mailbox = .empty) →
      exec .takeUp s = .next { s.updPort p (fun q => { q with mailbox := .executing d none }) with lastServed := p }

/-- R167, R169: the oldest reply leaves the queue when it is sent. A reply formed while 4 wait is discarded and counted as a line error: at the completion of any
directive, at a whole frame on an IDLE assembler, at WITHDRAW and at a silence; the command has its effect nevertheless. For a directive: the state is the one that
the same completion gives on an empty reply queue, with the one reply so formed taken away, the four waiting ones in place and the line error counted. A LINE-ERROR
reply that is discarded counts twice, which is the model's reading (log entry 18); that WITHDRAW answers whatever the assembler holds is log entry 5. Stated with no
supply event on its way into a selection (log entry 10). -/
def Obligations.ReplyQueueSendsTheOldestAndDiscardsTheFifth : Prop :=
  ∀ (s : State) (p : Port), s.resetLow = false →
    exec (.replySent p) s = .next (s.updPort p fun q => { q with replies := q.replies.drop 1 }) ∧
    ((s.port p).replies.length = 4 →
      (∀ (c : Instr) (d : Directive), c.directive = some (p, d) → completesAtOnce c → (s.port p).mailbox = .executing d none →
        s.supplyInFlight = [] →
        ∃ (u : State) (r : Reply), exec c (s.updPort p fun q => { q with replies := [] }) = .next u ∧
          (u.port p).replies = [r] ∧ r.echo = BitVec.ofNat 8 d.code ∧ (u.port p).mailbox = .empty ∧
          exec c s = .next (u.updPort p fun q => { q with replies := (s.port p).replies, lineErrors := min 255 (q.lineErrors + 1) })) ∧
      ∀ lost : Nat → State → State, lost = (fun n t => t.updPort p fun q => { q with lineErrors := min 255 (q.lineErrors + n) }) →
        ((s.port p).lineLow = false → (s.port p).assembler = .idle → ∀ frame : List Byte, wholeFrame frame = true →
          exec (.frameComplete p frame) s =
            .next
              (match readFrame frame with
              | .badCheck => lost 2 s
              | .unknown => lost 1 s
              | .malformed => lost 1 s
              | .withdraw =>
                lost 1
                  (match (s.port p).mailbox with
                  | .pending _ => s.updPort p fun q => { q with mailbox := .empty }
                  | .executing _ _ => s
                  | .empty => s)
              | .directive d =>
                if grants (s.port p).rights d.right = true ∧ (s.port p).mailbox = .empty then s.updPort p fun q => { q with mailbox := .pending d }
                else lost 1 s)) ∧
        ((s.port p).lineLow = false → exec (.withdraw p) s =
          .next
            (lost 1
              (match (s.port p).mailbox with
              | .pending _ => s.updPort p fun q => { q with mailbox := .empty }
              | .executing _ _ => s
              | .empty => s))) ∧
        exec (.silence p) s =
          .next
            (match (s.port p).assembler with
            | .idle => s
            | .receiving _ => lost 1 (s.updPort p fun q => { q with assembler := .idle })
            | .discarding .form _ => lost 1 (s.updPort p fun q => { q with assembler := .idle })
            | .discarding .line _ => lost 2 (s.updPort p fun q => { q with assembler := .idle })))

/-- R170, R33, R143, R166, R176, R186: a break reinitialises the port, clears its climate slot with an evaluation, and frees its holds; a line still low makes no
second one; the line's return high lets another begin, and that it does nothing else is log entry 24. A directive that is EXECUTING when the break comes completes
without a reply; that the mailbox keeps whether its port held the plan hold is log entry 29. Stated with no supply event on its way into a selection (log entry 10)
for the completion. -/
def Obligations.BreakReinitialisesThePort : Prop :=
  ∀ (s : State) (p : Port) (x : Straps), s.resetLow = false →
    ((s.port p).lineLow = false →
      ∃ t, exec (.lineBreak p x) s = .next { t with holds := s.holds.map fun h => if h = .held p ∨ h = .releasing p then .free else h } ∧
        t =
          State.evaluateClimate
            { s.updPort p (fun q =>
                { q with
                  assembler := .idle
                  mailbox := match q.mailbox with
                    | .executing d broken => .executing d (some (broken.getD (decide (s.hold planEntry = .held p))))
                    | .pending _ => .empty
                    | .empty => .empty
                  replies := []
                  lineErrors := 0
                  strict := false
                  filter := ⟨true, true, true, true⟩
                  strapRights := ⟨x.r0, x.r1, x.r2, x.r3⟩
                  rights := ⟨x.r0, x.r1, x.r2, x.r3⟩
                  rate := x.lineRate
                  notices := []
                  overflow := false
                  lineLow := true }) with
              climate := { s.climate with slots := s.climate.slots.set p none } } false none) ∧
    ((s.port p).lineLow = true → exec (.lineBreak p x) s = .next s) ∧
    exec (.receiveLineReturnsHigh p) s = .next (s.updPort p fun q => { q with lineLow := false }) ∧
    ∀ (c : Instr) (d : Directive) (held : Bool), c.directive = some (p, d) → completesAtOnce c → s.completingUnanswered p d held →
      s.supplyInFlight = [] → ∃ t : State, exec c s = .next t ∧ (t.port p).mailbox = .empty ∧ (t.port p).replies = (s.port p).replies

/-- R176 and R177: SET-OPTIONS clamps or refuses under the mode in force before it and replaces both options; NARROW-RIGHTS removes the marked rights and answers
ALREADY where none was removed; the reply carries the rights in force afterwards as one byte, PROGRAM in bit 0 (R171). -/
def Obligations.OptionsAndRightsDirectives : Prop :=
  ∀ (s : State) (p : Port) (a b c d e : Nat),
    (s.completing p (.setOptions a b c d e) →
      exec (.setOptions p a b c d e) s =
        .next
          (match [a, b, c, d, e].findIdx? (fun v => decide (1 < v)) with
          | some i =>
            if (s.port p).strict then s.answer p (.setOptions a b c d e) .range false [BitVec.ofNat 8 i]
            else
              (s.updPort p fun q =>
                  { q with strict := decide (a ≠ 0), filter := ⟨decide (b ≠ 0), decide (c ≠ 0), decide (d ≠ 0), decide (e ≠ 0)⟩ }).answer p
                (.setOptions a b c d e) .done true []
          | none =>
            (s.updPort p fun q =>
                { q with strict := decide (a ≠ 0), filter := ⟨decide (b ≠ 0), decide (c ≠ 0), decide (d ≠ 0), decide (e ≠ 0)⟩ }).answer p
              (.setOptions a b c d e) .done false [])) ∧
    (s.completing p (.narrowRights a b c d) →
      ∀ r : Rights, r = ⟨(s.port p).rights.program && decide (a = 0), (s.port p).rights.supply && decide (b = 0),
          (s.port p).rights.climate && decide (c = 0), (s.port p).rights.operate && decide (d = 0)⟩ →
        exec (.narrowRights p a b c d) s =
          .next ((s.updPort p fun q => { q with rights := r }).answer p (.narrowRights a b c d)
            (if r = (s.port p).rights then .already else .done) false
            [BitVec.ofNat 8 ((if r.program then 1 else 0) + (if r.supply then 2 else 0) + (if r.climate then 4 else 0) + if r.operate then 8 else 0)]))

/-! ### Reading -/

/-- R36, R74, R90, R98, R106, R125, R142, R165, R171, R179: the reading directives answer DONE with their items, in the order their rules list them, each as the field
stands, a number most significant byte first, an optional item behind its presence byte, a list behind its count and an enumerated item by its code; they change
nothing but the port's mailbox and reply queue. READ-CLOCK gives the next boundary: k is the period length less the days into period, the boundary falls at the start
minute of day count + k - 1 where the second of day is before the start minute, else of day count + k, past 65535 from 0, and it is absent while the clock is INVALID;
T is the sum of the programmed quotas of the defined, enabled zones in the ring. A record number above the last is refused with RANGE naming field 0, in both modes.
Where R171 leaves the layout open (a count or a presence byte, a width), it is the model's choice (log entry 12). -/
def Obligations.ReadingsAnswerTheirItemsAlone : Prop :=
  (∀ (s : State) (p : Port),
    (s.completing p .readRing →
      exec (.readRing p) s =
        .next (s.answer p .readRing .done false
          (listOf s.ring (fun z => bytesOf 1 z.val) ++ bytesOf 1 s.planner.pointer ++ bytesOf 2 s.planner.round ++
            listOf s.planner.suspended (fun z => bytesOf 1 z.val) ++ markOf s.planner.allotmentReached))) ∧
    (s.completing p .readEngine →
      ∀ (port : Port → List Byte) (entry : Entry → List Byte) (frame : Frame → List Byte),
        port = codeOf [.a, .b, .c] 0 →
        entry = (fun e => bytesOf 1 e.zone.val ++ bytesOf 2 e.runTime ++ bytesOf 2 e.remaining ++ codeOf [.waiting, .running, .done, .skipped] 0 e.state) →
        frame = (fun f =>
          match f with
          | .quota pointer round => 0x01#8 :: bytesOf 1 pointer ++ bytesOf 2 round
          | .manual entries => 0x02#8 :: listOf entries entry) →
        exec (.readEngine p) s =
          .next (s.answer p .readEngine .done false
            (codeOf [.idle, .quota, .manual, .frost] 0 s.engine.regime ++ codeOf [.running, .paused, .stopped] 0 s.engine.runState ++
              itemOf s.engine.stopCause (fun c =>
                match c with
                | .shutdown q => 0x01#8 :: itemOf (some q) port
                | .stopLine => 0x02#8 :: itemOf none port) ++
              markOf s.stopLow ++ listOf s.engine.stack frame ++ itemOf s.engine.manual (fun l => listOf l entry)))) ∧
    (s.completing p .readClimate →
      ∀ slot : Option Slot → List Byte,
        slot = (fun x => itemOf x fun y => signedBytesOf 2 y.temperature ++ bytesOf 2 y.age ++ markOf y.fresh) →
        exec (.readClimate p) s =
          .next (s.answer p .readClimate .done false
            (slot s.climate.slots.a ++ slot s.climate.slots.b ++ slot s.climate.slots.c ++
              markOf s.climate.effective.isSome ++ itemOf s.climate.effective (signedBytesOf 2) ++
              codeOf [.disarmed, .armedAuto, .armedManual] 0 s.climate.frost ++ markOf s.climate.inhibit ++
              signedBytesOf 1 s.climate.limits.arm ++ signedBytesOf 1 s.climate.limits.disarm ++ bytesOf 2 s.climate.limits.thawHold ++
              bytesOf 2 s.climate.limits.timeout ++ bytesOf 2 s.climate.thawTimer ++
              bytesOf 1 (zoneIds.filter fun z => (s.zone z).admitted).length ++
              bytesOf 2 s.loads.header[0] ++ bytesOf 2 s.loads.header[1] ++ bytesOf 2 s.loads.header[2] ++ bytesOf 2 s.loads.header[3] ++
              bytesOf 2 s.loads.total))) ∧
    (s.completing p .readClock →
      ∀ (k : Nat) (boundary : Option (Nat × Nat)), k = s.clock.periodLength - s.clock.daysInto →
        boundary =
          (if s.clock.valid = false then none
          else if s.clock.second < s.clock.startMinute * 60 then some ((s.clock.day + (k - 1)) % 65536, s.clock.startMinute)
          else some ((s.clock.day + k) % 65536, s.clock.startMinute)) →
        exec (.readClock p) s =
          .next (s.answer p .readClock .done false
            (bytesOf 3 s.clock.second ++ bytesOf 2 s.clock.day ++ markOf s.clock.valid ++ bytesOf 1 s.clock.periodLength ++
              bytesOf 2 s.clock.startMinute ++ bytesOf 1 s.clock.daysInto ++ itemOf s.clock.allotment (bytesOf 4) ++
              itemOf boundary (fun b => bytesOf 2 b.1 ++ bytesOf 2 b.2) ++
              bytesOf 4 (sumOver (zoneIds.filter fun z => decide (z ∈ s.ring) && (s.zone z).programme.any (·.enabled))
                fun z => ((s.zone z).programme.map (·.quota)).getD 0) ++
              bytesOf 4 (sumOver zoneIds fun z => (s.zone z).effectiveQuota)))) ∧
    (s.completing p .readHolds →
      ∀ (entry : Hold → List Byte) (row : GroupId → List Byte),
        entry = (fun h =>
          match h with
          | .free => 0x00#8 :: itemOf none (codeOf [Port.a, .b, .c] 0)
          | .held q => 0x01#8 :: itemOf (some q) (codeOf [Port.a, .b, .c] 0)
          | .releasing q => 0x02#8 :: itemOf (some q) (codeOf [Port.a, .b, .c] 0)) →
        row = (fun g => entry (s.hold (groupEntry g)) ++ bytesOf 1 (zoneIds.filter fun z => (s.zone z).editBelongs g).length) →
        exec (.readHolds p) s =
          .next (s.answer p .readHolds .done false
            (row 0 ++ row 1 ++ row 2 ++ row 3 ++ row 4 ++ row 5 ++ row 6 ++ row 7 ++ entry (s.hold planEntry))))) ∧
  ∀ (s : State) (p : Port) (n : Nat),
    (s.completing p (.readZone n) →
      ∀ (fields : Programme → List Byte) (record : Zone → List Byte),
        fields = (fun v =>
          bytesOf 1 v.header.val ++ bytesOf 1 v.group.val ++ markOf v.enabled ++ bytesOf 2 v.flow ++ bytesOf 2 v.fill ++ bytesOf 1 v.closing ++
            bytesOf 3 v.quota ++ bytesOf 1 v.cycles ++ bytesOf 2 v.soak ++ markOf v.frostMember ++ bytesOf 1 v.frostRank ++ bytesOf 2 v.dwell ++
            bytesOf 2 v.maxDry) →
        record = (fun x =>
          itemOf x.programme fields ++
            (match x.pendingEdit with
            | none => [0x00#8]
            | some .clear => [0x01#8]
            | some (.edit v) => 0x02#8 :: fields v) ++
            codeOf [.shut, .opening, .wet, .closing] 0 x.valve ++ itemOf x.useTag (codeOf [.quota, .manual, .frost] 1) ++
            itemOf x.lockout (codeOf [.driveFault, .noFlow, .burst] 1) ++ bytesOf 2 x.timeInState ++
            itemOf (if x.fillTimer = none then x.closeTimer else x.fillTimer) (bytesOf 2) ++
            bytesOf 6 x.quotaVolume ++ bytesOf 6 x.manualVolume ++ bytesOf 6 x.frostVolume ++ bytesOf 6 x.lastPeriodVolume ++
            bytesOf 3 x.effectiveQuota ++ codeOf [.noVisit, .openVisit, .suspended] 0 x.visit ++ itemOf x.visitTarget (bytesOf 4) ++
            bytesOf 6 x.visitVolume ++ itemOf x.guardTimer (bytesOf 2) ++ bytesOf 1 x.cyclesRemaining ++ bytesOf 2 x.soakTimer ++
            markOf x.admitted ++ itemOf x.requiredFlow (bytesOf 2) ++ bytesOf 2 x.dryClock ++ markOf x.overdue ++ markOf x.frostVisit ++
            itemOf x.dwellRemaining (bytesOf 2)) →
        exec (.readZone p n) s =
          .next (if h : n < 32 then s.answer p (.readZone n) .done false (record (s.zone ⟨n, h⟩))
            else s.answer p (.readZone n) .range false [0x00#8])) ∧
    (s.completing p (.readGroup n) →
      exec (.readGroup p n) s =
        .next
          (if h : n < 8 then
            s.answer p (.readGroup n) .done false
              (bytesOf 2 (s.group ⟨n, h⟩).start ++ bytesOf 2 (s.group ⟨n, h⟩).finish ++ markOf (s.group ⟨n, h⟩).windowOpen)
          else s.answer p (.readGroup n) .range false [0x00#8])) ∧
    (s.completing p (.readHeader n) →
      ∀ (x : Supply) (record : HeaderId → Meter → List Byte), x = s.supply →
        record = (fun h m =>
          bytesOf 1 m.divisor ++ bytesOf 2 m.weight ++ bytesOf 1 m.interval ++ bytesOf 1 m.tolerance ++ bytesOf 2 m.strayThreshold ++
            markOf m.checks ++ bytesOf 6 m.metered ++ bytesOf 6 m.attributed ++ bytesOf 6 m.stray ++ bytesOf 4 m.lastFlow ++
            bytesOf 1 (if m.run = none then 0 else 1) ++ itemOf m.run (codeOf [.low, .high, .stray] 1) ++ bytesOf 2 m.count ++
            markOf m.saturated ++ markOf m.settling ++ bytesOf 1 m.timer ++
            bytesOf 2 x.inForce.header[h] ++ bytesOf 2 x.fallback.header[h] ++ bytesOf 3 x.committed.header[h] ++
            bytesOf 2 x.inForce.total ++ bytesOf 2 x.fallback.total ++ bytesOf 3 x.committed.total ++
            codeOf [.none, .declared, .lapsed] 0 x.status ++ itemOf x.validity (bytesOf 2)) →
        exec (.readHeader p n) s =
          .next (if h : n < 4 then s.answer p (.readHeader n) .done false (record ⟨n, h⟩ (s.meter ⟨n, h⟩))
            else s.answer p (.readHeader n) .range false [0x00#8]))

/-- R171, R178, R180, R181, R183, R185: READ-PORT gives the items of R178 and clears the overflow mark after placing it in the reply; FETCH-NOTICE removes the oldest
notice and gives its six fields, the kind by its number, and the count left (one presence byte for the stamp: log entry 12); SELECT-ZONES refuses a field above 4 or a
test above 3 in both modes, naming the field where both are (log entry 27), and else lists, in ascending order, exactly the defined zones whose quantity meets the
test. -/
def Obligations.PortNoticesAndZonesAreRead : Prop :=
  ∀ (s : State) (p : Port) (f t : Nat),
    (s.completing p .readPort →
      ∀ (marks : Bool → Bool → Bool → Bool → List Byte) (q : PortState), q = s.port p →
        marks = (fun a b c d => [BitVec.ofNat 8 ((if a then 1 else 0) + (if b then 2 else 0) + (if c then 4 else 0) + if d then 8 else 0)]) →
        exec (.readPort p) s =
          .next ((s.updPort p fun q => { q with overflow := false }).answer p .readPort .done false
            (codeOf [.a, .b, .c] 0 p ++ marks q.rights.program q.rights.supply q.rights.climate q.rights.operate ++
              marks q.strapRights.program q.strapRights.supply q.strapRights.climate q.strapRights.operate ++
              codeOf [.r9600, .r19200, .r38400, .r57600] 0 q.rate ++ markOf q.strict ++
              marks q.filter.fault q.filter.supply q.filter.frost q.filter.plan ++ bytesOf 1 q.lineErrors ++ bytesOf 1 q.notices.length ++
              markOf q.overflow))) ∧
    (s.completing p .fetchNotice →
      exec (.fetchNotice p) s =
        .next
          (match (s.port p).notices with
          | [] => s.answer p .fetchNotice .done false [0x00#8, 0x00#8]
          | n :: rest =>
            (s.updPort p fun q => { q with notices := rest }).answer p .fetchNotice .done false
              (0x01#8 ::
                codeOf [.zoneLocked, .lowFlow, .highFlow, .strayFlow, .meterSaturated, .manualSkipped, .zoneShed, .supplyLapsed, .supplyDeclared,
                  .frostArmed, .frostDisarmed, .triageChanged, .zoneOverdue, .climateStale, .shortVisit, .periodRolled, .allotmentReached,
                  .regimeChanged, .stopped, .holdBroken] 1 n.kind ++
                itemOf n.stamp (fun t => bytesOf 2 t.1 ++ bytesOf 3 t.2) ++ itemOf n.zone (fun z => bytesOf 1 z.val) ++
                itemOf n.header (fun h => bytesOf 1 h.val) ++ itemOf n.port (codeOf [.a, .b, .c] 0) ++ itemOf n.value (signedBytesOf 6) ++
                [BitVec.ofNat 8 rest.length]))) ∧
    (s.completing p (.selectZones f t) →
      (4 < f → exec (.selectZones p f t) s = .next (s.answer p (.selectZones f t) .range false [0x00#8])) ∧
      (f ≤ 4 → 3 < t → exec (.selectZones p f t) s = .next (s.answer p (.selectZones f t) .range false [0x01#8])) ∧
      (f ≤ 4 → t ≤ 3 →
        ∃ zs : List ZoneId, zs.Pairwise (· < ·) ∧
          (∀ z : ZoneId, z ∈ zs ↔
            ∃ x, (s.zone z).programme = some x ∧
              (let v : Int :=
                match f with
                | 0 => ((s.zone z).effectiveQuota : Int) * 100 - (s.zone z).quotaVolume
                | 1 => (x.maxDry : Int) - (s.zone z).dryClock
                | 2 => (s.zone z).cyclesRemaining
                | 3 => (s.zone z).dryClock
                | _ => if (s.zone z).lockout = none then 0 else 1
              match t with
              | 0 => v = 0
              | 1 => v ≠ 0
              | 2 => 0 < v
              | _ => v < 0)) ∧
          exec (.selectZones p f t) s =
            .next (s.answer p (.selectZones f t) .done false (BitVec.ofNat 8 zs.length :: zs.map fun z => BitVec.ofNat 8 z.val))))

/-! ### Holds -/

/-- R24, R28, R29, R31, R32: TAKE-HOLD, RELEASE-HOLD and BREAK-HOLD by the state of the entry, the requester and the group's count of outstanding deferred edits;
BREAK-HOLD frees an entry whatever its holder and posts HOLD-BROKEN with the former holder; an entry number above 8 is refused with RANGE naming field 0. That the
DONE of BREAK-HOLD names the holder and the state in the bytes of HELD-ELSEWHERE is the model's choice (log entry 12). Nothing but the entry, the notices and the port
changes. -/
def Obligations.HoldDirectivesActByTheEntry : Prop :=
  (∀ (s : State) (p : Port),
    (∀ e : EntryId, s.completing p (.takeHold e) →
      exec (.takeHold p e) s =
        .next
          (match s.hold e with
          | .free => (s.setHold e (.held p)).answer p (.takeHold e) .done false []
          | .held q =>
            if q = p then s.answer p (.takeHold e) .already false []
            else s.answer p (.takeHold e) .heldElsewhere false [BitVec.ofNat 8 q.number, 0x01#8]
          | .releasing q =>
            if q = p then (s.setHold e (.held p)).answer p (.takeHold e) .done false []
            else s.answer p (.takeHold e) .heldElsewhere false [BitVec.ofNat 8 q.number, 0x02#8])) ∧
    (∀ e : EntryId, s.completing p (.releaseHold e) →
      exec (.releaseHold p e) s =
        .next
          (if s.hold e = .held p then
            if ∃ (g : GroupId) (z : ZoneId), e.val = g.val ∧ (s.zone z).editBelongs g = true then
              (s.setHold e (.releasing p)).answer p (.releaseHold e) .deferred false []
            else (s.setHold e .free).answer p (.releaseHold e) .done false []
          else s.answer p (.releaseHold e) .notHolder false [BitVec.ofNat 8 e.val])) ∧
    ∀ n : Nat, 8 < n →
      (s.completing p (.takeHold n) → exec (.takeHold p n) s = .next (s.answer p (.takeHold n) .range false [0x00#8])) ∧
      (s.completing p (.releaseHold n) → exec (.releaseHold p n) s = .next (s.answer p (.releaseHold n) .range false [0x00#8]))) ∧
  ∀ (s : State) (p : Port),
    (∀ e : EntryId, s.completing p (.breakHold e) →
      exec (.breakHold p e) s =
        .next
          (match s.hold e with
          | .held q =>
            ((s.setHold e .free).post .holdBroken none none (some q) (some (e.val : Int))).answer p (.breakHold e) .done false
              [BitVec.ofNat 8 q.number, 0x01#8]
          | .releasing q =>
            ((s.setHold e .free).post .holdBroken none none (some q) (some (e.val : Int))).answer p (.breakHold e) .done false
              [BitVec.ofNat 8 q.number, 0x02#8]
          | .free => s.answer p (.breakHold e) .already false [])) ∧
    ∀ n : Nat, 8 < n → s.completing p (.breakHold n) → exec (.breakHold p n) s = .next (s.answer p (.breakHold n) .range false [0x00#8])

/-! ### The zone table and the ring -/

/-- R12: in clamp mode the fields of EDIT-ZONE are never refused, every value is brought into its range, and the clamped mark is set exactly where one was outside; in
strict mode fields in range pass unchanged and unmarked, and a field out of range refuses by the index of the first such field. -/
def Obligations.EditFieldsAreClampedOrRefused : Prop :=
  ∀ f : ZoneFields,
    let ranges := [(0, 3), (0, 7), (0, 1), (1, 6000), (0, 600), (1, 120), (0, 2000000), (1, 15), (0, 7200), (0, 1), (1, 32), (10, 900), (10, 1800)]
    let outside := (f.values.zip ranges).findIdx? fun e => decide (e.1 < e.2.1 ∨ e.2.2 < e.1)
    (∃ v, checkProgramme false f = .ok v outside.isSome ∧
      [v.header.val, v.group.val, if v.enabled then 1 else 0, v.flow, v.fill, v.closing, v.quota, v.cycles, v.soak,
          if v.frostMember then 1 else 0, v.frostRank, v.dwell, v.maxDry] =
        (f.values.zip ranges).map fun e => max e.2.1 (min e.2.2 e.1)) ∧
    (∀ i, outside = some i → checkProgramme true f = .out (i + 1)) ∧
    (outside = none → checkProgramme true f = checkProgramme false f)

/-- R11, R13, R14, R15: EDIT-ZONE and CLEAR-ZONE are refused by number, definition, field and hold in that order, changing nothing; with every touched group HELD they
are DEFERRED into the pending edit where the channel is not SHUT, and applied with a selection where it is. Where the port was reinitialised under them, a touched
group that is then not HELD refuses them without a reply (R27, R33, R170). That the selection comes before the reply is log entry 30. -/
def Obligations.EditAndClearZoneAreCarriedOut : Prop :=
  ∀ (s : State) (p : Port),
    (∀ (n : Nat) (f : ZoneFields), 31 < n →
      (s.completing p (.editZone n f) → exec (.editZone p n f) s = .next (s.answer p (.editZone n f) .range false [0x00#8])) ∧
      (s.completing p (.clearZone n) → exec (.clearZone p n) s = .next (s.answer p (.clearZone n) .range false [0x00#8]))) ∧
    (∀ (z : ZoneId) (f : ZoneFields), s.completing p (.editZone z f) →
      exec (.editZone p z f) s =
        .next
          (match checkProgramme (s.port p).strict f with
          | .out i => s.answer p (.editZone z f) .range false [BitVec.ofNat 8 i]
          | .ok v clamped =>
            match ((s.zone z).touched (some v.group)).find? (fun g => decide (s.hold (groupEntry g) ≠ .held p)) with
            | some g =>
              s.answer p (.editZone z f) (if s.hold (groupEntry g) = .releasing p then .releasing else .notHolder) false [BitVec.ofNat 8 g.val]
            | none =>
              if (s.zone z).valve = .shut then ((s.applyNow z (.edit v)).select).answer p (.editZone z f) .done clamped []
              else (s.updZone z fun x => { x with pendingEdit := some (.edit v) }).answer p (.editZone z f) .deferred clamped [])) ∧
    (∀ (z : ZoneId) (f : ZoneFields) (held : Bool),
      (s.completingUnanswered p (.editZone z f) held →
        (∀ v clamped, checkProgramme (s.port p).strict f = .ok v clamped →
          ∃ g ∈ (s.zone z).touched (some v.group), s.hold (groupEntry g) ≠ .held p) →
        exec (.editZone p z f) s = .next (s.unanswered p)) ∧
      (s.completingUnanswered p (.clearZone z) held → (∃ g ∈ (s.zone z).touched none, s.hold (groupEntry g) ≠ .held p) →
        exec (.clearZone p z) s = .next (s.unanswered p))) ∧
    ∀ z : ZoneId, s.completing p (.clearZone z) →
      exec (.clearZone p z) s =
        .next
          (if (s.zone z).programme = none then s.answer p (.clearZone z) .undefinedZone false [BitVec.ofNat 8 z.val]
          else
            match ((s.zone z).touched none).find? (fun g => decide (s.hold (groupEntry g) ≠ .held p)) with
            | some g =>
              s.answer p (.clearZone z) (if s.hold (groupEntry g) = .releasing p then .releasing else .notHolder) false [BitVec.ofNat 8 g.val]
            | none =>
              if (s.zone z).valve = .shut then ((s.applyNow z .clear).select).answer p (.clearZone z) .done false []
              else (s.updZone z fun x => { x with pendingEdit := some .clear }).answer p (.clearZone z) .deferred false [])

/-- R17 to R20, R30, R51: what an application does to the zone and to the rest, and that a SHUT report applies the pending edit and hands it off. A programme is
replaced whole; cycles remaining becomes the new cycles or the lesser of the two; a CLEAR leaves none; a suspended visit is dropped; the other live fields, the other
zones and the rest of the part are kept. The hand-off recomputes the effective quotas where the zone is in the ring and its defined state, enabled field or quota
differs, and then reruns triage where frost is armed and the zone was a frost candidate or is one. At the SHUT report the hold of every group the edit belonged to is
FREE where it was RELEASING and no pending edit is left for it, and as it was otherwise. -/
def Obligations.PendingEditIsAppliedAndHandedOff : Prop :=
  (∀ (s : State) (z : ZoneId) (e : PendingEdit),
    let x := s.zone z
    let t := s.applyEdit z e
    let target := match e with
      | .edit v => some v
      | .clear => none
    let cycles := match e with
      | .edit v => if x.programme = none then v.cycles else min x.cyclesRemaining v.cycles
      | .clear => 0
    t.zone z =
        (if z ∈ s.planner.suspended then
          { x with programme := target, pendingEdit := none, cyclesRemaining := cycles, visit := .noVisit, visitTarget := none,
                   visitVolume := 0, guardTimer := none }
        else { x with programme := target, pendingEdit := none, cyclesRemaining := cycles }) ∧
      (∀ z', z' ≠ z → t.zone z' = s.zone z') ∧
      t = { s with zones := t.zones, planner := { s.planner with suspended := s.planner.suspended.filter fun i => decide (i ≠ z) } }) ∧
  (∀ (s : State) (z : ZoneId) (e : PendingEdit),
    let target := match e with
      | .edit v => some v
      | .clear => none
    let candidate : Option Programme → Prop := fun o =>
      (s.zone z).lockout = none ∧ ∃ v, o = some v ∧ v.enabled = true ∧ v.frostMember = true
    let t := s.applyEdit z e
    let u := if z ∈ s.ring ∧ (s.zone z).programme.map (fun v => (v.enabled, v.quota)) ≠ target.map (fun v => (v.enabled, v.quota))
      then t.recomputeQuotas else t
    (s.climate.frost ≠ .disarmed → candidate (s.zone z).programme ∨ candidate target → s.applyNow z e = u.triage) ∧
      (s.climate.frost = .disarmed ∨ ¬(candidate (s.zone z).programme ∨ candidate target) → s.applyNow z e = u)) ∧
  ∀ (s : State) (z : ZoneId) (e : PendingEdit), (s.zone z).pendingEdit = some e →
    let t := s.applyPending z
    t = { s.applyNow z e with holds := t.holds } ∧
    (t.zone z).pendingEdit = none ∧ (t.zone z).programme = (match e with | .edit v => some v | .clear => none) ∧
      (∀ z', z' ≠ z → (t.zone z').programme = (s.zone z').programme ∧ (t.zone z').pendingEdit = (s.zone z').pendingEdit) ∧
      (∀ g : GroupId, t.hold (groupEntry g) =
        if (s.hold (groupEntry g)).isReleasing = true ∧ (s.zone z).editBelongs g = true ∧ t.deferredCount g = 0 then .free
        else s.hold (groupEntry g)) ∧
      t.hold planEntry = s.hold planEntry

/-- R9 and R10: SET-RING is refused by the position of a number above 31, by the zone whose second appearance comes first, and by the plan hold, in that order; else
the ring is replaced, the pointer, live and saved, becomes 0, zones left out leave the suspended list, the effective quotas are recomputed and a selection is made.
Where the port was reinitialised under it, and so does not hold the plan hold, it is refused without a reply (R27, R33, R170). That the selection comes before the
reply is log entry 30. -/
def Obligations.SetRingReplacesTheRing : Prop :=
  (∀ (s : State) (p : Port) (zs : List Nat) (held : Bool), s.completingUnanswered p (.setRing zs) held → s.hold planEntry ≠ .held p →
    exec (.setRing p zs) s = .next (s.unanswered p)) ∧
  ∀ (s : State) (p : Port) (zs : List Nat), s.completing p (.setRing zs) →
    (∀ k, zs.findIdx? (fun n => decide (31 < n)) = some k →
      exec (.setRing p zs) s = .next (s.answer p (.setRing zs) .range false [BitVec.ofNat 8 (k + 1)])) ∧
    ∀ ring : List ZoneId, zs = ring.map (·.val) →
      (∀ (l r : List ZoneId) (z : ZoneId), ring = l ++ z :: r → l.Nodup → z ∈ l →
        exec (.setRing p zs) s = .next (s.answer p (.setRing zs) .duplicate false [BitVec.ofNat 8 z.val])) ∧
      (ring.Nodup → s.hold planEntry ≠ .held p →
        exec (.setRing p zs) s = .next (s.answer p (.setRing zs) .notHolder false [0x08#8])) ∧
      (ring.Nodup → s.hold planEntry = .held p →
        ∃ t : State,
          exec (.setRing p zs) s = .next ((t.recomputeQuotas.select).answer p (.setRing zs) .done false []) ∧
          t = { s with
            zones := t.zones
            ring := ring
            planner := { s.planner with pointer := 0, suspended := s.planner.suspended.filter fun z => decide (z ∈ ring) }
            engine := { s.engine with stack := s.engine.stack.map fun f =>
              match f with
              | .quota _ round => .quota 0 round
              | .manual entries => .manual entries } } ∧
          ∀ z, t.zone z =
            if z ∈ s.planner.suspended ∧ z ∉ ring then
              { s.zone z with visit := .noVisit, visitTarget := none, visitVolume := 0, guardTimer := none }
            else s.zone z)

/-! ### The Night Clock -/

/-- R7, R95, R96: SET-WINDOW is refused by the group number in both modes, by a minute in strict mode, and by the hold; else both fields are replaced and the window
is evaluated at once by the table of R95: a window that closes suspends the open visits of its group's zones, and one that opens is a selection event. Where the port
was reinitialised under it, and so does not hold the group's hold, it is refused without a reply (R27, R33, R170). That the selection comes before the reply is log
entry 30. -/
def Obligations.SetWindowReplacesAndEvaluates : Prop :=
  (∀ (s : State) (p : Port) (g : GroupId) (a b : Nat) (held : Bool), s.completingUnanswered p (.setWindow g a b) held →
    s.hold (groupEntry g) ≠ .held p → exec (.setWindow p g a b) s = .next (s.unanswered p)) ∧
  ∀ (s : State) (p : Port) (n a b : Nat), s.completing p (.setWindow n a b) →
    (7 < n → exec (.setWindow p n a b) s = .next (s.answer p (.setWindow n a b) .range false [0x00#8])) ∧
    ∀ g : GroupId, n = g.val →
      ((s.port p).strict = true → 1439 < a → exec (.setWindow p n a b) s = .next (s.answer p (.setWindow n a b) .range false [0x01#8])) ∧
      ((s.port p).strict = true → a ≤ 1439 → 1439 < b →
        exec (.setWindow p n a b) s = .next (s.answer p (.setWindow n a b) .range false [0x02#8])) ∧
      (((s.port p).strict = false ∨ (a ≤ 1439 ∧ b ≤ 1439)) →
        (s.hold (groupEntry g) ≠ .held p →
          exec (.setWindow p n a b) s =
            .next (s.answer p (.setWindow n a b) (if s.hold (groupEntry g) = .releasing p then .releasing else .notHolder) false
              [BitVec.ofNat 8 g.val])) ∧
        (s.hold (groupEntry g) = .held p →
          ∀ isOpen : Bool, (isOpen = true ↔ inSpan s.clock.valid (min 1439 a) (min 1439 b) (s.clock.second / 60)) →
          ∀ t : State, t = s.updGroup g (fun _ => ⟨min 1439 a, min 1439 b, isOpen⟩) →
            exec (.setWindow p n a b) s =
              .next
                ((if (s.group g).windowOpen = true ∧ isOpen = false then t.closeVisits (Zone.inGroups [g]) .windowClosed
                  else if (s.group g).windowOpen = false ∧ isOpen = true then t.select
                  else t).answer p (.setWindow n a b) .done (decide (1439 < a ∨ 1439 < b)) [])))

/-- R94, R95, R96, R137: SET-CLOCK refuses a second of day above 86399 in strict mode and lowers it in clamp mode; it replaces the time, makes the clock VALID and
evaluates every window by the table of R95. The open visits of a group whose window closes are suspended, and a window that opens is a selection event. With no flag
changed, nothing else changes: no pass is counted and no period rolls. That the selection comes before the reply is log entry 30. -/
def Obligations.SetClockMakesTheClockValid : Prop :=
  ∀ (s : State) (p : Port) (d n : Nat), d ≤ 65535 → s.completing p (.setClock d n) →
    ((s.port p).strict = true → 86399 < n → exec (.setClock p d n) s = .next (s.answer p (.setClock d n) .range false [0x01#8])) ∧
    (((s.port p).strict = false ∨ n ≤ 86399) →
      ∀ (t : State) (w : GroupId → Bool), t = { s with clock := { s.clock with day := d, second := min 86399 n, valid := true } } →
        (∀ g, w g = true ↔ inSpan true (s.group g).start (s.group g).finish (min 86399 n / 60)) →
        ((∀ g, (s.group g).windowOpen = w g) →
          exec (.setClock p d n) s = .next (t.answer p (.setClock d n) .done (decide (86399 < n)) [])) ∧
        ∃ u : State,
          exec (.setClock p d n) s =
            .next ((if ∃ g, (s.group g).windowOpen = false ∧ w g = true then u.select else u).answer p (.setClock d n) .done
              (decide (86399 < n)) []) ∧
          t.windowsTaken w u)

/-- R91, R102, R103, R140: SET-PERIOD is refused by its first field out of range in strict mode and by the plan hold; else the settings are replaced, the days into
period brought below the length, and, where the allotment has changed, the quotas recomputed, the allotment tested and a selection made. Where the port was
reinitialised under it while it held the plan hold, it has its effect without a reply; that reading of R91 beside R33 is log entry 29. Where it did not, and does not
now, it is refused without a reply (R27). That the selection comes before the reply is log entry 30. -/
def Obligations.SetPeriodReplacesTheSettings : Prop :=
  ∀ (s : State) (p : Port) (l m a : Nat),
    ∀ outside : Option Nat, outside =
        (if l = 0 ∨ 14 < l then some 0 else if 1439 < m then some 1 else if 100000000 < a then some 2 else none) →
      (∀ i, s.completing p (.setPeriod l m a) → (s.port p).strict = true → outside = some i →
        exec (.setPeriod p l m a) s = .next (s.answer p (.setPeriod l m a) .range false [BitVec.ofNat 8 i])) ∧
      (((s.port p).strict = false ∨ outside = none) →
        (s.completing p (.setPeriod l m a) → s.hold planEntry ≠ .held p →
          exec (.setPeriod p l m a) s = .next (s.answer p (.setPeriod l m a) .notHolder false [0x08#8])) ∧
        ∀ t u : State, t = { s with
            clock := { s.clock with
              periodLength := max 1 (min 14 l)
              startMinute := min 1439 m
              allotment := if a = 0 then none else some (min 100000000 a)
              daysInto := if s.clock.daysInto < max 1 (min 14 l) then s.clock.daysInto else max 1 (min 14 l) - 1 } } →
          u = (if s.clock.allotment = t.clock.allotment then t else (t.recomputeQuotas.testAllotment (some p)).select) →
          (s.completing p (.setPeriod l m a) → s.hold planEntry = .held p →
            exec (.setPeriod p l m a) s = .next (u.answer p (.setPeriod l m a) .done outside.isSome [])) ∧
          (s.completingUnanswered p (.setPeriod l m a) true → exec (.setPeriod p l m a) s = .next (u.unanswered p)) ∧
          (s.completingUnanswered p (.setPeriod l m a) false → s.hold planEntry ≠ .held p →
            exec (.setPeriod p l m a) s = .next (s.unanswered p)))

/-- R92, R93, R95, R96, R97, R99, R100, R101, R137, R141: a period roll sets last-period volumes in litres, clears the period volumes, recomputes the quotas, posts
PERIOD-ROLLED with its cause, drops and closes the open visits, clears the suspended list and resets cycles remaining. NEW-PERIOD sets the days into period to 0 and
rolls with value 2 and the port; then a selection. A minute change, midnight included, evaluates every window by the table of R95, and suspends the open visits of a
group whose window closes; while the clock is VALID and the minute is the start minute it is a pass: the days into period rise, and at the period length the period
rolls with value 1; then one selection where a window has opened or the period has rolled. While the clock is INVALID there is no pass. While the RESET line is
asserted flags are stored without a report, and a boundary sets the pending roll mark. That the second's counts come before the clock's part is log entry 2, and that
one selection serves a window and a roll of one minute is log entry 21. That the selection of NEW-PERIOD comes before its reply is log entry 30. -/
def Obligations.PeriodRollsByDirectiveAndByPass : Prop :=
  (∀ (s : State) (cause : Int) (port : Option Port), s.resetLow = false →
    ∀ u : State, u = s.rollPeriod cause port →
      u.clock = s.clock ∧ u.planner = ⟨s.planner.pointer, s.planner.round, [], false⟩ ∧
      (∀ z, let x := u.zone z
        let y := s.zone z
        x.lastPeriodVolume = y.quotaVolume / 100 ∧ x.quotaVolume = 0 ∧ x.manualVolume = 0 ∧ x.frostVolume = 0 ∧
          x.effectiveQuota = s.quotaShare z ∧ x.cyclesRemaining = (match y.programme with | some v => v.cycles | none => 0) ∧
          x.programme = y.programme ∧ x.soakTimer = y.soakTimer ∧ x.lockout = y.lockout ∧
          (y.visit = .openVisit → y.isOpen = true → y.useTag = some .quota → x.valve = .closing ∧ x.visit = .noVisit ∧ x.visitTarget = none) ∧
          (y.visit ≠ .openVisit → x.valve = y.valve ∧ x.useTag = y.useTag)) ∧
      u.groups = s.groups ∧ u.ring = s.ring ∧ u.holds = s.holds ∧ u.supply = s.supply ∧ u.climate = s.climate ∧ u.engine = s.engine ∧
      u.loads = s.loads ∧
      ∀ q, u.port q = (s.port q).file ⟨.periodRolled, s.stamp, none, none, port, some cause⟩) ∧
  (∀ (s : State) (p : Port), s.completing p .newPeriod →
    exec (.newPeriod p) s =
      .next (((State.rollPeriod { s with clock := { s.clock with daysInto := 0 } } 2 (some p)).select).answer p .newPeriod .done false [])) ∧
  ∀ (s : State) (c : Clock) (w : GroupId → Bool) (passes : Bool), c = s.clock.advance → c.second % 60 = 0 →
    (∀ g, w g = true ↔ inSpan s.clock.valid (s.group g).start (s.group g).finish (c.second / 60)) →
    passes = (s.clock.valid && decide (c.second / 60 = s.clock.startMinute)) →
    (s.resetLow = true →
      exec .secondAdvance s =
        .next { s with
          groups := tabulate fun g => { s.group g with windowOpen := w g }
          clock :=
            if passes = true then
              if s.clock.daysInto + 1 = s.clock.periodLength then { c with daysInto := 0, pendingRoll := true }
              else { c with daysInto := s.clock.daysInto + 1 }
            else c }) ∧
    (s.resetLow = false →
      ∃ u : State, State.windowsTaken { s.countSecond with clock := c } w u ∧
        exec .secondAdvance s =
          .next
            (if passes = true ∧ s.clock.daysInto + 1 = s.clock.periodLength then
              (State.rollPeriod { u with clock := { c with daysInto := 0 } } 1 none).select
            else
              let v : State := if passes = true then { u with clock := { c with daysInto := s.clock.daysInto + 1 } } else u
              if ∃ g, (s.group g).windowOpen = false ∧ w g = true then v.select else v))

/-- R92 and what counts once a second (R37, R59, R81, R117, R132, R138, R144, R148, R159, R162): every count moves by its rule, and the second of day rises by one, or
returns to 0 at midnight with the day count raised, 65535 wrapping to 0, in VALID and INVALID alike; a second that is no minute change does nothing else; while the
RESET line is asserted the clock alone moves. That one command carries every count, before the clock, is the model's choice (log entry 2). -/
def Obligations.SecondAdvanceMovesEveryCount : Prop :=
  (∀ s : State,
    (s.clock.second < 86399 → s.clock.advance = { s.clock with second := s.clock.second + 1 }) ∧
    (s.clock.second = 86399 → s.clock.advance = { s.clock with second := 0, day := if s.clock.day = 65535 then 0 else (s.clock.day + 1) % 65536 }) ∧
    (s.clock.advance.second % 60 ≠ 0 →
      (s.resetLow = true → exec .secondAdvance s = .next { s with clock := s.clock.advance }) ∧
      (s.resetLow = false → exec .secondAdvance s = .next { s.countSecond with clock := s.clock.advance }))) ∧
  ∀ s t : State, t = s.countSecond →
    t = { s with
      zones := t.zones
      meters := s.meters.map fun m => { m with timer := m.timer - 1 }
      supply := { s.supply with validity := s.supply.validity.map (· - 1) }
      climate := { s.climate with
        slots := s.climate.slots.map fun x => x.map fun y => { y with age := min 65535 (y.age + 1) }
        thawTimer :=
          if s.climate.frost = .armedAuto ∧ s.climate.warm = true ∧ s.climate.thawTimer < s.climate.limits.thawHold then s.climate.thawTimer + 1
          else s.climate.thawTimer }
      engine := { s.engine with
        manual := s.engine.manual.map fun l => l.map fun e =>
          if e.state = .running ∧ (s.zone e.zone).valve = .wet then { e with remaining := e.remaining - 1 } else e } } ∧
    ∀ z, t.zone z =
      { s.zone z with
        fillTimer := (s.zone z).fillTimer.map (· - 1)
        closeTimer := (s.zone z).closeTimer.map (· - 1)
        senseTimer := (s.zone z).senseTimer.map (· - 1)
        guardTimer := (s.zone z).guardTimer.map (· - 1)
        timeInState := min 65535 ((s.zone z).timeInState + 1)
        soakTimer := min 65535 ((s.zone z).soakTimer + 1)
        dryClock :=
          if s.climate.frost ≠ .disarmed ∧ (s.zone z).valve ≠ .wet then min 65535 ((s.zone z).dryClock + 1) else (s.zone z).dryClock
        dwellRemaining := if (s.zone z).valve = .wet then (s.zone z).dwellRemaining.map (· - 1) else (s.zone z).dwellRemaining }

/-- R104: what a recomputation leaves. The quota set is the zones defined, enabled and in the ring, T the sum of their programmed quotas; under an allotment below T
each effective quota of the set is the rounded-down share of the allotment, and otherwise the programmed quota; every other zone has 0; under an allotment all
effective quotas sum to no more than it; nothing else changes, visit targets and quota volumes included. And every step keeps the law that the effective quotas of all
zones sum to no more than the allotment. -/
def Obligations.EffectiveQuotasFitTheAllotment : Prop :=
  (∀ s t : State, s.quotasWithin → step s = .next t → t.quotasWithin) ∧
  ∀ s : State,
    let inSet : ZoneId → Bool := fun z => decide (z ∈ s.ring) && ((s.zone z).programme.map (·.enabled)).getD false
    let quota : ZoneId → Nat := fun z => ((s.zone z).programme.map (·.quota)).getD 0
    let sum := sumOver (zoneIds.filter inSet) quota
    (∀ a, s.clock.allotment = some a → sumOver zoneIds (fun z => (s.recomputeQuotas.zone z).effectiveQuota) ≤ a) ∧
    s.recomputeQuotas = { s with zones := s.recomputeQuotas.zones } ∧
    ∀ z, ∃ e : Nat, s.recomputeQuotas.zone z = { s.zone z with effectiveQuota := e } ∧
      (inSet z = false → e = 0) ∧
      (∀ a, inSet z = true → s.clock.allotment = some a → a < sum → e = quota z * a / sum) ∧
      (inSet z = true → (∀ a, s.clock.allotment = some a → sum ≤ a) → e = quota z)

/-! ### The meters -/

/-- R56, R57, R73: a raw pulse raises the residue, and at the divisor returns it to 0 and raises P by one; at P 65535 the divided pulse is lost, and the first such in
the interval sets the saturated mark and posts METER-SATURATED; while the RESET line is asserted nothing is counted. -/
def Obligations.RawPulseIsCounted : Prop :=
  ∀ (s : State) (h : HeaderId),
    (s.resetLow = true → exec (.rawPulse h) s = .next s) ∧
    (s.resetLow = false →
      exec (.rawPulse h) s =
        .next
          (if (s.meter h).residue + 1 < (s.meter h).divisor then s.updMeter h fun m => { m with residue := m.residue + 1 }
          else if (s.meter h).count < 65535 then s.updMeter h fun m => { m with residue := 0, count := m.count + 1 }
          else if (s.meter h).saturated = true then s.updMeter h fun m => { m with residue := 0 }
          else (s.updMeter h fun m => { m with residue := 0, saturated := true }).post .meterSaturated none (some h) none none))

/-- R61, R62 and R63: the interval volume is shared among the drawing zones to the last centilitre: each share is the rounded-down share by nominal flow or one more,
and they sum to the volume; each goes to the period volume of the channel's use tag, and to the visit volume of an open quota visit alone; no other zone is credited.
The metered total of the header rises by the volume, and with it the attributed total where a zone draws, the stray total where none does, all modulo 2^48; nothing
else changes. -/
def Obligations.ApportionmentSharesTheWholeVolume : Prop :=
  ∀ (s : State) (h : HeaderId), (∀ z ∈ s.drawingSet h, 0 < (s.zone z).openedFlow) →
    let v := (s.meter h).count * (s.meter h).weight
    let q := sumOver (s.drawingSet h) fun z => (s.zone z).openedFlow
    ∃ a : ZoneId → Nat,
      (s.drawingSet h ≠ [] → sumOver (s.drawingSet h) a = v) ∧
      (∀ z ∈ s.drawingSet h, v * (s.zone z).openedFlow / q ≤ a z ∧ a z ≤ v * (s.zone z).openedFlow / q + 1) ∧
      (∀ z ∈ s.drawingSet h, ∀ z' ∈ s.drawingSet h, z < z' →
        a z' = v * (s.zone z').openedFlow / q + 1 → a z = v * (s.zone z).openedFlow / q + 1) ∧
      (s.apportion h = { s with
        zones := (s.apportion h).zones
        meters := s.meters.set h { s.meter h with
          metered := ((s.meter h).metered + v) % 281474976710656
          attributed := if s.drawingSet h = [] then (s.meter h).attributed else ((s.meter h).attributed + v) % 281474976710656
          stray := if s.drawingSet h = [] then ((s.meter h).stray + v) % 281474976710656 else (s.meter h).stray } }) ∧
      ∀ z, (s.apportion h).zone z =
        if z ∈ s.drawingSet h then
          match (s.zone z).useTag with
          | some .quota =>
            { s.zone z with
              quotaVolume := min 281474976710655 ((s.zone z).quotaVolume + a z)
              visitVolume :=
                if (s.zone z).visit = .openVisit then min 281474976710655 ((s.zone z).visitVolume + a z) else (s.zone z).visitVolume }
          | some .manual => { s.zone z with manualVolume := min 281474976710655 ((s.zone z).manualVolume + a z) }
          | some .frost => { s.zone z with frostVolume := min 281474976710655 ((s.zone z).frostVolume + a z) }
          | none => s.zone z
        else s.zone z

/-- R58, R59, R61, R63, R65 to R70, R134: the expiry of an interval in which nothing drew adds the volume to the stray total, forms the measured flow, and posts
STRAY-FLOW where the run reaches length 2. Where every drawing zone is WET, the shares go to the zones, the visit progress of the QUOTA-tagged ones is reported, and
LOW and HIGH are judged against the tolerance; at length 2 the notice is posted, naming the zone where exactly one is WET, and after it the lockout of that zone is
requested, taken at once or sent on its way (log entry 28); the progress is taken before the notice, between the two, or after the request (log entry 9). A settling
interval, and one with the checks off, is accounted and reported without a test, and ends a run. The next interval begins, its marks set from the channels. A timer
that has not run out changes nothing (log entry 1). -/
def Obligations.IntervalExpiryAccountsAndTests : Prop :=
  ∀ (s : State) (h : HeaderId) (o : ExpiryOrder), s.resetLow = false →
    ((s.meter h).timer ≠ 0 → exec (.intervalTimerExpiry h o) s = .next s) ∧
    ((s.meter h).timer = 0 →
      ∀ (v f e : Nat) (zs : List ZoneId) (next progress : State → State), v = (s.meter h).count * (s.meter h).weight →
        f = v * 60 / (100 * (s.meter h).interval) → zs = s.drawingSet h → e = sumOver zs (fun z => (s.zone z).openedFlow) →
        next = (fun u => u.updMeter h fun m =>
          { m with
            count := 0
            saturated := false
            settling := decide (∃ z ∈ u.drawingSet h, (u.zone z).valve ≠ .wet)
            drawn := decide (u.drawingSet h ≠ [])
            timer := m.interval }) →
        progress = (fun u =>
          if ∃ z ∈ zs, (s.zone z).useTag = some .quota then
            u.takeProgress (zs.filter fun z => decide ((s.zone z).useTag = some .quota ∧ (s.zone z).visit = .openVisit))
          else u) →
        (zs = [] →
          ∀ (deviates : Bool) (t : State),
            deviates = ((s.meter h).checks && !(s.meter h).settling && !(s.meter h).drawn && decide ((s.meter h).strayThreshold < f)) →
            t = next (s.updMeter h (fun m =>
              { m with
                metered := (m.metered + v) % 281474976710656
                stray := (m.stray + v) % 281474976710656
                lastFlow := f
                run := if deviates = true ∧ m.run ≠ some .stray then some .stray else none })) →
            exec (.intervalTimerExpiry h o) s =
              .next (if deviates = true ∧ (s.meter h).run = some .stray then t.post .strayFlow none (some h) none (some (f : Int)) else t)) ∧
        ((s.meter h).checks = false ∨ (s.meter h).settling = true →
          exec (.intervalTimerExpiry h o) s =
            .next (next (progress ((s.apportion h).updMeter h fun m => { m with lastFlow := f, run := none })))) ∧
        ((s.meter h).checks = true → (s.meter h).settling = false → zs ≠ [] → (∀ z ∈ zs, (s.zone z).valve = .wet) → 0 < e →
          ∀ (deviation : Option Direction) (t : State) (notice request : State → State),
            deviation =
              (if f * 100 < e * (100 - (s.meter h).tolerance) then some .low
              else if e * (100 + (s.meter h).tolerance) < f * 100 then some .high else none) →
            t = (s.apportion h).updMeter h (fun m => { m with lastFlow := f, run := if m.run = deviation then none else deviation }) →
            notice = (fun u =>
              if deviation = none ∨ (s.meter h).run ≠ deviation then u
              else u.post (if deviation = some .low then .lowFlow else .highFlow) (match zs with | [z] => some z | _ => none) (some h) none
                (some (f : Int))) →
            request = (fun u =>
              if deviation = none ∨ (s.meter h).run ≠ deviation then u
              else
                match zs with
                | [z] =>
                  if o = .lockoutLater ∨ o = .noticeFirstLockoutLater then
                    { u with lockoutRequests := u.lockoutRequests ++ [⟨z, if deviation = some .low then .noFlow else .burst⟩] }
                  else u.requestLockout z (if deviation = some .low then .noFlow else .burst)
                | _ => u) →
            exec (.intervalTimerExpiry h o) s =
              .next (next
                (match o with
                | .progressFirst | .lockoutLater => request (notice (progress t))
                | .noticeFirst | .noticeFirstLockoutLater => request (progress (notice t))
                | .lockoutFirst => progress (request (notice t))))))

/-- R55, R71, R72: SET-METER is refused by the header in both modes, by the first field out of range in strict mode and by the plan hold; else the interval is closed
out at the old weight and reported, the settings replaced, the run ended and a new interval begun. Where the port was reinitialised under it while it held the plan
hold, it has its effect without a reply; that reading of R55 beside R33 is log entry 29. Where it did not, and does not now, it is refused without a reply (R27). -/
def Obligations.SetMeterClosesOutAndReplaces : Prop :=
  ∀ (s : State) (p : Port) (n : Nat) (f : MeterFields),
    (3 < n → s.completing p (.setMeter n f) → exec (.setMeter p n f) s = .next (s.answer p (.setMeter n f) .range false [0x00#8])) ∧
    ∀ h : HeaderId, n = h.val →
      ∀ (outside : Option Nat) (d : Nat),
        outside =
          ([decide (f.divisor ∉ [1, 2, 4, 8, 16, 32, 64, 128]), decide (f.weight = 0 ∨ 50000 < f.weight),
            decide (f.interval < 5 ∨ 60 < f.interval), decide (f.tolerance < 5 ∨ 50 < f.tolerance),
            decide (f.strayThreshold = 0 ∨ 500 < f.strayThreshold), decide (1 < f.checks)].findIdx? id).map (· + 1) →
        d ∈ [1, 2, 4, 8, 16, 32, 64, 128] → (d ≤ f.divisor ∨ (f.divisor = 0 ∧ d = 1)) → (f.divisor < 2 * d ∨ d = 128) →
        (∀ i, s.completing p (.setMeter n f) → (s.port p).strict = true → outside = some i →
          exec (.setMeter p n f) s = .next (s.answer p (.setMeter n f) .range false [BitVec.ofNat 8 i])) ∧
        (((s.port p).strict = false ∨ outside = none) →
          (s.completing p (.setMeter n f) → s.hold planEntry ≠ .held p →
            exec (.setMeter p n f) s = .next (s.answer p (.setMeter n f) .notHolder false [0x08#8])) ∧
          ∃ t u : State,
              t = (match s.progressReport h with
                | some zs => (s.apportion h).takeProgress zs
                | none => s.apportion h) ∧
              u = t.updMeter h (fun _ =>
                { t.meter h with
                  divisor := d
                  weight := max 1 (min 50000 f.weight)
                  interval := max 5 (min 60 f.interval)
                  tolerance := max 5 (min 50 f.tolerance)
                  strayThreshold := max 1 (min 500 f.strayThreshold)
                  checks := decide (f.checks ≠ 0)
                  residue := if d = (t.meter h).divisor then (t.meter h).residue else 0
                  run := none
                  count := 0
                  saturated := false
                  timer := max 5 (min 60 f.interval)
                  settling := (u.meter h).settling
                  drawn := (u.meter h).drawn }) ∧
              ((u.meter h).settling = true ↔ ∃ z ∈ t.drawingSet h, (t.zone z).valve ≠ .wet) ∧
              ((u.meter h).drawn = true ↔ t.drawingSet h ≠ []) ∧
              (s.completing p (.setMeter n f) → s.hold planEntry = .held p →
                exec (.setMeter p n f) s = .next (u.answer p (.setMeter n f) .done outside.isSome [])) ∧
              (s.completingUnanswered p (.setMeter n f) true → exec (.setMeter p n f) s = .next (u.unanswered p)) ∧
              (s.completingUnanswered p (.setMeter n f) false → s.hold planEntry ≠ .held p →
                exec (.setMeter p n f) s = .next (s.unanswered p)))

/-! ### The supply -/

/-- R79, R80, R84, R88: a DECLARE-SUPPLY taken as an event by itself refuses its first field out of range in strict mode; else it replaces the ceilings in force with
the declared values brought into range, restarts the timer, sets DECLARED and posts SUPPLY-DECLARED; where a ceiling has changed the shed walk runs, and after the
reply, triage while frost is armed and a selection follow (that the directive is complete before them is log entry 30). Stated with no report owed (log entry 10). One
to be taken inside a selection is sent on its way while its mailbox holds it (R87, R124; log entry 10). -/
def Obligations.DeclarationReplacesTheCeilings : Prop :=
  (∀ (s : State) (p : Port) (f : FlowFields) (v n : Nat), s.resetLow = false →
    (((s.port p).mailbox = .pending (.declareSupply f v) ∨ ∃ broken, (s.port p).mailbox = .executing (.declareSupply f v) broken) →
      exec (.declareSupply p f v (.inSelection n)) s = .next { s with supplyInFlight := s.supplyInFlight ++ [⟨.declare p f v, n⟩] }) ∧
    ((s.port p).mailbox ≠ .pending (.declareSupply f v) → (∀ broken, (s.port p).mailbox ≠ .executing (.declareSupply f v) broken) →
      exec (.declareSupply p f v (.inSelection n)) s = .next s)) ∧
  ∀ (s : State) (p : Port) (f : FlowFields) (v : Nat), s.completing p (.declareSupply f v) → s.ceilingReportOwed = false →
    ∀ outside : Option Nat, outside =
        (f.values ++ [v]).zipIdx.findSome? (fun e => if (e.2 < 5 ∧ 20000 < e.1) ∨ (e.2 = 5 ∧ (e.1 < 30 ∨ 3600 < e.1)) then some e.2 else none) →
      (∀ i, (s.port p).strict = true → outside = some i →
        exec (.declareSupply p f v .atOnce) s = .next (s.answer p (.declareSupply f v) .range false [BitVec.ofNat 8 i])) ∧
      (((s.port p).strict = false ∨ outside = none) →
        ∀ c : Flows, c = ⟨min 20000 f.total, #v[min 20000 f.h0, min 20000 f.h1, min 20000 f.h2, min 20000 f.h3]⟩ →
        ∀ t : State, t = State.post { s with
            supply := { s.supply with inForce := c, validity := some (max 30 (min 3600 v)), status := .declared } }
              .supplyDeclared none none (some p) (some (c.total : Int)) →
          exec (.declareSupply p f v .atOnce) s =
            .next
              (if c = s.supply.inForce then t.answer p (.declareSupply f v) .done outside.isSome []
              else (((t.shedWalk (some p)).answer p (.declareSupply f v) .done outside.isSome []).retriage.select)))

/-- R81 to R84, R87: a SET-FALLBACK taken as an event by itself refuses its first field above 20,000 in strict mode; else it replaces the fallbacks, and in NONE and
LAPSED the ceilings in force with them. The expiry of the validity timer brings the fallbacks into force, sets LAPSED, stops the timer and posts SUPPLY-LAPSED; a
ceiling that changes is taken as for a declaration (that the directive is complete before triage and selection is log entry 30); an expiry that finds no timer run out
does nothing. A supply event to be taken inside a selection is sent on its way, where it is due (log entry 10), and an expiry that is not due is log entry 1. Stated
with no report owed. -/
def Obligations.FallbacksAreReplacedAndLapsedTo : Prop :=
  (∀ (s : State) (p : Port) (f : FlowFields) (n : Nat), s.resetLow = false →
    (((s.port p).mailbox = .pending (.setFallback f) ∨ ∃ broken, (s.port p).mailbox = .executing (.setFallback f) broken) →
      exec (.setFallback p f (.inSelection n)) s = .next { s with supplyInFlight := s.supplyInFlight ++ [⟨.fallback p f, n⟩] }) ∧
    ((s.port p).mailbox ≠ .pending (.setFallback f) → (∀ broken, (s.port p).mailbox ≠ .executing (.setFallback f) broken) →
      exec (.setFallback p f (.inSelection n)) s = .next s)) ∧
  (∀ (s : State) (p : Port) (f : FlowFields), s.completing p (.setFallback f) → s.ceilingReportOwed = false →
    (∀ i, (s.port p).strict = true → f.values.findIdx? (fun x => decide (20000 < x)) = some i →
      exec (.setFallback p f .atOnce) s = .next (s.answer p (.setFallback f) .range false [BitVec.ofNat 8 i])) ∧
    (((s.port p).strict = false ∨ ∀ x ∈ f.values, x ≤ 20000) →
      ∀ c : Flows, c = ⟨min 20000 f.total, #v[min 20000 f.h0, min 20000 f.h1, min 20000 f.h2, min 20000 f.h3]⟩ →
      ∀ clamped : Bool, clamped = f.values.any (fun x => decide (20000 < x)) →
        (s.supply.status = .declared →
          exec (.setFallback p f .atOnce) s =
            .next (State.answer { s with supply := { s.supply with fallback := c } } p (.setFallback f) .done clamped [])) ∧
        (s.supply.status ≠ .declared →
          ∀ t : State, t = { s with supply := { s.supply with fallback := c, inForce := c } } →
            exec (.setFallback p f .atOnce) s =
              .next
                (if c = s.supply.inForce then t.answer p (.setFallback f) .done clamped []
                else (((t.shedWalk (some p)).answer p (.setFallback f) .done clamped []).retriage.select))))) ∧
  ∀ s : State, s.resetLow = false → s.ceilingReportOwed = false →
    (¬(s.supply.status = .declared ∧ s.supply.validity = some 0) → ∀ k, exec (.validityTimerExpiry k) s = .next s) ∧
    (s.supply.status = .declared → s.supply.validity = some 0 →
      (∀ n, exec (.validityTimerExpiry (.inSelection n)) s = .next { s with supplyInFlight := s.supplyInFlight ++ [⟨.lapse, n⟩] }) ∧
      ∀ t : State, t = State.post { s with supply := { s.supply with inForce := s.supply.fallback, status := .lapsed, validity := none } }
          .supplyLapsed none none none (some (s.supply.fallback.total : Int)) →
        exec (.validityTimerExpiry .atOnce) s =
          .next (if s.supply.fallback = s.supply.inForce then t else (t.shedWalk none).retriage.select))

/-- R85 to R88: a shed walk by its first turn, from which the whole follows. It takes the channels in OPENING from the most recently energised, then those in WET from
the longest in WET. A channel is over where its header's open flow, or the total, exceeds the ceiling in force. The first that is over is closed for a shed, its
committed flow kept, and ZONE-SHED posted with its header, the port of the ceiling change and its use tag; channels not over are passed, and the walk goes on from
there; where none is over it ends. Over orders that list the open channels it ends with no flow above its ceiling, opens nothing, and a walk within the ceilings
changes nothing. -/
def Obligations.ShedWalkEndsWithinTheCeilings : Prop :=
  ∀ (s : State) (port : Option Port), s.ordersMatch →
    ((s.shedWalk port).ordersMatch ∧ (s.shedWalk port).openWithin ∧ (s.openWithin → s.shedWalk port = s) ∧
      ∀ z, (s.shedWalk port).zone z = s.zone z ∨
        ((s.zone z).isOpen = true ∧ ((s.shedWalk port).zone z).valve = .closing ∧ ((s.shedWalk port).zone z).endedBy = some .shed ∧
          ((s.shedWalk port).zone z).useTag = (s.zone z).useTag)) ∧
    ∀ above : ZoneId → Prop,
      above = (fun z => (∃ o, (s.zone z).opened = some o ∧ s.supply.inForce.header[o.header] < s.openFlow o.header) ∨
        s.supply.inForce.total < s.totalOpenFlow) →
      ((∀ z ∈ s.energising ++ s.wetOrder, ¬above z) → s.shedWalk port = s) ∧
      ∀ (passed rest : List ZoneId) (z : ZoneId), s.energising.reverse ++ s.wetOrder = passed ++ z :: rest → (∀ y ∈ passed, ¬above y) → above z →
        ∃ u : State, s.channelsClosed (fun y => decide (y = z)) .shed u ∧
          s.shedWalk port =
            (u.post .zoneShed (some z) ((s.zone z).opened.map (·.header)) port
              (match (s.zone z).useTag with
              | some .quota => some 1
              | some .manual => some 2
              | some .frost => some 3
              | none => none)).shedWalk port

/-! ### The climate -/

/-- R144 to R148, R152: the climate evaluation by its table. The effective temperature becomes the least among the fresh slots, absent for none; a report that leaves
it above the disarm threshold clears inhibit; DISARMED with inhibit clear and the temperature at or below the arm threshold becomes ARMED-AUTO with the thaw-hold
timer 0 and FROST-ARMED value 1, then the arming; ARMED-AUTO above the disarm threshold keeps its timer below the thaw hold and disarms at it, and otherwise its timer
becomes 0; an armed part whose condition goes from FRESH to STALE posts CLIMATE-STALE. REPORT-TEMPERATURE is clamped in either mode, fills the port's slot and is
evaluated as a report with its port; its reply carries the frost state and the effective temperature afterwards (its presence byte: log entry 12). A slot expiry makes
a fresh slot whose age has reached the timeout stale and is evaluated without a port; the thaw-hold expiry disarms frost by itself. What is not due does nothing (log
entry 1). That the selection to which an arming or a disarming leads comes before the reply is log entry 30. -/
def Obligations.ReportsAndExpiriesEvaluateTheClimate : Prop :=
  (∀ (s : State) (isReport : Bool) (port : Option Port) (e : Option Int) (warm cold inhibit : Bool) (c : Climate),
    (∀ t, e = some t ↔ s.freshAt t ∧ ∀ t', s.freshAt t' → t ≤ t') →
    (warm = true ↔ ∃ t, e = some t ∧ s.climate.limits.disarm < t) →
    (cold = true ↔ ∃ t, e = some t ∧ t ≤ s.climate.limits.arm) →
    inhibit = (s.climate.inhibit && !(isReport && warm)) →
    c = { s.climate with effective := e, inhibit := inhibit } →
    s.evaluateClimate isReport port =
      match s.climate.frost with
      | .disarmed =>
        if inhibit = false ∧ cold = true then
          (State.post { s with climate := { c with frost := .armedAuto, thawTimer := 0 } } .frostArmed none none port (some 1)).takeArming
        else { s with climate := c }
      | .armedAuto =>
        if warm = true then
          if s.climate.limits.thawHold ≤ s.climate.thawTimer then
            (State.post { s with climate := { c with frost := .disarmed, thawTimer := 0 } } .frostDisarmed none none none (some 1)).takeDisarming none
          else { s with climate := c }
        else if s.climate.effective ≠ none ∧ e = none then
          State.post { s with climate := { c with thawTimer := 0 } } .climateStale none none none (some 1)
        else { s with climate := { c with thawTimer := 0 } }
      | .armedManual =>
        if s.climate.effective ≠ none ∧ e = none then State.post { s with climate := c } .climateStale none none none (some 2)
        else { s with climate := c }) ∧
  (∀ (s : State) (p : Port) (v t : Int), s.completing p (.reportTemperature v) → t = max (-400) (min 500 v) →
    ∀ u : State, u = State.evaluateClimate { s with climate := { s.climate with slots := s.climate.slots.set p (some ⟨t, 0, true⟩) } } true (some p) →
      ∃ e, u.climate.effective = some e ∧
        exec (.reportTemperature p v) s =
          .next (u.answer p (.reportTemperature v) .done (decide (v < -400 ∨ 500 < v))
            ((match u.climate.frost with | .disarmed => 0x00#8 | .armedAuto => 0x01#8 | .armedManual => 0x02#8) :: 0x01#8 :: intBytes 2 e))) ∧
  ∀ s : State, s.resetLow = false →
    (∀ (p : Port) (x : Slot), s.climate.slots.get p = some x → x.fresh = true → s.climate.limits.timeout ≤ x.age →
      exec (.slotExpiry p) s =
        .next (State.evaluateClimate
          { s with climate := { s.climate with slots := s.climate.slots.set p (some { x with fresh := false }) } } false none)) ∧
    (∀ p : Port, (∀ x, s.climate.slots.get p = some x → x.fresh = false ∨ x.age < s.climate.limits.timeout) →
      exec (.slotExpiry p) s = .next s) ∧
    (s.climate.frost = .armedAuto → (∃ t, s.climate.effective = some t ∧ s.climate.limits.disarm < t) →
      s.climate.limits.thawHold ≤ s.climate.thawTimer →
      exec .thawHoldExpiry s =
        .next
          ((State.post { s with climate := { s.climate with frost := .disarmed, thawTimer := 0 } } .frostDisarmed none none none (some 1)).takeDisarming
            none)) ∧
    (¬(s.climate.frost = .armedAuto ∧ (∃ t, s.climate.effective = some t ∧ s.climate.limits.disarm < t) ∧
        s.climate.limits.thawHold ≤ s.climate.thawTimer) →
      exec .thawHoldExpiry s = .next s)

/-- R149, R150, R152: ARM-FROST and DISARM-FROST by the frost state and inhibit, with their notices before the engine's. That the selection after them comes before
the reply is log entry 30. -/
def Obligations.ArmAndDisarmActByTheFrostState : Prop :=
  ∀ (s : State) (p : Port),
    (s.completing p .armFrost →
      exec (.armFrost p) s =
        .next
          (match s.climate.frost with
          | .disarmed =>
            ((State.post { s with climate := { s.climate with frost := .armedManual, thawTimer := 0, inhibit := false } } .frostArmed none none
              (some p) (some 2)).takeArming).answer p .armFrost .done false []
          | .armedAuto =>
            (State.post { s with climate := { s.climate with frost := .armedManual, thawTimer := 0 } } .frostArmed none none (some p)
              (some 2)).answer p .armFrost .done false []
          | .armedManual => s.answer p .armFrost .already false [])) ∧
    (s.completing p .disarmFrost →
      exec (.disarmFrost p) s =
        .next
          (if s.climate.frost ≠ .disarmed then
            ((State.post { s with climate := { s.climate with frost := .disarmed, thawTimer := 0, inhibit := true } } .frostDisarmed none none
              (some p) (some 2)).takeDisarming (some p)).answer p .disarmFrost .done false []
          else if s.climate.inhibit = true then s.answer p .disarmFrost .already false []
          else (State.answer { s with climate := { s.climate with inhibit := true } } p .disarmFrost .done false [])))

/-- R108 to R111, R117, R163, R164: what an arming and a disarming do before their selection. An arming puts the frame of the regime in force on the stack, a QUOTA
frame with the pointer and the round count, a MANUAL frame with its entries, a RUNNING one recorded by what has ended its opening; MANUAL-SKIPPED value 3 is posted
for each ended by a lockout (in run-list order: log entry 25). That regime's open channels are closed, and each OPEN visit on a QUOTA channel is suspended (R133,
R135). REGIME-CHANGED is posted with value 3 and no port, the regime is FROST, PAUSED becomes RUNNING, every dry clock is 0 and every overdue mark clear, and triage
runs. A disarming empties the admitted set and pops: the top frame is restored, or IDLE, with a REGIME-CHANGED that carries the new regime and the port; a MANUAL
frame without a WAITING entry is popped again, with a REGIME-CHANGED of its own (with the same port: log entry 13). -/
def Obligations.ArmingPushesAndDisarmingPops : Prop :=
  ∀ s : State,
    (s.engine.regime ≠ .frost →
      ∃ w v u : State, s.takeArming = u.select ∧ u = v.triage ∧
        s.channelsClosed (fun z => decide ((s.engine.regime = .quota ∧ (s.zone z).useTag = some .quota) ∨
          (s.engine.regime = .manual ∧ (s.zone z).useTag = some .manual))) .preemption w ∧
        v = { w with
          zones := v.zones
          engine := { s.engine with
            regime := .frost
            manual := none
            runState := if s.engine.runState = .paused then .running else s.engine.runState
            stack := s.engine.stack ++
              (match s.engine.regime with
              | .quota => [.quota s.planner.pointer s.planner.round]
              | .manual =>
                [.manual ((s.engine.manual.getD []).map fun e =>
                  if e.state = .running then
                    match (s.zone e.zone).endedBy with
                    | some .runTimeSpent => { e with state := .done, remaining := 0 }
                    | some .closeZone => { e with state := .done, remaining := 0 }
                    | some .lockout => { e with state := .skipped }
                    | _ => { e with state := .waiting }
                  else e)]
              | _ => []) }
          ports :=
            (State.post
              (((if s.engine.regime = .manual then s.engine.manual.getD [] else []).filter fun e =>
                  decide (e.state = .running ∧ (s.zone e.zone).endedBy = some .lockout)).foldl
                (fun x e => x.post .manualSkipped (some e.zone) ((s.zone e.zone).programme.map (·.header)) none (some 3)) s)
              .regimeChanged none none none (some 3)).ports } ∧
        (∀ z, v.zone z = { w.zone z with dryClock := 0, overdue := false }) ∧
        ∀ z, (u.zone z).dryClock = 0 ∧ (u.zone z).overdue = false ∧ (u.zone z).valve = (w.zone z).valve) ∧
    ∀ port : Option Port,
      ∃ c u : State, s.takeDisarming port = u.select ∧ c = { s with zones := c.zones, loads := Flows.zero } ∧
        (∀ z, c.zone z = { s.zone z with admitted := false, requiredFlow := none, overdue := false }) ∧
        (∀ stack pointer round, s.engine.stack = stack ++ [.quota pointer round] →
          u = State.post { c with
              engine := { s.engine with regime := .quota, manual := none, stack := stack }
              planner := { s.planner with pointer := pointer, round := round } } .regimeChanged none none port (some 1)) ∧
        (s.engine.stack = [] →
          u = State.post { c with engine := { s.engine with regime := .idle, manual := none } } .regimeChanged none none port (some 0)) ∧
        ∀ stack entries, s.engine.stack = stack ++ [.manual entries] →
          ∀ m : State, m = State.post { c with engine := { s.engine with regime := .manual, manual := some entries, stack := stack } }
              .regimeChanged none none port (some 2) →
            ((∃ e ∈ entries, e.state = .waiting) → u = m) ∧
            ((∀ e ∈ entries, e.state ≠ .waiting) →
              (stack = [] →
                u = State.post { m with engine := { m.engine with regime := .idle, manual := none } } .regimeChanged none none port (some 0)) ∧
              ∀ pointer round, stack = [.quota pointer round] →
                u = State.post { m with
                    engine := { m.engine with regime := .quota, manual := none, stack := [] }
                    planner := { s.planner with pointer := pointer, round := round } } .regimeChanged none none port (some 1))

/-- R153: SET-FROST-LIMITS refuses its first field out of range in strict mode, the disarm threshold judged against the checked arm threshold; else the limits are
replaced, every slot judged again by its age, and the climate evaluated, not as a report, with the port (by the table of R147, which
ReportsAndExpiriesEvaluateTheClimate states). That the selection to which an arming or a disarming leads comes before the reply is log entry 30. -/
def Obligations.FrostLimitsAreReplaced : Prop :=
  ∀ (s : State) (p : Port) (a d : Int) (h n : Nat), s.completing p (.setFrostLimits a d h n) →
    ∀ (a' d' : Int) (outside : Option Nat), a' = max (-50) (min 50 a) → d' = max (a' + 5) (min 100 d) →
      outside =
        (if a < -50 ∨ 50 < a then some 0 else if d < a' + 5 ∨ 100 < d then some 1 else if 7200 < h then some 2
        else if n < 60 ∨ 1800 < n then some 3 else none) →
      (∀ i, (s.port p).strict = true → outside = some i →
        exec (.setFrostLimits p a d h n) s = .next (s.answer p (.setFrostLimits a d h n) .range false [BitVec.ofNat 8 i])) ∧
      (((s.port p).strict = false ∨ outside = none) →
        ∀ c : Climate, c = { s.climate with
            limits := ⟨a', d', min 7200 h, max 60 (min 1800 n)⟩
            slots := s.climate.slots.map fun x => x.map fun y => { y with fresh := decide (y.age < max 60 (min 1800 n)) } } →
          exec (.setFrostLimits p a d h n) s =
            .next ((State.evaluateClimate { s with climate := c } false (some p)).answer p (.setFrostLimits a d h n) .done outside.isSome []))

/-- R156, R157, R158, R160: what one run of triage leaves. Each load is the sum of the required flows of the admitted zones, of one header or of all, and no more than
its ceiling in force. A feasible candidate is admitted exactly where its own flow is within both ceilings and its required flow fits beside those of the admitted
zones that stand before it, by frost rank and then zone number; no other zone is admitted. An admitted zone has its required flow, a zone that is not has none and is
not overdue, and nothing else of a zone changes. A zone that joins with its dry clock at its max dry or above is overdue with a ZONE-OVERDUE, and TRIAGE-CHANGED
follows where the set has changed. That those notices stand in ascending zone number, and that a zone admitted before is left to OVERDUE, is log entries 25 and 26.
And every step keeps the law that, while frost is armed, the admitted loads, which triage leaves as those sums, are within the ceilings in force. -/
def Obligations.TriageAdmitsWithinTheCeilings : Prop :=
  (∀ s t : State, s.loadsWithin → step s = .next t → t.loadsWithin) ∧
  ∀ s t : State, t = s.triage →
    ∀ (need : ZoneId → Nat) (inSet on : ZoneId → Bool) (header : ZoneId → Option HeaderId),
      need = (fun z => (t.zone z).requiredFlow.getD 0) → inSet = (fun z => (t.zone z).admitted) → on = (fun z => (s.zone z).admitted) →
      header = (fun z => (s.zone z).programme.map (·.header)) →
      (t.loads.total = sumOver (zoneIds.filter inSet) need ∧ t.loads.total ≤ s.supply.inForce.total) ∧
      (∀ h : HeaderId, t.loads.header[h] = sumOver (zoneIds.filter fun z => inSet z && decide (header z = some h)) need ∧
        t.loads.header[h] ≤ s.supply.inForce.header[h]) ∧
      (∀ (z : ZoneId) (x : Programme) (r : Nat), s.mayBeAdmitted z x r →
        ∀ first : ZoneId → Bool,
          first = (fun y => inSet y && (s.zone y).programme.any fun v =>
            decide (v.frostRank < x.frostRank ∨ (v.frostRank = x.frostRank ∧ y < z))) →
          (inSet z = true ↔
            x.flow ≤ s.supply.inForce.header[x.header] ∧ x.flow ≤ s.supply.inForce.total ∧
              sumOver (zoneIds.filter fun y => first y && decide (header y = some x.header)) need + r ≤ s.supply.inForce.header[x.header] ∧
              sumOver (zoneIds.filter first) need + r ≤ s.supply.inForce.total) ∧
          (inSet z = true → (t.zone z).requiredFlow = some r)) ∧
      (∀ z, (∀ x r, ¬s.mayBeAdmitted z x r) → inSet z = false) ∧
      (∀ z, (inSet z = false → (t.zone z).requiredFlow = none ∧ (t.zone z).overdue = false) ∧
        (inSet z = true →
          (t.zone z).overdue = ((s.zone z).overdue || (!on z && (s.zone z).programme.any fun x => decide (x.maxDry ≤ (s.zone z).dryClock)))) ∧
        t.zone z = { s.zone z with admitted := inSet z, requiredFlow := (t.zone z).requiredFlow, overdue := (t.zone z).overdue }) ∧
      t = { s with zones := t.zones, loads := t.loads, ports := t.ports } ∧
      ∀ u : State, u = (zoneIds.filter fun z => (t.zone z).overdue && !on z && !(s.zone z).overdue).foldl
          (fun v z => v.post .zoneOverdue (some z) (header z) none (some ((s.zone z).dryClock : Int))) s →
        t.ports = (if inSet = on then u else u.post .triageChanged none none none (some ((zoneIds.filter inSet).length : Int))).ports

/-! ### The planners -/

/-- R117, R134, R138, R160, R162: the guard of an OPEN visit completes it, spends a cycle and posts SHORT-VISIT with the shortfall; the end of the dwell ends the
frost visit; a spent run time closes the channel and leaves the entry as it stands; a soak that reaches the zone's soak while it is defined and SHUT is a selection
event; an admitted zone whose dry clock has reached its max dry is marked and reported once while frost is armed. What is not due does nothing (log entry 1). A close
time of 0 for an open channel without a programme is log entry 21. -/
def Obligations.PlannerEventsActWhenDue : Prop :=
  (∀ (s : State) (z : ZoneId), s.resetLow = false →
    ((s.zone z).visit = .openVisit → (s.zone z).guardTimer = some 0 →
      ∃ t : State, exec (.guardTimerExpiry z) s =
          .next (t.post .shortVisit (some z) ((s.zone z).programme.map (·.header)) none
            (some (((s.zone z).visitTarget.getD 0 : Int) - (s.zone z).visitVolume))) ∧
        t = s.closeChannel z .guardExpired ∧ s.channelsClosed (fun y => decide (y = z)) .guardExpired t ∧
        ((s.zone z).isOpen = true → (s.zone z).useTag = some .quota →
          (t.zone z).valve = .closing ∧ (t.zone z).visit = .noVisit ∧ (t.zone z).visitTarget = none ∧ (t.zone z).visitVolume = 0 ∧
            (t.zone z).guardTimer = none ∧ (t.zone z).cyclesRemaining = (s.zone z).cyclesRemaining - 1 ∧ t.planner = s.planner)) ∧
    (¬((s.zone z).visit = .openVisit ∧ (s.zone z).guardTimer = some 0) → exec (.guardTimerExpiry z) s = .next s) ∧
    ((s.zone z).frostVisit = true → (s.zone z).dwellRemaining = some 0 →
      ∃ t : State, exec (.dwellEnd z) s = .next t ∧ t = s.closeChannel z .dwellEnd ∧ s.channelsClosed (fun y => decide (y = z)) .dwellEnd t ∧
        ((s.zone z).isOpen = true → (s.zone z).useTag = some .frost →
          (t.zone z).valve = .closing ∧ (t.zone z).frostVisit = false ∧ (t.zone z).dwellRemaining = none ∧
            (s.climate.frost ≠ .disarmed → (s.zone z).valve = .wet → (t.zone z).dryClock = 0) ∧
            ((s.zone z).valve = .opening → (t.zone z).dryClock = (s.zone z).dryClock))) ∧
    (¬((s.zone z).frostVisit = true ∧ (s.zone z).dwellRemaining = some 0) → exec (.dwellEnd z) s = .next s) ∧
    ∀ es : List Entry, s.engine.manual = some es →
      ((∃ e ∈ es, e.zone = z ∧ e.state = .running ∧ e.remaining = 0) → (s.zone z).valve = .wet → (s.zone z).useTag = some .manual →
        ∃ t : State, exec (.runTimeSpent z) s = .next t ∧ (t.zone z).valve = .closing ∧ (t.zone z).endedBy = some .runTimeSpent ∧
          t.engine = s.engine ∧ (∀ z', z' ≠ z → t.zone z' = s.zone z') ∧ s.channelsClosed (fun y => decide (y = z)) .runTimeSpent t) ∧
      ((∀ e ∈ es, ¬(e.zone = z ∧ e.state = .running ∧ e.remaining = 0)) → exec (.runTimeSpent z) s = .next s)) ∧
  ∀ (s : State) (z : ZoneId) (x : Programme), s.resetLow = false → (s.zone z).programme = some x →
    exec (.soakReached z) s = .next (if (s.zone z).valve = .shut ∧ (s.zone z).soakTimer = x.soak then s.select else s) ∧
    exec (.overdue z) s =
      .next
        (if s.climate.frost ≠ .disarmed ∧ (s.zone z).admitted = true ∧ x.maxDry ≤ (s.zone z).dryClock ∧ (s.zone z).overdue = false then
          (s.updZone z fun y => { y with overdue := true }).post .zoneOverdue (some z) (some x.header) none (some ((s.zone z).dryClock : Int))
        else s)

/-! ### The engine -/

/-- R133, R134, R139, R140: a visit progress report completes the OPEN visit of each listed zone whose visit volume has reached its target, its channel CLOSING and a
cycle spent, and leaves every other zone; then the allotment test is made. With the mark clear and the quota volumes of all zones at the allotment or above, the mark
is set, ALLOTMENT-REACHED posted with their sum in litres, and every OPEN visit dropped, its channel CLOSING and its cycles kept; the suspended list stays. Set and
still due, nothing changes; not due, the mark is clear. That the close timer is 0 for an open channel without a programme is log entry 21. -/
def Obligations.VisitsCompleteAndTheAllotmentIsTested : Prop :=
  ∀ s : State,
    ∀ closed : Ending → Zone → Zone,
      closed = (fun e x =>
        { x with
          valve := .closing, energised := false, fillTimer := none, senseTimer := none, timeInState := 0, endedBy := some e
          closeTimer := some (match x.programme with | some v => v.closing | none => 0)
          visit := .noVisit, visitTarget := none, visitVolume := 0, guardTimer := none
          dryClock := if x.valve = .wet ∧ s.climate.frost ≠ .disarmed then 0 else x.dryClock }) →
    (∀ zs : List ZoneId, zs.Nodup →
      ∃ u : State, s.takeProgress zs = u.testAllotment none ∧
        u = { s with zones := u.zones, energising := u.energising, wetOrder := u.wetOrder, meters := u.meters } ∧
        ∀ z, let due : Prop := z ∈ zs ∧ (s.zone z).visit = .openVisit ∧ ∃ t, (s.zone z).visitTarget = some t ∧ t ≤ (s.zone z).visitVolume
          (due → (s.zone z).isOpen = true → (s.zone z).useTag = some .quota →
            u.zone z = { closed .targetReached (s.zone z) with cyclesRemaining := (s.zone z).cyclesRemaining - 1 } ∧
              z ∉ u.energising ∧ z ∉ u.wetOrder) ∧
          (¬due → u.zone z = s.zone z ∧ (z ∈ u.energising ↔ z ∈ s.energising) ∧ (z ∈ u.wetOrder ↔ z ∈ s.wetOrder))) ∧
    ∀ (port : Option Port) (sum : Nat), sum = sumOver zoneIds (fun z => (s.zone z).quotaVolume) →
      let due : Prop := ∃ a, s.clock.allotment = some a ∧ a * 100 ≤ sum
      (due → s.planner.allotmentReached = true → s.testAllotment port = s) ∧
      (¬due → s.testAllotment port = { s with planner := { s.planner with allotmentReached := false } }) ∧
      (due → s.planner.allotmentReached = false →
        ∀ u : State, u = s.testAllotment port →
          u = { s with
            zones := u.zones, energising := u.energising, wetOrder := u.wetOrder, meters := u.meters
            planner := { s.planner with allotmentReached := true }
            ports := (s.post .allotmentReached none none port (some ((sum / 100 : Nat) : Int))).ports } ∧
          ∀ z,
            ((s.zone z).visit = .openVisit → (s.zone z).isOpen = true → (s.zone z).useTag = some .quota →
              u.zone z = closed .allotmentReached (s.zone z)) ∧
            ((s.zone z).visit ≠ .openVisit → u.zone z = s.zone z))

/-- R110 to R113: START-QUOTA and STOP-QUOTA by where QUOTA stands. Begun from IDLE, QUOTA is entered with REGIME-CHANGED value 1 and the port, and a selection. Ended
in force, its open channels are closed and their OPEN visits dropped, cycles kept, the suspended list is cleared, the regime is IDLE with REGIME-CHANGED value 0 and
the port, and a selection follows, which in IDLE opens nothing; the pointer and the round count stay. That the selection comes before the reply is log entry 30. -/
def Obligations.QuotaIsStartedAndStopped : Prop :=
  ∀ (s : State) (p : Port),
    (s.completing p .startQuota →
      (s.engine.regime = .quota → exec (.startQuota p) s = .next (s.answer p .startQuota .already false [])) ∧
      (s.engine.regime = .idle →
        exec (.startQuota p) s =
          .next (((State.post { s with engine := { s.engine with regime := .quota, manual := none } } .regimeChanged none none (some p)
            (some 1)).select).answer p .startQuota .done false [])) ∧
      (s.engine.regime = .manual ∨ s.engine.regime = .frost →
        ((∃ i r, Frame.quota i r ∈ s.engine.stack) → exec (.startQuota p) s = .next (s.answer p .startQuota .already false [])) ∧
        ((∀ i r, Frame.quota i r ∉ s.engine.stack) →
          exec (.startQuota p) s =
            .next (State.answer { s with engine := { s.engine with
                stack := .quota s.planner.pointer s.planner.round :: s.engine.stack } } p .startQuota .done false [])))) ∧
    (s.completing p .stopQuota →
      (s.engine.regime ≠ .quota → (∀ i r, Frame.quota i r ∉ s.engine.stack) →
        exec (.stopQuota p) s = .next (s.answer p .stopQuota .already false [])) ∧
      (s.engine.regime ≠ .quota → (∃ i r, Frame.quota i r ∈ s.engine.stack) →
        ∃ t : State, exec (.stopQuota p) s = .next (t.answer p .stopQuota .done false []) ∧
          t = { s with
            zones := t.zones
            engine := { s.engine with stack := s.engine.stack.filter fun f => decide (f.rank = 2) }
            planner := { s.planner with suspended := [] } } ∧
          ∀ z, t.zone z =
            if z ∈ s.planner.suspended then { s.zone z with visit := .noVisit, visitTarget := none, visitVolume := 0, guardTimer := none }
            else s.zone z) ∧
      (s.engine.regime = .quota → s.engine.stack = [] →
        ∃ w t : State, exec (.stopQuota p) s = .next (t.select.answer p .stopQuota .done false []) ∧
          s.channelsClosed (fun z => decide ((s.zone z).useTag = some .quota)) .stopQuota w ∧
          t = State.post { w with
              zones := t.zones
              engine := { s.engine with regime := .idle, manual := none }
              planner := { s.planner with suspended := [] } } .regimeChanged none none (some p) (some 0) ∧
          ∀ z, t.zone z =
            if z ∈ s.planner.suspended then { w.zone z with visit := .noVisit, visitTarget := none, visitVolume := 0, guardTimer := none }
            else w.zone z))

/-- R114, R115, R118: RUN-MANUAL is refused by its count, its zone numbers, its run times in strict mode, an undefined zone and the regime, in that order; else MANUAL
is entered with every entry WAITING, from IDLE or with QUOTA pushed, its open channels closed for preemption and their OPEN visits suspended with target and volume
(R109, R133, R135). CANCEL-MANUAL acts by where MANUAL stands: in force, its open channels are closed and it pops. That the selection comes before the reply is log
entry 30. -/
def Obligations.ManualIsRunAndCancelled : Prop :=
  (∀ (s : State) (p : Port) (es : List (Nat × Nat)), s.completing p (.runManual es) →
    ((es = [] ∨ 8 < es.length) → exec (.runManual p es) s = .next (s.answer p (.runManual es) .range false [0x00#8])) ∧
    (1 ≤ es.length → es.length ≤ 8 →
      (∀ i, es.findIdx? (fun e => decide (31 < e.1)) = some i →
        exec (.runManual p es) s = .next (s.answer p (.runManual es) .range false [BitVec.ofNat 8 (2 * i + 1)])) ∧
      ∀ zs : List ZoneId, es.map (·.1) = zs.map (·.val) →
        (∀ i, (s.port p).strict = true → es.findIdx? (fun e => decide (e.2 < 10 ∨ 3600 < e.2)) = some i →
          exec (.runManual p es) s = .next (s.answer p (.runManual es) .range false [BitVec.ofNat 8 (2 * i + 2)])) ∧
        (((s.port p).strict = false ∨ ∀ e ∈ es, 10 ≤ e.2 ∧ e.2 ≤ 3600) →
          (∀ z, zs.find? (fun z => decide ((s.zone z).programme = none)) = some z →
            exec (.runManual p es) s = .next (s.answer p (.runManual es) .undefinedZone false [BitVec.ofNat 8 z.val])) ∧
          ((∀ z ∈ zs, (s.zone z).programme ≠ none) →
            (s.engine.regime = .manual → exec (.runManual p es) s = .next (s.answer p (.runManual es) .busy false [])) ∧
            (s.engine.regime = .frost → exec (.runManual p es) s = .next (s.answer p (.runManual es) .regime false [])) ∧
            ∀ entries : List Entry,
              entries = (zs.zip (es.map fun e => max 10 (min 3600 e.2))).map (fun e => ⟨e.1, e.2, e.2, .waiting⟩) →
              (s.engine.regime = .idle →
                exec (.runManual p es) s =
                  .next (((State.post { s with engine := { s.engine with regime := .manual, manual := some entries } } .regimeChanged none none
                    (some p) (some 2)).select).answer p (.runManual es) .done (es.any fun e => decide (e.2 < 10 ∨ 3600 < e.2)) [])) ∧
              (s.engine.regime = .quota →
                ∃ w : State, w = s.closeTagged .quota .preemption ∧ s.visitsSuspended w ∧
                s.channelsClosed (fun z => decide ((s.zone z).useTag = some .quota)) .preemption w ∧
                exec (.runManual p es) s =
                  .next (((State.post { w with
                      engine := { s.engine with
                        regime := .manual
                        manual := some entries
                        stack := s.engine.stack ++ [.quota s.planner.pointer s.planner.round] } } .regimeChanged none none (some p)
                    (some 2)).select).answer p (.runManual es) .done (es.any fun e => decide (e.2 < 10 ∨ 3600 < e.2)) [])))))) ∧
  ∀ (s : State) (p : Port), s.completing p .cancelManual →
    (s.engine.regime ≠ .manual → (∀ es, Frame.manual es ∉ s.engine.stack) →
      exec (.cancelManual p) s = .next (s.answer p .cancelManual .already false [])) ∧
    (s.engine.regime ≠ .manual → (∃ es, Frame.manual es ∈ s.engine.stack) →
      exec (.cancelManual p) s =
        .next (State.answer { s with engine := { s.engine with stack := s.engine.stack.filter fun f => decide (f.rank = 1) } } p .cancelManual
          .done false [])) ∧
    (s.engine.regime = .manual →
      ∃ w : State, s.channelsClosed (fun z => decide ((s.zone z).useTag = some .manual)) .cancelManual w ∧
        (s.engine.stack = [] →
          exec (.cancelManual p) s =
            .next (((State.post { w with engine := { s.engine with regime := .idle, manual := none } } .regimeChanged none none (some p)
              (some 0)).select).answer p .cancelManual .done false [])) ∧
        ∀ i r, s.engine.stack = [.quota i r] →
          exec (.cancelManual p) s =
            .next (((State.post { w with
                engine := { s.engine with regime := .quota, manual := none, stack := [] }
                planner := { w.planner with pointer := i, round := r } } .regimeChanged none none (some p) (some 1)).select).answer p .cancelManual
              .done false []))

/-- R119 to R122: PAUSE, SHUTDOWN and RESUME by the regime, the run state and the STOP input; an assertion of the STOP input stops the engine with cause STOP-LINE by
its run state; while the RESET line is asserted the level alone is held; the release changes nothing but the level. That an assertion of the STOP input while it is
asserted changes nothing is log entry 1. A stop closes every open channel, and suspends each OPEN visit of a QUOTA channel with its target and volume (R133, R135).
That the selection of RESUME comes before its reply is log entry 30. -/
def Obligations.RunStateActsOnDirectivesAndStop : Prop :=
  (∀ (s : State) (p : Port),
    (s.completing p .pause →
      exec (.pause p) s =
        .next
          (if s.engine.regime = .frost then s.answer p .pause .regime false []
          else if s.engine.runState = .running then
            State.answer { s with engine := { s.engine with runState := .paused } } p .pause .done false []
          else s.answer p .pause .already false [])) ∧
    (s.completing p .resume →
      exec (.resume p) s =
        .next
          (if s.stopLow = true then s.answer p .resume .stopLine false []
          else if s.engine.runState = .running then s.answer p .resume .already false []
          else ((State.select { s with engine := { s.engine with runState := .running, stopCause := none } }).answer p .resume .done false []))) ∧
    (s.completing p .shutdown →
      (s.engine.runState = .stopped → exec (.shutdown p) s = .next (s.answer p .shutdown .already false [])) ∧
      (s.engine.runState ≠ .stopped →
        ∃ t : State,
          exec (.shutdown p) s = .next ((t.post .stopped none none (some p) (some 1)).answer p .shutdown .done false []) ∧
          State.channelsClosed { s with engine := { s.engine with runState := .stopped, stopCause := some (.shutdown p) } } (fun _ => true) .stop t ∧
          s.visitsSuspended t ∧ ∀ z, (t.zone z).isOpen = false))) ∧
  ∀ s : State,
    exec .stopReleased s = .next { s with stopLow := false } ∧
    (s.stopLow = true → exec .stopAsserted s = .next s) ∧
    (s.stopLow = false → s.resetLow = true → exec .stopAsserted s = .next { s with stopLow := true }) ∧
    (s.stopLow = false → s.resetLow = false →
      (s.engine.runState = .stopped → s.engine.stopCause = some .stopLine → exec .stopAsserted s = .next { s with stopLow := true }) ∧
      (s.engine.runState = .stopped → s.engine.stopCause ≠ some .stopLine →
        exec .stopAsserted s =
          .next (State.post { s with stopLow := true, engine := { s.engine with stopCause := some .stopLine } } .stopped none none none (some 2))) ∧
      (s.engine.runState ≠ .stopped →
        ∃ t : State, exec .stopAsserted s = .next (t.post .stopped none none none (some 2)) ∧
          State.channelsClosed { s with stopLow := true, engine := { s.engine with runState := .stopped, stopCause := some .stopLine } }
            (fun _ => true) .stop t ∧
          s.visitsSuspended t ∧ ∀ z, (t.zone z).isOpen = false))

/-- R124: under PAUSED or STOPPED, and in IDLE, a selection opens nothing and changes nothing; that a finished manual list then stays unpopped is log entry 14. In
every regime and run state a selection opens a channel only from SHUT, defined, without a lockout and while RUNNING, and it leaves programmes, pending edits, lockouts
and period volumes as they stand, as well as groups, ring, holds, clock, climate and the inputs; and the last-served port where no supply event is on its way into it
(log entry 10). Where none is, and no report is owed, the selection is the one walk alone. -/
def Obligations.SelectionOpensOnlyWhatItMay : Prop :=
  ∀ s : State,
    ((s.engine.runState ≠ .running ∨ s.engine.regime = .idle) → s.selectOnce = s) ∧
    (s.supplyInFlight = [] → s.select.lastServed = s.lastServed ∧ (s.ceilingReportOwed = false → s.select = s.selectOnce)) ∧
    (s.select.groups = s.groups ∧ s.select.ring = s.ring ∧ s.select.holds = s.holds ∧ s.select.clock = s.clock ∧ s.select.climate = s.climate ∧
      s.select.stopLow = s.stopLow ∧ s.select.resetLow = s.resetLow ∧ s.select.pending = s.pending ∧
      s.select.engine.runState = s.engine.runState ∧ s.select.engine.stopCause = s.engine.stopCause) ∧
    ∀ z, (s.select.zone z).programme = (s.zone z).programme ∧ (s.select.zone z).pendingEdit = (s.zone z).pendingEdit ∧
      (s.select.zone z).lockout = (s.zone z).lockout ∧ (s.select.zone z).quotaVolume = (s.zone z).quotaVolume ∧
      (s.select.zone z).manualVolume = (s.zone z).manualVolume ∧ (s.select.zone z).frostVolume = (s.zone z).frostVolume ∧
      ((s.zone z).valve = .closing → (s.select.zone z).valve = .closing) ∧
      ((s.zone z).isOpen = false → (s.select.zone z).isOpen = true →
        (s.zone z).valve = .shut ∧ (s.zone z).lockout = none ∧ (s.zone z).programme ≠ none ∧ s.engine.runState = .running)

/-! ### Power and the RESET line -/

/-- R128 to R132: the quota selection by its first turn, from which the whole follows. It takes the suspended list in list order, then the ring from the pointer
round; zones that do not meet the nine conditions are passed. The first that meets them is asked for room: without it the selection ends, the pointer coming to that
ring position; with it a suspended visit is continued off the list, with its target and volume, and a new one given its target and the pointer the next position; the
guard is started on what is owed, and the selection goes on from there. The round count rises where the pointer passes the end of the ring, also where the walk then
stops without room, which is the model's reading (log entry 15). Where no zone meets the conditions nothing changes. Stated with no supply event on its way into the
selection (log entry 10). -/
def Obligations.QuotaSelectionFollowsTheListAndTheRing : Prop :=
  ∀ s : State, s.engine.regime = .quota → s.engine.runState = .running → s.supplyInFlight = [] →
    ((∀ z x, ¬s.mayRotate z x) → s.selectOnce = s) ∧
    (∀ (z : ZoneId) (x : Programme) (passed rest : List ZoneId), s.planner.suspended = passed ++ z :: rest → s.mayRotate z x →
      (∀ y ∈ passed, ∀ v, ¬s.mayRotate y v) →
      (¬s.hasRoom x → s.selectOnce = s) ∧
      ∀ target, (s.zone z).visitTarget = some target → s.hasRoom x →
        s.selectOnce =
          State.selectOnce (State.openChannel
            { s.updZone z (fun y => { y with visit := .openVisit, guardTimer := some (guardOf x (target - y.visitVolume)) }) with
              planner := { s.planner with suspended := s.planner.suspended.filter fun i => decide (i ≠ z) } } z .quota)) ∧
    ∀ (z : ZoneId) (x : Programme) (k : Nat) (passed rest : List Nat),
      ((List.range s.ring.length).map fun i => (s.planner.pointer + i) % s.ring.length) = passed ++ k :: rest → s.ring[k]? = some z →
      s.mayRotate z x → (∀ y ∈ s.planner.suspended, ∀ v, ¬s.mayRotate y v) → (∀ j ∈ passed, ∀ y, s.ring[j]? = some y → ∀ v, ¬s.mayRotate y v) →
      (¬s.hasRoom x →
        s.selectOnce = { s with planner := { s.planner with
          pointer := k, round := if k < s.planner.pointer then (s.planner.round + 1) % 65536 else s.planner.round } }) ∧
      (s.hasRoom x →
        ∀ next target : Nat, next = (if k + 1 = s.ring.length then 0 else k + 1) →
          target = min (((s.zone z).effectiveQuota * 100 + (x.cycles - 1)) / x.cycles) ((s.zone z).effectiveQuota * 100 - (s.zone z).quotaVolume) →
          s.selectOnce =
            State.selectOnce (State.openChannel
              { s.updZone z (fun y =>
                  { y with visit := .openVisit, visitTarget := some target, visitVolume := 0, guardTimer := some (guardOf x target) }) with
                planner := { s.planner with
                  pointer := next, round := if next ≤ s.planner.pointer then (s.planner.round + 1) % 65536 else s.planner.round } } z .quota))

/-- R110, R116, R124: the manual walk by the first WAITING entry, from which the whole follows. An undefined zone is passed over with MANUAL-SKIPPED value 2, a locked
one with value 1, and the walk goes on; a channel that is not SHUT, or has no room, ends the walk; else the entry is RUNNING, its channel opened and the walk goes on.
With no entry WAITING nothing changes while one is RUNNING; where none is, the list is complete and pops, to IDLE or to the QUOTA frame, whose regime then selects.
Stated with no supply event on its way into the selection (log entry 10). -/
def Obligations.ManualWalkTakesTheEntriesInOrder : Prop :=
  ∀ s : State, s.engine.regime = .manual → s.engine.runState = .running → s.supplyInFlight = [] →
    (∀ (e : Entry) (done rest : List Entry), s.engine.manual = some (done ++ e :: rest) → (∀ y ∈ done, y.state ≠ .waiting) → e.state = .waiting →
      ∀ became : EntryState → State,
        became = (fun k => { s with engine := { s.engine with manual := some (done ++ { e with state := k } :: rest) } }) →
        ((s.zone e.zone).programme = none →
          s.selectOnce = State.selectOnce ((became .skipped).post .manualSkipped (some e.zone) none none (some 2))) ∧
        ∀ x, (s.zone e.zone).programme = some x →
          ((s.zone e.zone).lockout ≠ none →
            s.selectOnce = State.selectOnce ((became .skipped).post .manualSkipped (some e.zone) (some x.header) none (some 1))) ∧
          ((s.zone e.zone).lockout = none → (s.zone e.zone).valve ≠ .shut ∨ ¬s.hasRoom x → s.selectOnce = s) ∧
          ((s.zone e.zone).lockout = none → (s.zone e.zone).valve = .shut → s.hasRoom x →
            s.selectOnce = State.selectOnce ((became .running).openChannel e.zone .manual))) ∧
    ∀ es : List Entry, s.engine.manual = some es → (∀ e ∈ es, e.state ≠ .waiting) →
      ((∃ e ∈ es, e.state = .running) → s.selectOnce = s) ∧
      ((∀ e ∈ es, e.state ≠ .running) →
        (s.engine.stack = [] →
          s.selectOnce = State.post { s with engine := { s.engine with regime := .idle, manual := none } } .regimeChanged none none none (some 0)) ∧
        ∀ i r, s.engine.stack = [.quota i r] →
          s.selectOnce =
            State.selectOnce (State.post { s with
              engine := { s.engine with regime := .quota, manual := none, stack := [] }
              planner := { s.planner with pointer := i, round := r } } .regimeChanged none none none (some 1)))

/-- R161, R162: the frost selection by its first turn, from which the whole follows: of the admitted zones that are SHUT and free of lockout the one of least slack,
then lower frost rank, then lower zone number, is asked for room; without it the selection ends, with it the zone's frost visit begins with its full dwell, its
channel is opened, and the selection goes on. Where there is no such zone nothing changes. Stated with no supply event on its way into the selection (log entry 10). -/
def Obligations.FrostSelectionServesTheLeastSlack : Prop :=
  ∀ s : State, s.engine.regime = .frost → s.engine.runState = .running → s.supplyInFlight = [] →
    ((∀ z x, ¬s.mayProtect z x) → s.selectOnce = s) ∧
    ∀ (z : ZoneId) (x : Programme), s.mayProtect z x → (∀ y v, y ≠ z → s.mayProtect y v → s.protectsBefore z x y v) →
      (¬s.hasRoom x → s.selectOnce = s) ∧
      (s.hasRoom x →
        s.selectOnce =
          State.selectOnce ((s.updZone z fun y => { y with frostVisit := true, dwellRemaining := some x.dwell }).openChannel z .frost))

/-- R4, R26, R37, R55, R75, R91, R107, R126, R143, R155, R167, R173, R176, R186: POWER_ON gives every block its power-on values; the straps are as read, the STOP
level decides the run state, and the commands that wait still wait. That the receive lines are high and the STOP level is kept is the model's choice (log entry 8). -/
def Obligations.PowerOnGivesTheInitialState : Prop :=
  ∀ (s : State) (a b c : Straps),
    ∃ t : State, exec (.powerOn a b c) s = .next t ∧
      (∀ z, let x := t.zone z
        x.programme = none ∧ x.pendingEdit = none ∧ x.valve = .shut ∧ x.energised = false ∧ x.useTag = none ∧ x.lockout = none ∧
          x.fillTimer = none ∧ x.closeTimer = none ∧ x.timeInState = 0 ∧ x.quotaVolume = 0 ∧ x.manualVolume = 0 ∧ x.frostVolume = 0 ∧
          x.lastPeriodVolume = 0 ∧ x.effectiveQuota = 0 ∧ x.cyclesRemaining = 0 ∧ x.visit = .noVisit ∧ x.visitTarget = none ∧
          x.visitVolume = 0 ∧ x.guardTimer = none ∧ x.soakTimer = 65535 ∧ x.dryClock = 0 ∧ x.overdue = false ∧ x.admitted = false ∧
          x.requiredFlow = none ∧ x.frostVisit = false ∧ x.dwellRemaining = none) ∧
      (∀ g, t.group g = ⟨0, 0, true⟩) ∧ (∀ e, t.hold e = .free) ∧ t.ring = [] ∧ t.energising = [] ∧ t.wetOrder = [] ∧
      (∀ h, t.meter h = ⟨1, 100, 10, 20, 20, true, 0, 0, false, false, false, 10, 0, 0, 0, 0, none⟩) ∧
      t.supply.inForce = Flows.zero ∧ t.supply.fallback = Flows.zero ∧ t.supply.committed = Flows.zero ∧ t.supply.status = .none ∧
      t.supply.validity = none ∧
      t.clock = ⟨0, 0, false, 1, 0, 0, none, false⟩ ∧
      t.climate = ⟨⟨none, none, none⟩, ⟨10, 30, 1800, 300⟩, none, .disarmed, false, 0⟩ ∧
      t.engine = ⟨.idle, if s.stopLow then .stopped else .running, if s.stopLow then some .stopLine else none, [], none⟩ ∧
      t.planner = ⟨0, 0, [], false⟩ ∧ t.loads = Flows.zero ∧
      (∀ p, let x := (PerPort.mk a b c).get p
        t.port p = ⟨.idle, .empty, [], ⟨x.r0, x.r1, x.r2, x.r3⟩, ⟨x.r0, x.r1, x.r2, x.r3⟩, x.lineRate, false, ⟨true, true, true, true⟩, 0, false, [],
          false⟩) ∧
      t.lastServed = .c ∧ t.stopLow = s.stopLow ∧ t.pending = s.pending

/-- R26, R53, R73, R89, R169, R172, R186: the assertion of the RESET line de-energises every output and stops the channel timers, frees every hold, stops the validity
timer, empties mailboxes, replies and notices, takes away the lockout requests on their way (log entry 28), the supply events on their way and a report owed (log
entry 10), and keeps the rest. That the mailboxes and reply queues are empty already at the assertion, and that the assembler and the rest of a port are kept until
the release, is log entry 8; that an assertion of a line already asserted changes nothing is log entry 1. -/
def Obligations.ResetAssertionSilencesThePart : Prop :=
  ∀ s : State,
    (s.resetLow = true → exec .resetAsserted s = .next s) ∧
    (s.resetLow = false →
      ∃ t : State, exec .resetAsserted s = .next t ∧
        t = { s with
          zones := t.zones
          holds := Vector.replicate 9 .free
          supply := { s.supply with validity := none }
          ports := t.ports
          resetLow := true
          supplyInFlight := []
          ceilingReportOwed := false
          lockoutRequests := [] } ∧
        (∀ z, t.zone z = { s.zone z with energised := false, fillTimer := none, closeTimer := none, senseTimer := none }) ∧
        ∀ p, t.port p = { s.port p with mailbox := .empty, replies := [], notices := [], overflow := false })

/-- R5, R17, R18, R21, R54, R73, R89, R92, R107, R126, R143, R155, R173, R186: the release of the RESET line: every channel SHUT, pending edits applied and the quotas
then recomputed, programmes, lockouts, volumes, settings and clock kept, the engine IDLE, frost DISARMED, ports as after power-on. Stated with no pending roll; a
pending roll is then taken with value 3 as the first notice. That a receive line keeps its level is the model's choice (log entry 8); that a release of a line not
asserted changes nothing is log entry 1. -/
def Obligations.ResetReleaseRestartsThePart : Prop :=
  ∀ (s : State) (a b c : Straps),
    (s.resetLow = false → exec (.resetReleased a b c) s = .next s) ∧
    (s.resetLow = true → ∃ t : State,
      (s.clock.pendingRoll = false → exec (.resetReleased a b c) s = .next t) ∧
      (s.clock.pendingRoll = true →
        exec (.resetReleased a b c) s = .next (State.rollPeriod { t with clock := { s.clock with pendingRoll := false } } 3 none)) ∧
      (∀ z, let x := t.zone z
        let y := s.zone z
        x.valve = .shut ∧ x.energised = false ∧ x.useTag = none ∧ x.pendingEdit = none ∧ x.timeInState = 0 ∧ x.lockout = y.lockout ∧
          x.fillTimer = none ∧ x.closeTimer = none ∧ x.senseTimer = none ∧ x.quotaVolume = y.quotaVolume ∧ x.manualVolume = y.manualVolume ∧
          x.frostVolume = y.frostVolume ∧ x.lastPeriodVolume = y.lastPeriodVolume ∧ x.soakTimer = y.soakTimer ∧ x.visit = .noVisit ∧
          x.visitTarget = none ∧ x.visitVolume = 0 ∧ x.dryClock = 0 ∧ x.overdue = false ∧ x.admitted = false ∧ x.frostVisit = false ∧
          x.dwellRemaining = none ∧
          (match y.pendingEdit with
            | none => x.programme = y.programme ∧ x.cyclesRemaining = y.cyclesRemaining
            | some .clear => x.programme = none ∧ x.cyclesRemaining = 0
            | some (.edit v) =>
              x.programme = some v ∧ x.cyclesRemaining = if y.programme = none then v.cycles else min y.cyclesRemaining v.cycles) ∧
          x.effectiveQuota = if ∀ z', (s.zone z').pendingEdit = none then y.effectiveQuota else t.quotaShare z) ∧
      t.groups = s.groups ∧ t.ring = s.ring ∧ (∀ e, t.hold e = .free) ∧ t.energising = [] ∧ t.wetOrder = [] ∧
      (∀ h, t.meter h = { s.meter h with
        residue := 0, count := 0, saturated := false, settling := false, drawn := false, timer := (s.meter h).interval, run := none }) ∧
      t.supply = ⟨s.supply.fallback, s.supply.fallback, Flows.zero, .none, none⟩ ∧ t.clock = s.clock ∧
      t.climate = ⟨⟨none, none, none⟩, s.climate.limits, none, .disarmed, false, 0⟩ ∧
      t.engine = ⟨.idle, if s.stopLow then .stopped else .running, if s.stopLow then some .stopLine else none, [], none⟩ ∧
      t.planner = { s.planner with suspended := [] } ∧ t.loads = Flows.zero ∧
      (∀ p, let x := (PerPort.mk a b c).get p
        t.port p = ⟨.idle, .empty, [], ⟨x.r0, x.r1, x.r2, x.r3⟩, ⟨x.r0, x.r1, x.r2, x.r3⟩, x.lineRate, false, ⟨true, true, true, true⟩, 0,
          (s.port p).lineLow, [], false⟩) ∧
      t.lastServed = .c ∧ t.stopLow = s.stopLow ∧ t.resetLow = false ∧ t.pending = s.pending)

/-! ### Valves -/

/-- R38, R50, R76, R86 to R88: an open command that is taken: the channel of a SHUT, defined zone without a lockout enters OPENING with its timers and tag, last in
the order of energising, committed flow rises, and the header's interval is settling and drawn on, where the open flow then fits. With a fill time of 0 s the channel
goes on to WET in the same event, at the end of the order of WET entry, overdue clear and its dry clock 0 while frost is armed (R39, R159). Where the open flow was
within the ceilings and then is not, the channel is itself shed at its OPENING report: it enters CLOSING, ZONE-SHED is posted without a port, and no other channel is
touched. For an undefined or locked zone, or a channel that is not SHUT, the command is refused and nothing changes. -/
def Obligations.OpenCommandEnergisesTheChannel : Prop :=
  ∀ (s : State) (z : ZoneId) (tag : UseTag),
    (((s.zone z).programme = none ∨ (s.zone z).lockout ≠ none ∨ (s.zone z).valve ≠ .shut) → s.openChannel z tag = s) ∧
    (∀ x : Programme, (s.zone z).programme = some x → (s.zone z).lockout = none → (s.zone z).valve = .shut → s.ordersMatch → s.openWithin →
      ¬((∀ h, s.openFlow h + (if h = x.header then x.flow else 0) ≤ s.supply.inForce.header[h]) ∧
        s.totalOpenFlow + x.flow ≤ s.supply.inForce.total) →
      ∀ t : State, t = s.openChannel z tag →
        (t.zone z).valve = .closing ∧ (t.zone z).energised = false ∧ (t.zone z).useTag = some tag ∧ (t.zone z).endedBy = some .shed ∧
          (t.zone z).closeTimer = some x.closing ∧ (t.zone z).fillTimer = none ∧ (t.zone z).senseTimer = none ∧
          (t.zone z).opened = some ⟨x.header, x.flow⟩ ∧
          (tag = .quota → (s.zone z).visit = .openVisit → z ∈ s.ring →
            (t.zone z).visit = .suspended ∧ (t.zone z).visitTarget = (s.zone z).visitTarget ∧ (t.zone z).visitVolume = (s.zone z).visitVolume ∧
              t.planner.suspended = s.planner.suspended ++ [z]) ∧
          (tag = .frost → (t.zone z).frostVisit = false) ∧
          (∀ y, y ≠ z → t.zone y = s.zone y) ∧
          (t.meter x.header).settling = true ∧ (t.meter x.header).drawn = true ∧
          t = { s with
            zones := t.zones
            meters := t.meters
            planner := { s.planner with suspended := t.planner.suspended }
            supply := { s.supply with committed :=
              ⟨s.supply.committed.total + x.flow, s.supply.committed.header.set x.header (s.supply.committed.header[x.header] + x.flow)⟩ }
            ports := (s.post .zoneShed (some z) (some x.header) none
              (some (match tag with | .quota => 1 | .manual => 2 | .frost => 3))).ports }) ∧
    ∀ x : Programme, (s.zone z).programme = some x → (s.zone z).lockout = none → (s.zone z).valve = .shut → s.ordersMatch →
      (∀ h, s.openFlow h + (if h = x.header then x.flow else 0) ≤ s.supply.inForce.header[h]) →
      s.totalOpenFlow + x.flow ≤ s.supply.inForce.total →
      ∀ y : Zone, y =
          { s.zone z with
            valve := .opening, energised := true, useTag := some tag, fillTimer := some x.fill, sensePhase := .awaiting,
            senseTimer := some 2, timeInState := 0, opened := some ⟨x.header, x.flow⟩, lockedSinceOpen := false, endedBy := none } →
        s.openChannel z tag =
          State.updMeter
            { s.updZone z (fun _ =>
                if x.fill = 0 then
                  { y with valve := .wet, fillTimer := none, overdue := false, dryClock := if s.climate.frost ≠ .disarmed then 0 else y.dryClock }
                else y) with
              energising := if x.fill = 0 then s.energising else s.energising ++ [z]
              wetOrder := if x.fill = 0 then s.wetOrder ++ [z] else s.wetOrder
              supply := { s.supply with committed :=
                ⟨s.supply.committed.total + x.flow, s.supply.committed.header.set x.header (s.supply.committed.header[x.header] + x.flow)⟩ } }
            x.header fun m => { m with settling := true, drawn := true }

/-- R39, R41, R50, R51, R76, R117, R138, R158, R159: a fill timer that has run out takes an OPENING channel to WET, at the end of the order of WET entry, with time in
state 0, overdue clear, and the dry clock 0 while frost is armed; a close timer that has run out takes a CLOSING channel to SHUT, committed flow falls by the flow it
was opened with, a pending edit is applied, a QUOTA channel restarts its soak timer, a MANUAL channel's RUNNING entry becomes DONE, SKIPPED with MANUAL-SKIPPED value
3, or WAITING by what ended the opening, triage is rerun where the zone was locked out in this opening and was a frost candidate but for that (with the programme it
was opened with: log entry 21), and a selection is made. Stated for a zone without an OPEN visit on a QUOTA channel, which no CLOSING channel has (R127). In any other
state the expiry does nothing (log entry 1). -/
def Obligations.FillAndCloseTimersExpire : Prop :=
  (∀ (s : State) (z : ZoneId), s.resetLow = false →
    exec (.fillTimerExpiry z) s =
      .next
        (if (s.zone z).valve = .opening ∧ (s.zone z).fillTimer = some 0 then
          { s.updZone z (fun x =>
              { x with
                valve := .wet, fillTimer := none, timeInState := 0, overdue := false,
                dryClock := if s.climate.frost ≠ .disarmed then 0 else x.dryClock }) with
            energising := s.energising.filter fun i => decide (i ≠ z)
            wetOrder := s.wetOrder ++ [z] }
        else s)) ∧
  ∀ (s : State) (z : ZoneId), s.resetLow = false →
    (¬((s.zone z).valve = .closing ∧ (s.zone z).closeTimer = some 0) → exec (.closeTimerExpiry z) s = .next s) ∧
    ∀ o : Opened, (s.zone z).valve = .closing → (s.zone z).closeTimer = some 0 → (s.zone z).opened = some o →
      ((s.zone z).useTag = some .quota → (s.zone z).visit ≠ .openVisit) →
      ∀ t u v w : State,
        t = { s.updZone z (fun x =>
            { x with
              valve := .shut, energised := false, fillTimer := none, closeTimer := none, senseTimer := none, useTag := none, timeInState := 0 }) with
          supply := { s.supply with committed :=
            ⟨s.supply.committed.total - o.flow, s.supply.committed.header.set o.header (s.supply.committed.header[o.header] - o.flow)⟩ } } →
        u = t.applyPending z →
        v =
          (match (s.zone z).useTag with
          | some .quota => u.updZone z fun x => { x with soakTimer := 0 }
          | some .manual =>
            let n : State := { u with engine := { u.engine with manual := u.engine.manual.map fun l => l.map fun e =>
              if e.state = .running ∧ e.zone = z then
                match (s.zone z).endedBy with
                | some .runTimeSpent => { e with state := .done, remaining := 0 }
                | some .closeZone => { e with state := .done, remaining := 0 }
                | some .lockout => { e with state := .skipped }
                | _ => { e with state := .waiting }
              else e } }
            if (s.zone z).endedBy = some .lockout ∧ (∃ e ∈ u.engine.manual.getD [], e.state = .running ∧ e.zone = z) then
              n.post .manualSkipped (some z) ((u.zone z).programme.map (·.header)) none (some 3)
            else n
          | _ => u) →
        w =
          (if (s.zone z).lockedSinceOpen = true ∧ s.climate.frost ≠ .disarmed ∧
              (∃ x, (s.zone z).programme = some x ∧ x.enabled = true ∧ x.frostMember = true) then v.triage
          else v) →
        ((s.zone z).pendingEdit = none → u = t) ∧ exec (.closeTimerExpiry z) s = .next w.select

/-- R42, R43, R46, R51, R58, R76, R117, R136, R138, R158, R159, R162: a low first sample, or a fall while watching, in OPENING or WET takes the channel straight to
SHUT with lockout DRIVE-FAULT and ZONE-LOCKED. Committed flow falls by the flow it was opened with, a fault from WET makes the header's interval settling, a pending
edit is applied; on a QUOTA channel the OPEN visit is dropped and the soak timer restarts, on a MANUAL one the RUNNING entry becomes SKIPPED with MANUAL-SKIPPED value
3, on a FROST one the frost visit ends; after WET the dry clock is 0 while frost is armed; triage is rerun where the zone was a frost candidate (with the programme it
was opened with: log entry 21), and a selection is made. A high first sample begins the watching; while the output is de-energised, or before the first sample, a
level causes nothing; that SENSE_TIMER_EXPIRY does nothing while the sense timer has not run out is log entry 1. -/
def Obligations.DriveSenseFindsFaults : Prop :=
  ∀ (s : State) (z : ZoneId), s.resetLow = false →
    ((s.zone z).energised = false ∨ (s.zone z).sensePhase = .awaiting → exec (.driveSenseFall z) s = .next s) ∧
    ((s.zone z).energised = false ∨ (s.zone z).senseTimer ≠ some 0 → ∀ l, exec (.senseTimerExpiry z l) s = .next s) ∧
    ((s.zone z).energised = true → (s.zone z).senseTimer = some 0 →
      exec (.senseTimerExpiry z true) s = .next (s.updZone z fun x => { x with sensePhase := .watching, senseTimer := none })) ∧
    ∀ o : Opened, (s.zone z).energised = true → (s.zone z).isOpen = true → (s.zone z).lockout = none → (s.zone z).opened = some o →
      ∀ t u v w : State,
        t = State.post
          { s.updZone z (fun x =>
              { x with
                valve := .shut, energised := false, fillTimer := none, closeTimer := none, senseTimer := none, sensePhase := .watching,
                useTag := none, timeInState := 0, lockout := some .driveFault, lockedSinceOpen := true }) with
            energising := s.energising.filter fun i => decide (i ≠ z)
            wetOrder := s.wetOrder.filter fun i => decide (i ≠ z)
            supply := { s.supply with committed :=
              ⟨s.supply.committed.total - o.flow, s.supply.committed.header.set o.header (s.supply.committed.header[o.header] - o.flow)⟩ }
            meters := s.meters.set o.header
              { s.meter o.header with settling := (s.meter o.header).settling || decide ((s.zone z).valve = .wet) } }
          .zoneLocked (some z) (some o.header) none (some 1) →
        u = t.applyPending z →
        v =
          (match (s.zone z).useTag with
          | some .quota => u.updZone z fun x =>
            if x.visit = .openVisit then
              { x with soakTimer := 0, visit := .noVisit, visitTarget := none, visitVolume := 0, guardTimer := none }
            else { x with soakTimer := 0 }
          | some .manual =>
            if ∃ e ∈ u.engine.manual.getD [], e.state = .running ∧ e.zone = z then
              State.post { u with engine := { u.engine with manual := u.engine.manual.map fun l => l.map fun e =>
                if e.state = .running ∧ e.zone = z then { e with state := .skipped } else e } }
                .manualSkipped (some z) ((u.zone z).programme.map (·.header)) none (some 3)
            else u
          | some .frost => u.updZone z fun x => { x with frostVisit := false, dwellRemaining := none }
          | none => u) →
        w = (if (s.zone z).valve = .wet ∧ s.climate.frost ≠ .disarmed then v.updZone z fun x => { x with dryClock := 0 } else v) →
        ∀ r : State,
          r = (if s.climate.frost ≠ .disarmed ∧ (∃ x, (s.zone z).programme = some x ∧ x.enabled = true ∧ x.frostMember = true) then w.triage
            else w) →
          ((s.zone z).pendingEdit = none → u = t) ∧
          ((s.zone z).sensePhase = .watching → exec (.driveSenseFall z) s = .next r.select) ∧
          ((s.zone z).senseTimer = some 0 → exec (.senseTimerExpiry z false) s = .next r.select)

/-- R44 to R46, R136, R158: a lockout request acts on the zone as it finds it. With a lockout already, nothing changes. Else the lockout is set and ZONE-LOCKED
posted; an OPENING or WET channel closes for it, its quota visit dropped or its frost visit ended; CLOSING goes on; in SHUT, while frost is armed and the zone was a
frost candidate, triage reruns, and a selection follows where the admitted set has changed. When a request on its way is taken is log entry 28, and that the close
timer is 0 for an open channel without a programme is log entry 21. -/
def Obligations.LockoutRequestActsOnTheZoneAsItFindsIt : Prop :=
  ∀ (s : State) (z : ZoneId) (k : Lockout),
    ((s.zone z).lockout ≠ none → s.requestLockout z k = s) ∧
    ((s.zone z).lockout = none →
      ∀ t : State, t = State.post (s.updZone z fun x => { x with lockout := some k, lockedSinceOpen := true }) .zoneLocked (some z)
          ((s.zone z).opened.map (·.header)) none (some (match k with | .driveFault => 1 | .noFlow => 2 | .burst => 3)) →
        ((s.zone z).valve = .closing → s.requestLockout z k = t) ∧
        ((s.zone z).valve = .shut →
          s.requestLockout z k =
            if s.climate.frost ≠ .disarmed ∧ (∃ x, (s.zone z).programme = some x ∧ x.enabled = true ∧ x.frostMember = true) then
              if ∀ y, (t.triage.zone y).admitted = (s.zone y).admitted then t.triage else t.triage.select
            else t) ∧
        ((s.zone z).isOpen = true →
          ∀ u : State, u = s.requestLockout z k →
            u = { t with
              zones := u.zones
              meters := u.meters
              energising := s.energising.filter fun i => decide (i ≠ z)
              wetOrder := s.wetOrder.filter fun i => decide (i ≠ z) } ∧
            (∀ y, y ≠ z → u.zone y = s.zone y) ∧ t.channelsClosed (fun y => decide (y = z)) .lockout u ∧
            (u.zone z).valve = .closing ∧ (u.zone z).energised = false ∧ (u.zone z).endedBy = some .lockout ∧ (u.zone z).lockout = some k ∧
            (u.zone z).lockedSinceOpen = true ∧ (u.zone z).useTag = (s.zone z).useTag ∧
            (u.zone z).closeTimer = some (match (s.zone z).programme with | some x => x.closing | none => 0) ∧
            (u.zone z).cyclesRemaining = (s.zone z).cyclesRemaining ∧
            ((s.zone z).useTag = some .quota → (s.zone z).visit = .openVisit → (u.zone z).visit = .noVisit ∧ (u.zone z).visitTarget = none) ∧
            ((s.zone z).useTag = some .frost → (u.zone z).frostVisit = false ∧ (u.zone z).dwellRemaining = none)))

/-- R47 and R48: CLOSE-ZONE and CLEAR-LOCKOUT by the state of the channel and the lockout; a zone number above 31 is refused with RANGE naming field 0. That the close
timer is 0 for an open channel without a programme, which no channel that has been opened is, is log entry 21, and that the selection of CLEAR-LOCKOUT comes before
its reply is log entry 30. -/
def Obligations.CloseZoneAndClearLockoutAct : Prop :=
  ∀ (s : State) (p : Port),
    (∀ n, 31 < n →
      (s.completing p (.closeZone n) → exec (.closeZone p n) s = .next (s.answer p (.closeZone n) .range false [0x00#8])) ∧
      (s.completing p (.clearLockout n) → exec (.clearLockout p n) s = .next (s.answer p (.clearLockout n) .range false [0x00#8]))) ∧
    (∀ z : ZoneId, s.completing p (.closeZone z) →
      ((s.zone z).isOpen = false → exec (.closeZone p z) s = .next (s.answer p (.closeZone z) .already false [])) ∧
      ∀ tag, (s.zone z).isOpen = true → (s.zone z).useTag = some tag →
        ∃ t : State, exec (.closeZone p z) s = .next (t.answer p (.closeZone z) .done false [BitVec.ofNat 8 tag.number]) ∧
          (t.zone z).valve = .closing ∧ (t.zone z).energised = false ∧ (t.zone z).useTag = some tag ∧
          (t.zone z).closeTimer = (s.zone z).programme.elim (some 0) (fun x => some x.closing) ∧ (t.zone z).timeInState = 0 ∧
          (t.zone z).endedBy = some .closeZone ∧
          (tag = .quota → (s.zone z).visit = .openVisit →
            (t.zone z).visit = .noVisit ∧ (t.zone z).visitTarget = none ∧ (t.zone z).visitVolume = 0 ∧
              (t.zone z).cyclesRemaining = (s.zone z).cyclesRemaining) ∧
          (tag = .frost → (t.zone z).frostVisit = false ∧ (t.zone z).dwellRemaining = none) ∧
          t.planner = s.planner ∧ t.engine = s.engine ∧ t.supply = s.supply ∧ t.groups = s.groups ∧ t.holds = s.holds ∧ t.ring = s.ring ∧
          t.clock = s.clock ∧ t.climate = s.climate ∧ t.ports = s.ports ∧
          t.energising = s.energising.filter (fun i => decide (i ≠ z)) ∧ t.wetOrder = s.wetOrder.filter (fun i => decide (i ≠ z)) ∧
          s.channelsClosed (fun y => decide (y = z)) .closeZone t ∧
          ∀ z', z' ≠ z → t.zone z' = s.zone z') ∧
    ∀ z : ZoneId, s.completing p (.clearLockout z) →
      ((s.zone z).valve ≠ .shut → exec (.clearLockout p z) s = .next (s.answer p (.clearLockout z) .busy false [])) ∧
      ((s.zone z).valve = .shut → (s.zone z).lockout = none →
        exec (.clearLockout p z) s = .next (s.answer p (.clearLockout z) .already false [])) ∧
      ∀ k, (s.zone z).valve = .shut → (s.zone z).lockout = some k →
        ∀ t : State, t = s.updZone z (fun x => { x with lockout := none }) →
          exec (.clearLockout p z) s =
            .next
              ((if s.climate.frost ≠ .disarmed ∧ (∃ x, (s.zone z).programme = some x ∧ x.enabled = true ∧ x.frostMember = true) then t.triage.select
                else t.select).answer p (.clearLockout z) .done false [BitVec.ofNat 8 k.number])
end

