-- ==== Sys2Proof/Laws/Bytes.lean ====
section
/-! SUPPORT. The bytes the operations write are the bytes the statements name. -/

namespace Sys2Proof.Machine

/-- The bytes of a number, in the statements' form (R171). -/
theorem natBytes_eq_bytesOf (w n : Nat) : natBytes w n = bytesOf w n := by
  induction w generalizing n with
  | zero => rfl
  | succ w ih =>
    simp only [natBytes, ih, bytesOf, List.range_succ, List.map_append, List.map_cons, List.map_nil]
    congr 1
    · apply List.map_congr_left
      intro i hi
      have hi := List.mem_range.mp hi
      rw [Nat.div_div_eq_div_mul, ← Nat.pow_succ', show (w - 1 - i).succ = w + 1 - 1 - i by omega]
    · simp

/-- The bytes of a signed number, in the statements' form (R171). -/
theorem intBytes_eq_signedBytesOf (w : Nat) (v : Int) : intBytes w v = signedBytesOf w v := natBytes_eq_bytesOf _ _

end Sys2Proof.Machine
end

