-- ==== Sys2Proof/Laws/State.lean ====
section
/-! SUPPORT. What each record update leaves alone and what each read gives after it: true by computation, so that no proof unfolds an update. -/

namespace Sys2Proof.Machine

/-! ### Fields that an update leaves alone -/

section
variable (s : State)

@[simp] theorem State.updZone_groups (z : ZoneId) (f : Zone → Zone) : (s.updZone z f).groups = s.groups := rfl
@[simp] theorem State.updZone_ring (z : ZoneId) (f : Zone → Zone) : (s.updZone z f).ring = s.ring := rfl
@[simp] theorem State.updZone_holds (z : ZoneId) (f : Zone → Zone) : (s.updZone z f).holds = s.holds := rfl
@[simp] theorem State.updZone_energising (z : ZoneId) (f : Zone → Zone) : (s.updZone z f).energising = s.energising := rfl
@[simp] theorem State.updZone_wetOrder (z : ZoneId) (f : Zone → Zone) : (s.updZone z f).wetOrder = s.wetOrder := rfl
@[simp] theorem State.updZone_meters (z : ZoneId) (f : Zone → Zone) : (s.updZone z f).meters = s.meters := rfl
@[simp] theorem State.updZone_supply (z : ZoneId) (f : Zone → Zone) : (s.updZone z f).supply = s.supply := rfl
@[simp] theorem State.updZone_clock (z : ZoneId) (f : Zone → Zone) : (s.updZone z f).clock = s.clock := rfl
@[simp] theorem State.updZone_climate (z : ZoneId) (f : Zone → Zone) : (s.updZone z f).climate = s.climate := rfl
@[simp] theorem State.updZone_engine (z : ZoneId) (f : Zone → Zone) : (s.updZone z f).engine = s.engine := rfl
@[simp] theorem State.updZone_planner (z : ZoneId) (f : Zone → Zone) : (s.updZone z f).planner = s.planner := rfl
@[simp] theorem State.updZone_loads (z : ZoneId) (f : Zone → Zone) : (s.updZone z f).loads = s.loads := rfl
@[simp] theorem State.updZone_ports (z : ZoneId) (f : Zone → Zone) : (s.updZone z f).ports = s.ports := rfl
@[simp] theorem State.updZone_lastServed (z : ZoneId) (f : Zone → Zone) : (s.updZone z f).lastServed = s.lastServed := rfl
@[simp] theorem State.updZone_stopLow (z : ZoneId) (f : Zone → Zone) : (s.updZone z f).stopLow = s.stopLow := rfl
@[simp] theorem State.updZone_resetLow (z : ZoneId) (f : Zone → Zone) : (s.updZone z f).resetLow = s.resetLow := rfl
@[simp] theorem State.updZone_supplyInFlight (z : ZoneId) (f : Zone → Zone) : (s.updZone z f).supplyInFlight = s.supplyInFlight := rfl
@[simp] theorem State.updZone_ceilingReportOwed (z : ZoneId) (f : Zone → Zone) : (s.updZone z f).ceilingReportOwed = s.ceilingReportOwed := rfl
@[simp] theorem State.updZone_lockoutRequests (z : ZoneId) (f : Zone → Zone) : (s.updZone z f).lockoutRequests = s.lockoutRequests := rfl
@[simp] theorem State.updZone_pending (z : ZoneId) (f : Zone → Zone) : (s.updZone z f).pending = s.pending := rfl

@[simp] theorem State.mapZones_groups (f : ZoneId → Zone → Zone) : (s.mapZones f).groups = s.groups := rfl
@[simp] theorem State.mapZones_ring (f : ZoneId → Zone → Zone) : (s.mapZones f).ring = s.ring := rfl
@[simp] theorem State.mapZones_holds (f : ZoneId → Zone → Zone) : (s.mapZones f).holds = s.holds := rfl
@[simp] theorem State.mapZones_energising (f : ZoneId → Zone → Zone) : (s.mapZones f).energising = s.energising := rfl
@[simp] theorem State.mapZones_wetOrder (f : ZoneId → Zone → Zone) : (s.mapZones f).wetOrder = s.wetOrder := rfl
@[simp] theorem State.mapZones_meters (f : ZoneId → Zone → Zone) : (s.mapZones f).meters = s.meters := rfl
@[simp] theorem State.mapZones_supply (f : ZoneId → Zone → Zone) : (s.mapZones f).supply = s.supply := rfl
@[simp] theorem State.mapZones_clock (f : ZoneId → Zone → Zone) : (s.mapZones f).clock = s.clock := rfl
@[simp] theorem State.mapZones_climate (f : ZoneId → Zone → Zone) : (s.mapZones f).climate = s.climate := rfl
@[simp] theorem State.mapZones_engine (f : ZoneId → Zone → Zone) : (s.mapZones f).engine = s.engine := rfl
@[simp] theorem State.mapZones_planner (f : ZoneId → Zone → Zone) : (s.mapZones f).planner = s.planner := rfl
@[simp] theorem State.mapZones_loads (f : ZoneId → Zone → Zone) : (s.mapZones f).loads = s.loads := rfl
@[simp] theorem State.mapZones_ports (f : ZoneId → Zone → Zone) : (s.mapZones f).ports = s.ports := rfl
@[simp] theorem State.mapZones_lastServed (f : ZoneId → Zone → Zone) : (s.mapZones f).lastServed = s.lastServed := rfl
@[simp] theorem State.mapZones_stopLow (f : ZoneId → Zone → Zone) : (s.mapZones f).stopLow = s.stopLow := rfl
@[simp] theorem State.mapZones_resetLow (f : ZoneId → Zone → Zone) : (s.mapZones f).resetLow = s.resetLow := rfl
@[simp] theorem State.mapZones_supplyInFlight (f : ZoneId → Zone → Zone) : (s.mapZones f).supplyInFlight = s.supplyInFlight := rfl
@[simp] theorem State.mapZones_ceilingReportOwed (f : ZoneId → Zone → Zone) : (s.mapZones f).ceilingReportOwed = s.ceilingReportOwed := rfl
@[simp] theorem State.mapZones_lockoutRequests (f : ZoneId → Zone → Zone) : (s.mapZones f).lockoutRequests = s.lockoutRequests := rfl
@[simp] theorem State.mapZones_pending (f : ZoneId → Zone → Zone) : (s.mapZones f).pending = s.pending := rfl

@[simp] theorem State.updGroup_zones (g : GroupId) (f : Group → Group) : (s.updGroup g f).zones = s.zones := rfl
@[simp] theorem State.updGroup_ring (g : GroupId) (f : Group → Group) : (s.updGroup g f).ring = s.ring := rfl
@[simp] theorem State.updGroup_holds (g : GroupId) (f : Group → Group) : (s.updGroup g f).holds = s.holds := rfl
@[simp] theorem State.updGroup_energising (g : GroupId) (f : Group → Group) : (s.updGroup g f).energising = s.energising := rfl
@[simp] theorem State.updGroup_wetOrder (g : GroupId) (f : Group → Group) : (s.updGroup g f).wetOrder = s.wetOrder := rfl
@[simp] theorem State.updGroup_meters (g : GroupId) (f : Group → Group) : (s.updGroup g f).meters = s.meters := rfl
@[simp] theorem State.updGroup_supply (g : GroupId) (f : Group → Group) : (s.updGroup g f).supply = s.supply := rfl
@[simp] theorem State.updGroup_clock (g : GroupId) (f : Group → Group) : (s.updGroup g f).clock = s.clock := rfl
@[simp] theorem State.updGroup_climate (g : GroupId) (f : Group → Group) : (s.updGroup g f).climate = s.climate := rfl
@[simp] theorem State.updGroup_engine (g : GroupId) (f : Group → Group) : (s.updGroup g f).engine = s.engine := rfl
@[simp] theorem State.updGroup_planner (g : GroupId) (f : Group → Group) : (s.updGroup g f).planner = s.planner := rfl
@[simp] theorem State.updGroup_loads (g : GroupId) (f : Group → Group) : (s.updGroup g f).loads = s.loads := rfl
@[simp] theorem State.updGroup_ports (g : GroupId) (f : Group → Group) : (s.updGroup g f).ports = s.ports := rfl
@[simp] theorem State.updGroup_lastServed (g : GroupId) (f : Group → Group) : (s.updGroup g f).lastServed = s.lastServed := rfl
@[simp] theorem State.updGroup_stopLow (g : GroupId) (f : Group → Group) : (s.updGroup g f).stopLow = s.stopLow := rfl
@[simp] theorem State.updGroup_resetLow (g : GroupId) (f : Group → Group) : (s.updGroup g f).resetLow = s.resetLow := rfl
@[simp] theorem State.updGroup_supplyInFlight (g : GroupId) (f : Group → Group) : (s.updGroup g f).supplyInFlight = s.supplyInFlight := rfl
@[simp] theorem State.updGroup_ceilingReportOwed (g : GroupId) (f : Group → Group) : (s.updGroup g f).ceilingReportOwed = s.ceilingReportOwed := rfl
@[simp] theorem State.updGroup_lockoutRequests (g : GroupId) (f : Group → Group) : (s.updGroup g f).lockoutRequests = s.lockoutRequests := rfl
@[simp] theorem State.updGroup_pending (g : GroupId) (f : Group → Group) : (s.updGroup g f).pending = s.pending := rfl

@[simp] theorem State.setHold_zones (e : EntryId) (h : Hold) : (s.setHold e h).zones = s.zones := rfl
@[simp] theorem State.setHold_groups (e : EntryId) (h : Hold) : (s.setHold e h).groups = s.groups := rfl
@[simp] theorem State.setHold_ring (e : EntryId) (h : Hold) : (s.setHold e h).ring = s.ring := rfl
@[simp] theorem State.setHold_energising (e : EntryId) (h : Hold) : (s.setHold e h).energising = s.energising := rfl
@[simp] theorem State.setHold_wetOrder (e : EntryId) (h : Hold) : (s.setHold e h).wetOrder = s.wetOrder := rfl
@[simp] theorem State.setHold_meters (e : EntryId) (h : Hold) : (s.setHold e h).meters = s.meters := rfl
@[simp] theorem State.setHold_supply (e : EntryId) (h : Hold) : (s.setHold e h).supply = s.supply := rfl
@[simp] theorem State.setHold_clock (e : EntryId) (h : Hold) : (s.setHold e h).clock = s.clock := rfl
@[simp] theorem State.setHold_climate (e : EntryId) (h : Hold) : (s.setHold e h).climate = s.climate := rfl
@[simp] theorem State.setHold_engine (e : EntryId) (h : Hold) : (s.setHold e h).engine = s.engine := rfl
@[simp] theorem State.setHold_planner (e : EntryId) (h : Hold) : (s.setHold e h).planner = s.planner := rfl
@[simp] theorem State.setHold_loads (e : EntryId) (h : Hold) : (s.setHold e h).loads = s.loads := rfl
@[simp] theorem State.setHold_ports (e : EntryId) (h : Hold) : (s.setHold e h).ports = s.ports := rfl
@[simp] theorem State.setHold_lastServed (e : EntryId) (h : Hold) : (s.setHold e h).lastServed = s.lastServed := rfl
@[simp] theorem State.setHold_stopLow (e : EntryId) (h : Hold) : (s.setHold e h).stopLow = s.stopLow := rfl
@[simp] theorem State.setHold_resetLow (e : EntryId) (h : Hold) : (s.setHold e h).resetLow = s.resetLow := rfl
@[simp] theorem State.setHold_supplyInFlight (e : EntryId) (h : Hold) : (s.setHold e h).supplyInFlight = s.supplyInFlight := rfl
@[simp] theorem State.setHold_ceilingReportOwed (e : EntryId) (h : Hold) : (s.setHold e h).ceilingReportOwed = s.ceilingReportOwed := rfl
@[simp] theorem State.setHold_lockoutRequests (e : EntryId) (h : Hold) : (s.setHold e h).lockoutRequests = s.lockoutRequests := rfl
@[simp] theorem State.setHold_pending (e : EntryId) (h : Hold) : (s.setHold e h).pending = s.pending := rfl

@[simp] theorem State.updMeter_zones (h : HeaderId) (f : Meter → Meter) : (s.updMeter h f).zones = s.zones := rfl
@[simp] theorem State.updMeter_groups (h : HeaderId) (f : Meter → Meter) : (s.updMeter h f).groups = s.groups := rfl
@[simp] theorem State.updMeter_ring (h : HeaderId) (f : Meter → Meter) : (s.updMeter h f).ring = s.ring := rfl
@[simp] theorem State.updMeter_holds (h : HeaderId) (f : Meter → Meter) : (s.updMeter h f).holds = s.holds := rfl
@[simp] theorem State.updMeter_energising (h : HeaderId) (f : Meter → Meter) : (s.updMeter h f).energising = s.energising := rfl
@[simp] theorem State.updMeter_wetOrder (h : HeaderId) (f : Meter → Meter) : (s.updMeter h f).wetOrder = s.wetOrder := rfl
@[simp] theorem State.updMeter_supply (h : HeaderId) (f : Meter → Meter) : (s.updMeter h f).supply = s.supply := rfl
@[simp] theorem State.updMeter_clock (h : HeaderId) (f : Meter → Meter) : (s.updMeter h f).clock = s.clock := rfl
@[simp] theorem State.updMeter_climate (h : HeaderId) (f : Meter → Meter) : (s.updMeter h f).climate = s.climate := rfl
@[simp] theorem State.updMeter_engine (h : HeaderId) (f : Meter → Meter) : (s.updMeter h f).engine = s.engine := rfl
@[simp] theorem State.updMeter_planner (h : HeaderId) (f : Meter → Meter) : (s.updMeter h f).planner = s.planner := rfl
@[simp] theorem State.updMeter_loads (h : HeaderId) (f : Meter → Meter) : (s.updMeter h f).loads = s.loads := rfl
@[simp] theorem State.updMeter_ports (h : HeaderId) (f : Meter → Meter) : (s.updMeter h f).ports = s.ports := rfl
@[simp] theorem State.updMeter_lastServed (h : HeaderId) (f : Meter → Meter) : (s.updMeter h f).lastServed = s.lastServed := rfl
@[simp] theorem State.updMeter_stopLow (h : HeaderId) (f : Meter → Meter) : (s.updMeter h f).stopLow = s.stopLow := rfl
@[simp] theorem State.updMeter_resetLow (h : HeaderId) (f : Meter → Meter) : (s.updMeter h f).resetLow = s.resetLow := rfl
@[simp] theorem State.updMeter_supplyInFlight (h : HeaderId) (f : Meter → Meter) : (s.updMeter h f).supplyInFlight = s.supplyInFlight := rfl
@[simp] theorem State.updMeter_ceilingReportOwed (h : HeaderId) (f : Meter → Meter) : (s.updMeter h f).ceilingReportOwed = s.ceilingReportOwed := rfl
@[simp] theorem State.updMeter_lockoutRequests (h : HeaderId) (f : Meter → Meter) : (s.updMeter h f).lockoutRequests = s.lockoutRequests := rfl
@[simp] theorem State.updMeter_pending (h : HeaderId) (f : Meter → Meter) : (s.updMeter h f).pending = s.pending := rfl

@[simp] theorem State.updPort_zones (p : Port) (f : PortState → PortState) : (s.updPort p f).zones = s.zones := rfl
@[simp] theorem State.updPort_groups (p : Port) (f : PortState → PortState) : (s.updPort p f).groups = s.groups := rfl
@[simp] theorem State.updPort_ring (p : Port) (f : PortState → PortState) : (s.updPort p f).ring = s.ring := rfl
@[simp] theorem State.updPort_holds (p : Port) (f : PortState → PortState) : (s.updPort p f).holds = s.holds := rfl
@[simp] theorem State.updPort_energising (p : Port) (f : PortState → PortState) : (s.updPort p f).energising = s.energising := rfl
@[simp] theorem State.updPort_wetOrder (p : Port) (f : PortState → PortState) : (s.updPort p f).wetOrder = s.wetOrder := rfl
@[simp] theorem State.updPort_meters (p : Port) (f : PortState → PortState) : (s.updPort p f).meters = s.meters := rfl
@[simp] theorem State.updPort_supply (p : Port) (f : PortState → PortState) : (s.updPort p f).supply = s.supply := rfl
@[simp] theorem State.updPort_clock (p : Port) (f : PortState → PortState) : (s.updPort p f).clock = s.clock := rfl
@[simp] theorem State.updPort_climate (p : Port) (f : PortState → PortState) : (s.updPort p f).climate = s.climate := rfl
@[simp] theorem State.updPort_engine (p : Port) (f : PortState → PortState) : (s.updPort p f).engine = s.engine := rfl
@[simp] theorem State.updPort_planner (p : Port) (f : PortState → PortState) : (s.updPort p f).planner = s.planner := rfl
@[simp] theorem State.updPort_loads (p : Port) (f : PortState → PortState) : (s.updPort p f).loads = s.loads := rfl
@[simp] theorem State.updPort_lastServed (p : Port) (f : PortState → PortState) : (s.updPort p f).lastServed = s.lastServed := rfl
@[simp] theorem State.updPort_stopLow (p : Port) (f : PortState → PortState) : (s.updPort p f).stopLow = s.stopLow := rfl
@[simp] theorem State.updPort_resetLow (p : Port) (f : PortState → PortState) : (s.updPort p f).resetLow = s.resetLow := rfl
@[simp] theorem State.updPort_supplyInFlight (p : Port) (f : PortState → PortState) : (s.updPort p f).supplyInFlight = s.supplyInFlight := rfl
@[simp] theorem State.updPort_ceilingReportOwed (p : Port) (f : PortState → PortState) : (s.updPort p f).ceilingReportOwed = s.ceilingReportOwed := rfl
@[simp] theorem State.updPort_lockoutRequests (p : Port) (f : PortState → PortState) : (s.updPort p f).lockoutRequests = s.lockoutRequests := rfl
@[simp] theorem State.updPort_pending (p : Port) (f : PortState → PortState) : (s.updPort p f).pending = s.pending := rfl

end

/-! ### Reads after an update -/

section
variable (s : State)

@[simp] theorem State.updZone_group (z : ZoneId) (f : Zone → Zone) (g' : GroupId) : (s.updZone z f).group g' = s.group g' := rfl
@[simp] theorem State.updZone_hold (z : ZoneId) (f : Zone → Zone) (e' : EntryId) : (s.updZone z f).hold e' = s.hold e' := rfl
@[simp] theorem State.updZone_meter (z : ZoneId) (f : Zone → Zone) (h' : HeaderId) : (s.updZone z f).meter h' = s.meter h' := rfl
@[simp] theorem State.updZone_port (z : ZoneId) (f : Zone → Zone) (p' : Port) : (s.updZone z f).port p' = s.port p' := rfl
@[simp] theorem State.mapZones_group (f : ZoneId → Zone → Zone) (g' : GroupId) : (s.mapZones f).group g' = s.group g' := rfl
@[simp] theorem State.mapZones_hold (f : ZoneId → Zone → Zone) (e' : EntryId) : (s.mapZones f).hold e' = s.hold e' := rfl
@[simp] theorem State.mapZones_meter (f : ZoneId → Zone → Zone) (h' : HeaderId) : (s.mapZones f).meter h' = s.meter h' := rfl
@[simp] theorem State.mapZones_port (f : ZoneId → Zone → Zone) (p' : Port) : (s.mapZones f).port p' = s.port p' := rfl
@[simp] theorem State.updGroup_zone (g : GroupId) (f : Group → Group) (z' : ZoneId) : (s.updGroup g f).zone z' = s.zone z' := rfl
@[simp] theorem State.updGroup_hold (g : GroupId) (f : Group → Group) (e' : EntryId) : (s.updGroup g f).hold e' = s.hold e' := rfl
@[simp] theorem State.updGroup_meter (g : GroupId) (f : Group → Group) (h' : HeaderId) : (s.updGroup g f).meter h' = s.meter h' := rfl
@[simp] theorem State.updGroup_port (g : GroupId) (f : Group → Group) (p' : Port) : (s.updGroup g f).port p' = s.port p' := rfl
@[simp] theorem State.setHold_zone (e : EntryId) (h : Hold) (z' : ZoneId) : (s.setHold e h).zone z' = s.zone z' := rfl
@[simp] theorem State.setHold_group (e : EntryId) (h : Hold) (g' : GroupId) : (s.setHold e h).group g' = s.group g' := rfl
@[simp] theorem State.setHold_meter (e : EntryId) (h : Hold) (h' : HeaderId) : (s.setHold e h).meter h' = s.meter h' := rfl
@[simp] theorem State.setHold_port (e : EntryId) (h : Hold) (p' : Port) : (s.setHold e h).port p' = s.port p' := rfl
@[simp] theorem State.updMeter_zone (h : HeaderId) (f : Meter → Meter) (z' : ZoneId) : (s.updMeter h f).zone z' = s.zone z' := rfl
@[simp] theorem State.updMeter_group (h : HeaderId) (f : Meter → Meter) (g' : GroupId) : (s.updMeter h f).group g' = s.group g' := rfl
@[simp] theorem State.updMeter_hold (h : HeaderId) (f : Meter → Meter) (e' : EntryId) : (s.updMeter h f).hold e' = s.hold e' := rfl
@[simp] theorem State.updMeter_port (h : HeaderId) (f : Meter → Meter) (p' : Port) : (s.updMeter h f).port p' = s.port p' := rfl
@[simp] theorem State.updPort_zone (p : Port) (f : PortState → PortState) (z' : ZoneId) : (s.updPort p f).zone z' = s.zone z' := rfl
@[simp] theorem State.updPort_group (p : Port) (f : PortState → PortState) (g' : GroupId) : (s.updPort p f).group g' = s.group g' := rfl
@[simp] theorem State.updPort_hold (p : Port) (f : PortState → PortState) (e' : EntryId) : (s.updPort p f).hold e' = s.hold e' := rfl
@[simp] theorem State.updPort_meter (p : Port) (f : PortState → PortState) (h' : HeaderId) : (s.updPort p f).meter h' = s.meter h' := rfl

/-- A zone record read after a change of one record. -/
theorem State.zone_updZone (z z' : ZoneId) (f : Zone → Zone) :
    (s.updZone z f).zone z' = if z' = z then f (s.zone z) else s.zone z' := by
  unfold State.zone State.updZone
  by_cases h : z' = z
  · subst h; simp [State.zone]
  · have h' : (z : Nat) ≠ z' := fun e => h (Fin.ext e.symm)
    simp [h, h']

@[simp] theorem State.zone_updZone_same (z : ZoneId) (f : Zone → Zone) : (s.updZone z f).zone z = f (s.zone z) := by
  simp [State.zone_updZone]

theorem State.zone_updZone_other {z z' : ZoneId} (f : Zone → Zone) (h : z' ≠ z) : (s.updZone z f).zone z' = s.zone z' := by
  simp [State.zone_updZone, h]

theorem tabulate_get {α : Type} {n : Nat} (f : Fin n → α) (i : Fin n) : (tabulate f)[i] = f i := by
  simp [tabulate]

@[simp] theorem State.zone_mapZones (f : ZoneId → Zone → Zone) (z : ZoneId) : (s.mapZones f).zone z = f z (s.zone z) := by
  unfold State.mapZones
  exact tabulate_get (fun z => f z (s.zone z)) z

theorem State.group_updGroup (g g' : GroupId) (f : Group → Group) :
    (s.updGroup g f).group g' = if g' = g then f (s.group g) else s.group g' := by
  unfold State.group State.updGroup
  by_cases h : g' = g
  · subst h; simp [State.group]
  · have h' : (g : Nat) ≠ g' := fun e => h (Fin.ext e.symm)
    simp [h, h']

theorem State.hold_setHold (e e' : EntryId) (h : Hold) : (s.setHold e h).hold e' = if e' = e then h else s.hold e' := by
  unfold State.hold State.setHold
  by_cases hh : e' = e
  · subst hh; simp
  · have h' : (e : Nat) ≠ e' := fun k => hh (Fin.ext k.symm)
    simp [hh, h']

theorem State.meter_updMeter (h h' : HeaderId) (f : Meter → Meter) :
    (s.updMeter h f).meter h' = if h' = h then f (s.meter h) else s.meter h' := by
  unfold State.meter State.updMeter
  by_cases hh : h' = h
  · subst hh; simp [State.meter]
  · have h'' : (h : Nat) ≠ h' := fun e => hh (Fin.ext e.symm)
    simp [hh, h'']

@[simp] theorem PerPort.get_map {α β : Type} (t : PerPort α) (f : α → β) (p : Port) : (t.map f).get p = f (t.get p) := by
  cases p <;> rfl

theorem PerPort.get_set {α : Type} (t : PerPort α) (p q : Port) (v : α) : (t.set p v).get q = if q = p then v else t.get q := by
  cases p <;> cases q <;> rfl

theorem State.port_updPort (p q : Port) (f : PortState → PortState) :
    (s.updPort p f).port q = if q = p then f (s.port p) else s.port q := PerPort.get_set _ _ _ _

@[simp] theorem State.port_updPort_same (p : Port) (f : PortState → PortState) : (s.updPort p f).port p = f (s.port p) := by
  simp [State.port_updPort]

theorem State.port_updPort_other {p q : Port} (f : PortState → PortState) (h : q ≠ p) : (s.updPort p f).port q = s.port q := by
  simp [State.port_updPort, h]

end

end Sys2Proof.Machine
end

