-- ==== Sys2Proof/Laws/Ops.lean ====
section
/-! SUPPORT. What posting, replying, completing, and going through lists can do: the lemmas later proofs cite in place of the definitions. -/

namespace Sys2Proof.Machine

/-! ### Posting -/

/-- A post changes the ports and nothing else. -/
theorem State.post_eq (s : State) (k : NoticeKind) (z : Option ZoneId) (h : Option HeaderId) (p : Option Port) (v : Option Int) :
    s.post k z h p v = { s with ports := (s.post k z h p v).ports } := by
  unfold State.post; split <;> rfl

/-- A post while the RESET line is asserted changes nothing (R186). -/
theorem State.post_while_reset {s : State} (hr : s.resetLow = true) (k : NoticeKind) (z : Option ZoneId) (h : Option HeaderId) (p : Option Port)
    (v : Option Int) : s.post k z h p v = s := by simp [State.post, hr]

/-- A port after a post with the RESET line released: the notice filed, with the stamp of the moment (R182). -/
theorem State.port_post {s : State} (hr : s.resetLow = false) (k : NoticeKind) (z : Option ZoneId) (h : Option HeaderId) (p : Option Port)
    (v : Option Int) (q : Port) : (s.post k z h p v).port q = (s.port q).file ⟨k, s.stamp, z, h, p, v⟩ := by
  simp [State.post, hr, State.port]

/-- A filing changes a port's notice queue and its overflow mark, and nothing else (R182). -/
theorem PortState.file_eq (n : Notice) (q : PortState) : q.file n = { q with notices := (q.file n).notices, overflow := (q.file n).overflow } := by
  unfold PortState.file
  split
  · split <;> rfl
  · rfl

/-- A filing keeps the bound of a queue (R182). -/
theorem PortState.file_bounded (n : Notice) {q : PortState} (h : q.notices.length ≤ 16) : (q.file n).notices.length ≤ 16 := by
  unfold PortState.file
  split
  · split
    · rename_i hl; simp [Config.noticeDepth] at hl ⊢; omega
    · exact h
  · exact h

section
variable (s : State) (k : NoticeKind) (z : Option ZoneId) (h : Option HeaderId) (p : Option Port) (v : Option Int)

@[simp] theorem State.post_zones : (s.post k z h p v).zones = s.zones := by rw [State.post_eq]
@[simp] theorem State.post_groups : (s.post k z h p v).groups = s.groups := by rw [State.post_eq]
@[simp] theorem State.post_ring : (s.post k z h p v).ring = s.ring := by rw [State.post_eq]
@[simp] theorem State.post_holds : (s.post k z h p v).holds = s.holds := by rw [State.post_eq]
@[simp] theorem State.post_energising : (s.post k z h p v).energising = s.energising := by rw [State.post_eq]
@[simp] theorem State.post_wetOrder : (s.post k z h p v).wetOrder = s.wetOrder := by rw [State.post_eq]
@[simp] theorem State.post_meters : (s.post k z h p v).meters = s.meters := by rw [State.post_eq]
@[simp] theorem State.post_supply : (s.post k z h p v).supply = s.supply := by rw [State.post_eq]
@[simp] theorem State.post_clock : (s.post k z h p v).clock = s.clock := by rw [State.post_eq]
@[simp] theorem State.post_climate : (s.post k z h p v).climate = s.climate := by rw [State.post_eq]
@[simp] theorem State.post_engine : (s.post k z h p v).engine = s.engine := by rw [State.post_eq]
@[simp] theorem State.post_planner : (s.post k z h p v).planner = s.planner := by rw [State.post_eq]
@[simp] theorem State.post_loads : (s.post k z h p v).loads = s.loads := by rw [State.post_eq]
@[simp] theorem State.post_lastServed : (s.post k z h p v).lastServed = s.lastServed := by rw [State.post_eq]
@[simp] theorem State.post_stopLow : (s.post k z h p v).stopLow = s.stopLow := by rw [State.post_eq]
@[simp] theorem State.post_resetLow : (s.post k z h p v).resetLow = s.resetLow := by rw [State.post_eq]
@[simp] theorem State.post_supplyInFlight : (s.post k z h p v).supplyInFlight = s.supplyInFlight := by rw [State.post_eq]
@[simp] theorem State.post_ceilingReportOwed : (s.post k z h p v).ceilingReportOwed = s.ceilingReportOwed := by rw [State.post_eq]
@[simp] theorem State.post_lockoutRequests : (s.post k z h p v).lockoutRequests = s.lockoutRequests := by rw [State.post_eq]
@[simp] theorem State.post_pending : (s.post k z h p v).pending = s.pending := by rw [State.post_eq]

@[simp] theorem State.post_zone (z' : ZoneId) : (s.post k z h p v).zone z' = s.zone z' := by simp [State.zone]
@[simp] theorem State.post_group (g : GroupId) : (s.post k z h p v).group g = s.group g := by simp [State.group]
@[simp] theorem State.post_hold (e : EntryId) : (s.post k z h p v).hold e = s.hold e := by simp [State.hold]
@[simp] theorem State.post_meter (h' : HeaderId) : (s.post k z h p v).meter h' = s.meter h' := by simp [State.meter]

end

/-! ### Replies -/

/-- A reply of any code but LINE-ERROR joins a queue with room (R169). -/
theorem State.reply_room {s : State} {p : Port} {r : Reply} (hc : r.code ≠ .lineError) (hl : (s.port p).replies.length < 4) :
    s.reply p r = s.updPort p fun q => { q with replies := q.replies ++ [r] } := by
  unfold State.reply State.updPort
  simp [hc, PortState.enqueue, Config.replyDepth, hl]

/-- A queue with a reply enqueued holds at most four (R169). -/
theorem PortState.enqueue_bounded (r : Reply) {q : PortState} (h : q.replies.length ≤ 4) : (q.enqueue r).replies.length ≤ 4 := by
  unfold PortState.enqueue
  split
  · rename_i hl; simp [Config.replyDepth] at hl ⊢; omega
  · exact h

/-- A reply changes one port. -/
theorem State.reply_port_other (s : State) {p q : Port} (r : Reply) (h : q ≠ p) : (s.reply p r).port q = s.port q := by
  unfold State.reply; exact State.port_updPort_other _ _ h

/-! ### Completion -/

/-- All that a completion can do: nothing, or the directive's effects with the mailbox EMPTY and the reply formed unless the port was reinitialised meanwhile (R170, R172). -/
theorem State.complete_cases (s : State) (p : Port) (d : Directive) (run : State → State × Answer) :
    s.complete p d run = s ∨
      ∃ broken, s.resetLow = false ∧ (s.port p).mailbox = .executing d broken ∧
        s.complete p d run =
          if broken.isSome then (run s).1.updPort p fun q => { q with mailbox := .empty }
          else ((run s).1.updPort p fun q => { q with mailbox := .empty }).reply p
            ⟨(run s).2.code, (run s).2.clamped, BitVec.ofNat 8 d.code, (run s).2.payload⟩ := by
  unfold State.complete
  split
  · exact .inl rfl
  · rename_i hr
    split
    · rename_i d' broken hm
      split
      · rename_i hd
        subst hd
        exact .inr ⟨broken, by simpa using hr, hm, rfl⟩
      · exact .inl rfl
    · exact .inl rfl
    · exact .inl rfl

/-- A completion that is due and whose reply is wanted (R172). -/
theorem State.complete_due {s : State} {p : Port} {d : Directive} (hr : s.resetLow = false) (hm : (s.port p).mailbox = .executing d none)
    (run : State → State × Answer) :
    s.complete p d run =
      ((run s).1.updPort p fun q => { q with mailbox := .empty }).reply p
        ⟨(run s).2.code, (run s).2.clamped, BitVec.ofNat 8 d.code, (run s).2.payload⟩ := by
  simp [State.complete, hr, hm]

/-- Without the directive EXECUTING there is nothing to complete (R172). -/
theorem State.complete_idle {s : State} {p : Port} {d : Directive} (hm : ∀ broken, (s.port p).mailbox ≠ .executing d broken)
    (run : State → State × Answer) : s.complete p d run = s := by
  rcases State.complete_cases s p d run with h | ⟨m, _, h, _⟩
  · exact h
  · exact absurd h (hm m)

/-! ### Going through lists -/

/-- What every step keeps, a walk over a list keeps. -/
theorem State.forZones_keeps {P : State → Prop} (f : ZoneId → State → State) (hf : ∀ z s, P s → P (f z s)) (zs : List ZoneId) (s : State)
    (h : P s) : P (s.forZones zs f) := by
  unfold State.forZones
  induction zs generalizing s with
  | nil => exact h
  | cons z rest ih => exact ih (f z s) (hf z s h)

/-- The same, for a step that keeps it at the zones of the list. -/
theorem State.forZones_keeps_mem {P : State → Prop} (f : ZoneId → State → State) (zs : List ZoneId) (hf : ∀ z ∈ zs, ∀ s, P s → P (f z s))
    (s : State) (h : P s) : P (s.forZones zs f) := by
  unfold State.forZones
  induction zs generalizing s with
  | nil => exact h
  | cons z rest ih =>
    exact ih (fun z' hz' => hf z' (List.mem_cons_of_mem _ hz')) (f z s) (hf z (List.mem_cons_self ..) s h)

/-- A walk relates its start and its end by any reflexive and transitive relation that every step keeps. -/
theorem State.forZones_rel {R : State → State → Prop} (hr : ∀ s, R s s) (ht : ∀ a b c, R a b → R b c → R a c) (f : ZoneId → State → State)
    (hf : ∀ z s, R s (f z s)) (zs : List ZoneId) (s : State) : R s (s.forZones zs f) :=
  State.forZones_keeps (P := R s) f (fun z t h => ht _ _ _ h (hf z t)) zs s (hr s)

/-- What every step of a selection keeps, the selection keeps. -/
theorem Progress.through_keeps {α : Type} {P : State → Prop} (f : State → α → Progress) (hf : ∀ a s, P s → P (f s a).state) (l : List α)
    (s : State) (h : P s) : P (Progress.through l f s).state := by
  unfold Progress.through
  have key : ∀ r : Progress, P r.state → P (l.foldl (fun r a => if r.ended then r else f r.state a) r).state := by
    induction l with
    | nil => exact fun r h => h
    | cons a rest ih =>
      intro r hr
      apply ih
      by_cases he : r.ended = true
      · simpa [he] using hr
      · simpa [he] using hf a r.state hr
  exact key ⟨s, false⟩ h

end Sys2Proof.Machine
end

