-- ==== Sys2Proof/Laws/Frames.lean ====
section
/-! SUPPORT. What opening, closing and shedding leave alone, and what a close command does to its channel: one lemma for each shared operation. -/

namespace Sys2Proof.Machine

/-! ### The frame of opening, closing and shedding -/

/-- The parts of a zone record that opening, closing and shedding leave alone. -/
structure Zone.SettledAs (x y : Zone) : Prop where
  programme : y.programme = x.programme
  pendingEdit : y.pendingEdit = x.pendingEdit
  lockout : y.lockout = x.lockout
  quotaVolume : y.quotaVolume = x.quotaVolume
  manualVolume : y.manualVolume = x.manualVolume
  frostVolume : y.frostVolume = x.frostVolume
  lastPeriodVolume : y.lastPeriodVolume = x.lastPeriodVolume
  effectiveQuota : y.effectiveQuota = x.effectiveQuota
  soakTimer : y.soakTimer = x.soakTimer
  admitted : y.admitted = x.admitted
  requiredFlow : y.requiredFlow = x.requiredFlow

theorem Zone.SettledAs.refl (x : Zone) : x.SettledAs x := ⟨rfl, rfl, rfl, rfl, rfl, rfl, rfl, rfl, rfl, rfl, rfl⟩

theorem Zone.SettledAs.trans {x y z : Zone} (h : x.SettledAs y) (k : y.SettledAs z) : x.SettledAs z :=
  ⟨k.1.trans h.1, k.2.trans h.2, k.3.trans h.3, k.4.trans h.4, k.5.trans h.5, k.6.trans h.6, k.7.trans h.7, k.8.trans h.8, k.9.trans h.9,
    k.10.trans h.10, k.11.trans h.11⟩

/-- What opening, closing and shedding leave alone in the whole part: `t` follows from `s` by such steps alone. -/
structure Quiet (s t : State) : Prop where
  groups : t.groups = s.groups
  ring : t.ring = s.ring
  holds : t.holds = s.holds
  clock : t.clock = s.clock
  climate : t.climate = s.climate
  engine : t.engine = s.engine
  loads : t.loads = s.loads
  lastServed : t.lastServed = s.lastServed
  stopLow : t.stopLow = s.stopLow
  resetLow : t.resetLow = s.resetLow
  supplyInFlight : t.supplyInFlight = s.supplyInFlight
  ceilingReportOwed : t.ceilingReportOwed = s.ceilingReportOwed
  lockoutRequests : t.lockoutRequests = s.lockoutRequests
  pending : t.pending = s.pending
  allotmentReached : t.planner.allotmentReached = s.planner.allotmentReached
  supply : t.supply = { s.supply with committed := t.supply.committed }
  zone : ∀ z, (s.zone z).SettledAs (t.zone z)
  meter : ∀ h, t.meter h = { s.meter h with settling := (t.meter h).settling, drawn := (t.meter h).drawn }
  port : ∀ p, t.port p = { s.port p with notices := (t.port p).notices, overflow := (t.port p).overflow }

theorem Quiet.refl (s : State) : Quiet s s where
  groups := rfl
  ring := rfl
  holds := rfl
  clock := rfl
  climate := rfl
  engine := rfl
  loads := rfl
  lastServed := rfl
  stopLow := rfl
  resetLow := rfl
  supplyInFlight := rfl
  ceilingReportOwed := rfl
  lockoutRequests := rfl
  pending := rfl
  allotmentReached := rfl
  supply := rfl
  zone := fun _ => .refl _
  meter := fun _ => rfl
  port := fun _ => rfl

theorem Quiet.trans {s t u : State} (h : Quiet s t) (k : Quiet t u) : Quiet s u where
  groups := k.groups.trans h.groups
  ring := k.ring.trans h.ring
  holds := k.holds.trans h.holds
  clock := k.clock.trans h.clock
  climate := k.climate.trans h.climate
  engine := k.engine.trans h.engine
  loads := k.loads.trans h.loads
  lastServed := k.lastServed.trans h.lastServed
  stopLow := k.stopLow.trans h.stopLow
  resetLow := k.resetLow.trans h.resetLow
  supplyInFlight := k.supplyInFlight.trans h.supplyInFlight
  ceilingReportOwed := k.ceilingReportOwed.trans h.ceilingReportOwed
  lockoutRequests := k.lockoutRequests.trans h.lockoutRequests
  pending := k.pending.trans h.pending
  allotmentReached := k.allotmentReached.trans h.allotmentReached
  supply := by rw [k.supply, h.supply]
  zone := fun z => (h.zone z).trans (k.zone z)
  meter := fun i => by rw [k.meter i, h.meter i]
  port := fun p => by rw [k.port p, h.port p]

/-- A change of one zone record that leaves the settled parts alone is quiet. -/
theorem State.updZone_quiet (s : State) (z : ZoneId) (f : Zone → Zone) (hf : (s.zone z).SettledAs (f (s.zone z))) : Quiet s (s.updZone z f) where
  groups := rfl
  ring := rfl
  holds := rfl
  clock := rfl
  climate := rfl
  engine := rfl
  loads := rfl
  lastServed := rfl
  stopLow := rfl
  resetLow := rfl
  supplyInFlight := rfl
  ceilingReportOwed := rfl
  lockoutRequests := rfl
  pending := rfl
  allotmentReached := rfl
  supply := rfl
  zone := fun z' => by
    rw [State.zone_updZone]
    split
    · subst_vars; exact hf
    · exact .refl _
  meter := fun _ => rfl
  port := fun _ => rfl

/-- A change of the two orders, the committed flow, the suspended list, the pointer and the round count is quiet. -/
theorem State.accounts_quiet (s : State) (energising wetOrder : List ZoneId) (committed : Flows) (pointer round : Nat) (suspended : List ZoneId) :
    Quiet s
      { s with
        energising := energising
        wetOrder := wetOrder
        supply := { s.supply with committed := committed }
        planner := { s.planner with pointer := pointer, round := round, suspended := suspended } } where
  groups := rfl
  ring := rfl
  holds := rfl
  clock := rfl
  climate := rfl
  engine := rfl
  loads := rfl
  lastServed := rfl
  stopLow := rfl
  resetLow := rfl
  supplyInFlight := rfl
  ceilingReportOwed := rfl
  lockoutRequests := rfl
  pending := rfl
  allotmentReached := rfl
  supply := rfl
  zone := fun _ => .refl _
  meter := fun _ => rfl
  port := fun _ => rfl

/-- A change of the settling and drawn marks of a header is quiet. -/
theorem State.updMeter_quiet (s : State) (h : HeaderId) (f : Meter → Meter)
    (hf : f (s.meter h) = { s.meter h with settling := (f (s.meter h)).settling, drawn := (f (s.meter h)).drawn }) : Quiet s (s.updMeter h f) where
  groups := rfl
  ring := rfl
  holds := rfl
  clock := rfl
  climate := rfl
  engine := rfl
  loads := rfl
  lastServed := rfl
  stopLow := rfl
  resetLow := rfl
  supplyInFlight := rfl
  ceilingReportOwed := rfl
  lockoutRequests := rfl
  pending := rfl
  allotmentReached := rfl
  supply := rfl
  zone := fun _ => .refl _
  meter := fun i => by
    rw [State.meter_updMeter]
    split
    · subst_vars; exact hf
    · rfl
  port := fun _ => rfl

/-- A post is quiet. -/
theorem State.post_quiet (s : State) (k : NoticeKind) (z : Option ZoneId) (h : Option HeaderId) (p : Option Port) (v : Option Int) :
    Quiet s (s.post k z h p v) := by
  by_cases hr : s.resetLow = true
  · rw [State.post_while_reset hr]; exact .refl s
  · have hr : s.resetLow = false := by simpa using hr
    exact
      { groups := by simp, ring := by simp, holds := by simp, clock := by simp, climate := by simp, engine := by simp, loads := by simp
        lastServed := by simp, stopLow := by simp, resetLow := by simp, supplyInFlight := by simp, ceilingReportOwed := by simp
        lockoutRequests := by simp, pending := by simp, allotmentReached := by simp, supply := by simp
        zone := fun z' => by simpa using Zone.SettledAs.refl _
        meter := fun i => by simp
        port := fun q => by rw [State.port_post hr]; exact PortState.file_eq _ _ }

/-- A walk over a list is quiet where its steps are. -/
theorem State.forZones_quiet (f : ZoneId → State → State) (hf : ∀ z s, Quiet s (f z s)) (zs : List ZoneId) (s : State) : Quiet s (s.forZones zs f) :=
  State.forZones_rel Quiet.refl (fun _ _ _ => Quiet.trans) f hf zs s

/-! ### Closing -/

theorem State.endVisit_quiet (s : State) (z : ZoneId) (o : VisitOutcome) : Quiet s (s.endVisit z o) := by
  unfold State.endVisit
  cases o with
  | complete => exact s.updZone_quiet z _ ⟨rfl, rfl, rfl, rfl, rfl, rfl, rfl, rfl, rfl, rfl, rfl⟩
  | dropped => exact s.updZone_quiet z _ ⟨rfl, rfl, rfl, rfl, rfl, rfl, rfl, rfl, rfl, rfl, rfl⟩
  | suspended =>
    simp only
    split
    · exact (s.updZone_quiet z _ ⟨rfl, rfl, rfl, rfl, rfl, rfl, rfl, rfl, rfl, rfl, rfl⟩).trans (State.accounts_quiet _ _ _ _ _ _ _)
    · exact s.updZone_quiet z _ ⟨rfl, rfl, rfl, rfl, rfl, rfl, rfl, rfl, rfl, rfl, rfl⟩

theorem State.endOpenVisit_quiet (s : State) (z : ZoneId) (o : VisitOutcome) : Quiet s (s.endOpenVisit z o) := by
  unfold State.endOpenVisit
  split
  · exact s.endVisit_quiet z o
  · exact .refl s

theorem State.endFrostVisit_quiet (s : State) (z : ZoneId) : Quiet s (s.endFrostVisit z) :=
  s.updZone_quiet z _ ⟨rfl, rfl, rfl, rfl, rfl, rfl, rfl, rfl, rfl, rfl, rfl⟩

theorem State.markSettling_quiet (s : State) (h : Option HeaderId) : Quiet s (s.markSettling h) := by
  unfold State.markSettling
  cases h with
  | none => exact .refl s
  | some h => exact s.updMeter_quiet h _ rfl

theorem State.startDryClock_quiet (s : State) (z : ZoneId) (w : Bool) : Quiet s (s.startDryClock z w) := by
  unfold State.startDryClock
  split
  · exact s.updZone_quiet z _ ⟨rfl, rfl, rfl, rfl, rfl, rfl, rfl, rfl, rfl, rfl, rfl⟩
  · exact .refl s

theorem State.takeClosing_quiet (s : State) (z : ZoneId) (tag : Option UseTag) (e : Ending) (w : Bool) : Quiet s (s.takeClosing z tag e w) := by
  unfold State.takeClosing
  refine Quiet.trans ?_ (State.startDryClock_quiet _ z w)
  rcases tag with _ | (_ | _ | _)
  · exact .refl s
  · exact s.endOpenVisit_quiet z _
  · exact .refl s
  · exact s.endFrostVisit_quiet z

/-- A close command is quiet (R40). -/
theorem State.closeChannel_quiet (s : State) (z : ZoneId) (e : Ending) : Quiet s (s.closeChannel z e) := by
  unfold State.closeChannel
  simp only
  split
  · refine Quiet.trans ?_ (State.takeClosing_quiet _ z _ e _)
    refine Quiet.trans ?_ (State.markSettling_quiet _ _)
    exact (s.updZone_quiet z _ ⟨rfl, rfl, rfl, rfl, rfl, rfl, rfl, rfl, rfl, rfl, rfl⟩).trans (State.accounts_quiet _ _ _ _ _ _ _)
  · exact .refl s

theorem State.closeTagged_quiet (s : State) (tag : UseTag) (e : Ending) : Quiet s (s.closeTagged tag e) := by
  refine State.forZones_quiet _ (fun z t => ?_) _ s
  split
  · exact t.closeChannel_quiet z e
  · exact .refl t

theorem State.closeAll_quiet (s : State) (e : Ending) : Quiet s (s.closeAll e) := State.forZones_quiet _ (fun z t => t.closeChannel_quiet z e) _ s

theorem State.closeVisits_quiet (s : State) (sel : Zone → Bool) (e : Ending) : Quiet s (s.closeVisits sel e) := by
  refine State.forZones_quiet _ (fun z t => ?_) _ s
  split
  · exact t.closeChannel_quiet z e
  · exact .refl t

/-- Entry to WET is quiet (R39). -/
theorem State.enterWet_quiet (s : State) (z : ZoneId) : Quiet s (s.enterWet z) := by
  unfold State.enterWet
  exact (s.updZone_quiet z _ ⟨rfl, rfl, rfl, rfl, rfl, rfl, rfl, rfl, rfl, rfl, rfl⟩).trans (State.accounts_quiet _ _ _ _ _ _ _)

/-! ### Shedding -/

theorem State.shed_quiet (s : State) (port : Option Port) (z : ZoneId) : Quiet s (s.shed port z) :=
  (s.closeChannel_quiet z .shed).trans (State.post_quiet _ _ _ _ _ _)

theorem State.shedStep_quiet (s : State) (port : Option Port) (z : ZoneId) : Quiet s (s.shedStep port z) := by
  unfold State.shedStep
  split
  · exact s.shed_quiet port z
  · exact .refl s

/-- The shed walk is quiet (R85). -/
theorem State.shedWalk_quiet (s : State) (port : Option Port) : Quiet s (s.shedWalk port) :=
  State.forZones_quiet _ (fun z t => t.shedStep_quiet port z) _ s

/-! ### Opening -/

theorem State.openingReports_quiet (s : State) (p : Programme) : Quiet s (s.openingReports p) := by
  unfold State.openingReports
  refine Quiet.trans (Quiet.trans ?_ (State.shedWalk_quiet _ none)) (State.updMeter_quiet _ _ _ rfl)
  exact State.accounts_quiet s _ _ _ _ _ _

/-- The open command is quiet (R38). -/
theorem State.openChannel_quiet (s : State) (z : ZoneId) (tag : UseTag) : Quiet s (s.openChannel z tag) := by
  unfold State.openChannel
  split
  · exact .refl s
  · rename_i p _
    split
    · have h1 : Quiet s (s.updZone z fun x => x.opening p tag) :=
        s.updZone_quiet z _ ⟨rfl, rfl, rfl, rfl, rfl, rfl, rfl, rfl, rfl, rfl, rfl⟩
      have h2 := h1.trans
        ((State.accounts_quiet (s.updZone z fun x => x.opening p tag) (s.energising ++ [z]) s.wetOrder s.supply.committed s.planner.pointer
          s.planner.round s.planner.suspended).trans (State.openingReports_quiet _ p))
      simp only
      split
      · exact h2.trans (State.enterWet_quiet _ z)
      · exact h2
    · exact .refl s

theorem State.newVisit_quiet (s : State) (z : ZoneId) (p : Programme) : Quiet s (s.newVisit z p) :=
  (s.updZone_quiet z _ ⟨rfl, rfl, rfl, rfl, rfl, rfl, rfl, rfl, rfl, rfl, rfl⟩).trans (State.openChannel_quiet _ _ _)

theorem State.continueVisit_quiet (s : State) (z : ZoneId) (p : Programme) : Quiet s (s.continueVisit z p) :=
  ((s.updZone_quiet z _ ⟨rfl, rfl, rfl, rfl, rfl, rfl, rfl, rfl, rfl, rfl, rfl⟩).trans (State.accounts_quiet _ _ _ _ _ _ _)).trans
    (State.openChannel_quiet _ _ _)

theorem State.frostVisit_quiet (s : State) (z : ZoneId) (p : Programme) : Quiet s (s.frostVisit z p) :=
  (s.updZone_quiet z _ ⟨rfl, rfl, rfl, rfl, rfl, rfl, rfl, rfl, rfl, rfl, rfl⟩).trans (State.openChannel_quiet _ _ _)

/-! ### Other channels -/

section
variable (s : State) {z z' : ZoneId}

theorem State.endVisit_zone_other (o : VisitOutcome) (h : z' ≠ z) : (s.endVisit z o).zone z' = s.zone z' := by
  cases o with
  | complete => exact s.zone_updZone_other _ h
  | dropped => exact s.zone_updZone_other _ h
  | suspended =>
    unfold State.endVisit
    simp only
    split
    · have k := s.zone_updZone_other (fun x => { x with visit := .suspended, guardTimer := none }) h
      simpa only [State.zone] using k
    · exact s.zone_updZone_other _ h

theorem State.leaveOrders_zone (y : ZoneId) : (s.leaveOrders z).zone y = s.zone y := rfl

theorem State.markSettling_zone (h : Option HeaderId) (y : ZoneId) : (s.markSettling h).zone y = s.zone y := by
  cases h <;> rfl

theorem State.startDryClock_zone_other (w : Bool) (h : z' ≠ z) : (s.startDryClock z w).zone z' = s.zone z' := by
  unfold State.startDryClock
  split
  · exact s.zone_updZone_other _ h
  · rfl

theorem State.endOpenVisit_zone_other (o : VisitOutcome) (h : z' ≠ z) : (s.endOpenVisit z o).zone z' = s.zone z' := by
  unfold State.endOpenVisit
  split
  · exact s.endVisit_zone_other o h
  · rfl

theorem State.takeClosing_zone_other (tag : Option UseTag) (e : Ending) (w : Bool) (h : z' ≠ z) :
    (s.takeClosing z tag e w).zone z' = s.zone z' := by
  unfold State.takeClosing
  rw [State.startDryClock_zone_other _ w h]
  rcases tag with _ | (_ | _ | _)
  · rfl
  · exact s.endOpenVisit_zone_other _ h
  · rfl
  · exact s.zone_updZone_other _ h

/-- A close command changes no other zone record (R40). -/
theorem State.closeChannel_zone_other (e : Ending) (h : z' ≠ z) : (s.closeChannel z e).zone z' = s.zone z' := by
  unfold State.closeChannel
  simp only
  split
  · rw [State.takeClosing_zone_other _ _ e _ h, State.markSettling_zone, State.leaveOrders_zone]
    exact s.zone_updZone_other _ h
  · rfl

/-- A close command on a channel that is not open changes nothing (R40). -/
theorem State.closeChannel_shut (e : Ending) (h : (s.zone z).isOpen = false) : s.closeChannel z e = s := by
  unfold State.closeChannel
  simp [h]

end

/-! ### What a close command does to its channel -/

section
variable {s : State} {z : ZoneId}

theorem State.endVisit_channel (o : VisitOutcome) :
    ((s.endVisit z o).zone z).valve = (s.zone z).valve ∧ ((s.endVisit z o).zone z).useTag = (s.zone z).useTag ∧
      ((s.endVisit z o).zone z).closeTimer = (s.zone z).closeTimer ∧ ((s.endVisit z o).zone z).energised = (s.zone z).energised ∧
      ((s.endVisit z o).zone z).endedBy = (s.zone z).endedBy ∧
      (s.endVisit z o).energising = s.energising ∧ (s.endVisit z o).wetOrder = s.wetOrder := by
  cases o with
  | complete => simp [State.endVisit, Zone.noVisit]
  | dropped => simp [State.endVisit, Zone.noVisit]
  | suspended =>
    unfold State.endVisit
    simp only
    split
    · have hz := s.zone_updZone_same z fun x => { x with visit := .suspended, guardTimer := none }
      simp only [State.zone] at hz ⊢
      simp [hz]
    · simp [Zone.noVisit]

/-- An open channel that takes a close command is in CLOSING with its close time running and its use tag kept, out of both orders, the cause
recorded (R37, R40). -/
theorem State.closeChannel_channel (e : Ending) (h : (s.zone z).isOpen = true) :
    ((s.closeChannel z e).zone z).valve = .closing ∧ ((s.closeChannel z e).zone z).useTag = (s.zone z).useTag ∧
      ((s.closeChannel z e).zone z).closeTimer = some (s.zone z).closeSeconds ∧ ((s.closeChannel z e).zone z).energised = false ∧
      ((s.closeChannel z e).zone z).endedBy = some e ∧
      (s.closeChannel z e).energising = s.energising.filter (fun i => decide (i ≠ z)) ∧
      (s.closeChannel z e).wetOrder = s.wetOrder.filter (fun i => decide (i ≠ z)) := by
  have key : ∀ t : State, ∀ w : Bool, ∀ tag : Option UseTag,
      let u := t.takeClosing z tag e w
      (u.zone z).valve = (t.zone z).valve ∧ (u.zone z).useTag = (t.zone z).useTag ∧ (u.zone z).closeTimer = (t.zone z).closeTimer ∧
        (u.zone z).energised = (t.zone z).energised ∧ (u.zone z).endedBy = (t.zone z).endedBy ∧ u.energising = t.energising ∧
        u.wetOrder = t.wetOrder := by
    intro t w tag
    have dry : ∀ a : State, ((a.startDryClock z w).zone z).valve = (a.zone z).valve ∧
        ((a.startDryClock z w).zone z).useTag = (a.zone z).useTag ∧ ((a.startDryClock z w).zone z).closeTimer = (a.zone z).closeTimer ∧
        ((a.startDryClock z w).zone z).energised = (a.zone z).energised ∧ ((a.startDryClock z w).zone z).endedBy = (a.zone z).endedBy ∧
        (a.startDryClock z w).energising = a.energising ∧ (a.startDryClock z w).wetOrder = a.wetOrder := by
      intro a
      unfold State.startDryClock
      split <;> simp
    rcases tag with _ | (_ | _ | _)
    · exact dry t
    · have ends : ((t.endOpenVisit z e.visitOutcome).zone z).valve = (t.zone z).valve ∧
          ((t.endOpenVisit z e.visitOutcome).zone z).useTag = (t.zone z).useTag ∧
          ((t.endOpenVisit z e.visitOutcome).zone z).closeTimer = (t.zone z).closeTimer ∧
          ((t.endOpenVisit z e.visitOutcome).zone z).energised = (t.zone z).energised ∧
          ((t.endOpenVisit z e.visitOutcome).zone z).endedBy = (t.zone z).endedBy ∧
          (t.endOpenVisit z e.visitOutcome).energising = t.energising ∧ (t.endOpenVisit z e.visitOutcome).wetOrder = t.wetOrder := by
        unfold State.endOpenVisit
        split
        · exact State.endVisit_channel _
        · exact ⟨rfl, rfl, rfl, rfl, rfl, rfl, rfl⟩
      obtain ⟨a1, a2, a3, a4, a5, a6, a7⟩ := dry (t.endOpenVisit z e.visitOutcome)
      obtain ⟨b1, b2, b3, b4, b5, b6, b7⟩ := ends
      exact ⟨a1.trans b1, a2.trans b2, a3.trans b3, a4.trans b4, a5.trans b5, a6.trans b6, a7.trans b7⟩
    · exact dry t
    · obtain ⟨a1, a2, a3, a4, a5, a6, a7⟩ := dry (t.endFrostVisit z)
      unfold State.endFrostVisit at a1 a2 a3 a4 a5 a6 a7
      simp only [State.zone_updZone_same] at a1 a2 a3 a4 a5
      exact ⟨a1, a2, a3, a4, a5, a6, a7⟩
  unfold State.closeChannel
  simp only [h, if_true]
  obtain ⟨a1, a2, a3, a4, a5, a6, a7⟩ :=
    key (((s.updZone z fun x => x.closing e).leaveOrders z).markSettling (s.zone z).openedHeader) (decide ((s.zone z).valve = .wet)) (s.zone z).useTag
  have hz : (((s.updZone z fun x => x.closing e).leaveOrders z).markSettling (s.zone z).openedHeader).zone z = (s.zone z).closing e := by
    unfold State.markSettling
    cases (s.zone z).openedHeader <;> exact s.zone_updZone_same z fun x => x.closing e
  have ho : (((s.updZone z fun x => x.closing e).leaveOrders z).markSettling (s.zone z).openedHeader).energising =
        s.energising.filter (fun i => decide (i ≠ z)) ∧
      (((s.updZone z fun x => x.closing e).leaveOrders z).markSettling (s.zone z).openedHeader).wetOrder =
        s.wetOrder.filter (fun i => decide (i ≠ z)) := by
    unfold State.markSettling
    cases (s.zone z).openedHeader <;> exact ⟨rfl, rfl⟩
  rw [hz] at a1 a2 a3 a4 a5
  exact ⟨a1, a2, a3, a4, a5, a6.trans ho.1, a7.trans ho.2⟩

end

end Sys2Proof.Machine
end

