-- ==== Sys2Proof/Laws/Waiting.lean ====
section
/-! SUPPORT. What waits and is taken later: supply events in flight, reports owed, lockout requests, hold checks after a break; and the tests of the blocks as the rules put
them. -/

namespace Sys2Proof.Machine

/-! ### Supply events in flight -/

/-- A point passes with nothing in flight: nothing happens (R87; log entry 10). -/
@[simp] theorem State.passPoint_none {s : State} (h : s.supplyInFlight = []) : s.passPoint = s := by
  unfold State.passPoint
  simp only [h, List.filter_nil, List.foldl_nil, List.map_nil]
  cases s
  cases h
  rfl

/-- The opening test with nothing in flight (R77). -/
theorem State.ifFits_none {s : State} (h : s.supplyInFlight = []) (x : Programme) (f g : State → State) :
    s.ifFits x f g = if s.fits x then ⟨f s, false⟩ else ⟨g s, true⟩ := by
  simp [State.ifFits, h]

/-- Where no report is owed, none is made (R84). -/
@[simp] theorem State.reportTurns_none {s : State} (h : s.ceilingReportOwed = false) (n : Nat) : s.reportTurns n = s := by
  cases n <;> simp [State.reportTurns, h]

/-- A selection that leaves no report owed is the one walk (R124). -/
theorem State.select_of_none {s : State} (h : s.selectOnce.ceilingReportOwed = false) : s.select = s.selectOnce := by
  simp [State.select, State.reportAfter, h]

/-- The report of a ceiling change that was not made (R84). -/
@[simp] theorem State.reportCeilings_none {s : State} (h : s.ceilingReportOwed = false) : s.reportCeilings = s := by
  simp [State.reportCeilings, h]

/-- All that sending a supply event into a selection can do (log entry 10). -/
theorem State.sendInto_cases (s : State) (ev : SupplyEvent) (n : Nat) (due : Bool) :
    s.sendInto ev n due = s ∨ s.sendInto ev n due = { s with supplyInFlight := s.supplyInFlight ++ [⟨ev, n⟩] } := by
  cases due <;> simp [State.sendInto]

/-! ### Take-up -/

/-- All that a take-up can do: nothing, or one PENDING directive becomes EXECUTING while no other is, and its port the last-served one (R173). -/
theorem State.takeUp_cases (s : State) :
    s.takeUp = s ∨
      ∃ p d, s.arbiterBusy = false ∧ s.nextInTurn = some (p, d) ∧
        s.takeUp = { s.updPort p (fun q => { q with mailbox := .executing d none }) with lastServed := p } := by
  unfold State.takeUp
  split
  · exact .inl rfl
  · rename_i hb
    split
    · rename_i p d hn
      exact .inr ⟨p, d, by simpa using hb, hn, rfl⟩
    · exact .inl rfl

/-! ### Lockout requests -/

/-- All that taking a lockout request from its way can do: nothing, or the oldest one leaves and acts on its zone (R45; log entry 28). -/
theorem State.takeLockoutRequest_cases (s : State) :
    s.takeLockoutRequest = s ∨
      ∃ r rest, s.resetLow = false ∧ s.lockoutRequests = r :: rest ∧
        s.takeLockoutRequest = State.requestLockout { s with lockoutRequests := rest } r.zone r.kind := by
  unfold State.takeLockoutRequest
  split
  · exact .inl rfl
  · rename_i r rest h
    by_cases hr : s.resetLow = true
    · exact .inl (by simp [State.live, hr])
    · exact .inr ⟨r, rest, by simpa using hr, h, by simp [State.live, hr]⟩

/-- A lockout that the zone carries already keeps its kind, and the request does nothing (R44, R45). -/
theorem State.requestLockout_locked {s : State} {z : ZoneId} (h : (s.zone z).lockout ≠ none) (k : Lockout) : s.requestLockout z k = s := by
  simp [State.requestLockout, h]

/-! ### Hold checks -/

/-- Every group is held: the check goes on (R13, R27). -/
theorem State.requireGroups_held {s : State} {p : Port} {gs : List GroupId} (h : ∀ g ∈ gs, s.hold (groupEntry g) = .held p) (run : State × Answer) :
    s.requireGroups p gs run = run := by
  have hn : s.firstNotHeld p gs = none := by simpa [State.firstNotHeld] using h
  simp [State.requireGroups, hn]

/-- All that the check of groups can do: it goes on with every group held, or refuses and changes nothing (R13, R27). -/
theorem State.requireGroups_cases (s : State) (p : Port) (gs : List GroupId) (run : State × Answer) :
    (s.requireGroups p gs run = run ∧ ∀ g ∈ gs, s.hold (groupEntry g) = .held p) ∨
      ∃ g ∈ gs, s.hold (groupEntry g) ≠ .held p ∧
        s.requireGroups p gs run = (s, .naming (if s.hold (groupEntry g) = .releasing p then .releasing else .notHolder) g) := by
  unfold State.requireGroups
  cases h : s.firstNotHeld p gs with
  | none => exact .inl ⟨rfl, by simpa [State.firstNotHeld] using h⟩
  | some g =>
    exact .inr ⟨g, List.mem_of_find?_eq_some h, by simpa using List.find?_some h, rfl⟩

/-- The check of the plan hold reads the table alone (R9, R27). -/
theorem State.requirePlan_eq (s : State) (p : Port) (run : State × Answer) :
    s.requirePlan p run = if s.hold planEntry = .held p then run else (s, .naming .notHolder planEntry) := by
  simp [State.requirePlan, State.requirePlanIf]

/-- Without a break under a SET-METER or a SET-PERIOD, its check reads the table alone too (R27). -/
theorem State.requirePlanOverBreak_unbroken {s : State} {p : Port} {d : Directive} (h : (s.port p).mailbox = .executing d none) (run : State × Answer) :
    s.requirePlanOverBreak p run = s.requirePlan p run := by
  simp [State.requirePlanOverBreak, State.requirePlan, State.heldPlanFor, h, Mailbox.heldPlanAtBreak]

/-- After a break that found the plan hold held, the check passes (R55, R91; log entry 29). -/
theorem State.requirePlanOverBreak_broken {s : State} {p : Port} {d : Directive} (h : (s.port p).mailbox = .executing d (some true)) (run : State × Answer) :
    s.requirePlanOverBreak p run = run := by
  simp [State.requirePlanOverBreak, State.requirePlanIf, State.heldPlanFor, h, Mailbox.heldPlanAtBreak]

/-! ### Tests as the rules put them -/

/-- The opening test answers FITS where there is room (R77). -/
theorem State.fits_iff (s : State) (x : Programme) : s.fits x = true ↔ s.hasRoom x := by
  unfold State.fits State.hasRoom State.headroom State.totalHeadroom
  rw [decide_eq_true_iff]
  constructor <;> rintro ⟨h, k⟩ <;> constructor <;> omega

/-- The window test follows the table of R95. -/
theorem windowOpenAt_iff (valid : Bool) (start finish m : Nat) : windowOpenAt valid start finish m = true ↔ inSpan valid start finish m := by
  unfold windowOpenAt inSpan
  by_cases he : start = finish
  · simp [he]
  · cases valid
    · simp [he]
    · by_cases hl : start < finish
      · simp [he, hl]; omega
      · simp [he, hl]; omega

/-- Eligibility is the nine conditions of R128. -/
theorem State.eligible_iff (s : State) (z : ZoneId) : s.eligible z = true ↔ ∃ x, s.mayRotate z x := by
  unfold State.eligible State.mayRotate
  cases h : (s.zone z).programme with
  | none => simp [h]
  | some x => simp [h, and_assoc]

end Sys2Proof.Machine
end

