-- ==== Sys2Proof/Tests/Slice0.lean ====
section
/-! SUPPORT. Tests of one step each, with results taken from the rules named; ill-formed commands; frames written out from R171; and, for each statement with hypotheses,
a state and operands that meet them. -/

namespace Sys2Proof.Tests

open Sys2Proof.Machine

set_option Elab.async false

/-! ### Helpers -/

/-- The state after a command. -/
def after (i : Instr) (s : State) : State :=
  match exec i s with
  | .next t => t
  | .fault _ => s
  | .refused _ => s

/-- The state with the port's mailbox EXECUTING the directive. -/
def busy (s : State) (p : Port) (d : Directive) : State := s.updPort p fun q => { q with mailbox := .executing d none }

/-- The state with the port's mailbox EXECUTING the directive over a break that found the plan hold held, or not. -/
def overBreak (s : State) (p : Port) (d : Directive) (held : Bool) : State :=
  s.updPort p fun q => { q with mailbox := .executing d (some held) }

/-- Strict mode at the port. -/
def strict (s : State) (p : Port) : State := s.updPort p fun q => { q with strict := true }

/-- Every entry held by the port. -/
def holding (s : State) (p : Port) : State := { s with holds := Vector.replicate 9 (.held p) }

/-- A programme of header 0 and group 0. -/
def sample : Programme := ⟨0, 0, true, 100, 10, 5, 50, 3, 60, true, 1, 60, 600⟩

/-- Its fields as EDIT-ZONE carries them. -/
def sampleFields : ZoneFields := ⟨0, 0, 1, 100, 10, 5, 50, 3, 60, 1, 1, 60, 600⟩

/-- Zone 3 defined, ceilings of 1000 everywhere. -/
def base : State :=
  { State.reset.updZone 3 (fun x => { x with programme := some sample, cyclesRemaining := 3, effectiveQuota := 50 }) with
    ring := [3]
    supply := ⟨⟨1000, Vector.replicate 4 1000⟩, ⟨500, Vector.replicate 4 500⟩, .zero, .declared, some 0⟩ }

/-- Zone 3 in OPENING for a quota visit, under QUOTA. -/
def opening : State :=
  { base.updZone 3 (fun x =>
      { x with
        valve := .opening, energised := true, useTag := some .quota, fillTimer := some 0, senseTimer := some 0, opened := some ⟨0, 100⟩,
        visit := .openVisit, visitTarget := some 1700, guardTimer := some 0 }) with
    energising := [3]
    supply := { base.supply with committed := ⟨100, #v[100, 0, 0, 0]⟩ }
    engine := { base.engine with regime := .quota } }

/-- Zone 3 in WET for the purpose named, watched. -/
def wet (tag : UseTag) : State :=
  { opening.updZone 3 (fun x =>
      { x with
        valve := .wet, useTag := some tag, fillTimer := none, senseTimer := none, sensePhase := .watching, visit := .noVisit,
        visitTarget := none, guardTimer := none }) with
    energising := []
    wetOrder := [3]
    engine := { opening.engine with regime := .idle } }

/-- Zone 3 in CLOSING after a quota visit, the close timer run out. -/
def closing : State :=
  { opening.updZone 3 (fun x =>
      { x with
        valve := .closing, energised := false, fillTimer := none, senseTimer := none, closeTimer := some 0, visit := .noVisit, visitTarget := none,
        guardTimer := none, soakTimer := 65535 }) with
    energising := []
    engine := { opening.engine with regime := .idle } }

/-- The last reply in the port's queue. -/
def said (s : State) (p : Port) : Option Reply := (s.port p).replies.getLast?

/-- The last notice in the port's queue. -/
def told (s : State) (p : Port) : Option Notice := (s.port p).notices.getLast?

/-- What a directive of Port A is answered. -/
def answered (d : Directive) (i : Instr) (s : State) : Option Reply := said (after i (busy s .a d)) .a

/-- Straps all low. -/
def low : Straps := ⟨false, false, false, false, false, false⟩

/-- Frost armed by hand over a preempted QUOTA. -/
def armed : State :=
  { base with
    climate := { base.climate with frost := .armedManual }
    engine := { base.engine with regime := .frost, stack := [.quota 0 0] } }

/-! ### Ill-formed commands: a value one above what its bytes carry -/

theorem test_illformed_readings :
    (Instr.readZone .a 256).wellFormed = false ∧ (Instr.readGroup .a 256).wellFormed = false ∧ (Instr.readHeader .a 256).wellFormed = false ∧
      (Instr.selectZones .a 256 0).wellFormed = false ∧ (Instr.selectZones .a 0 256).wellFormed = false := by decide

theorem test_illformed_holds :
    (Instr.takeHold .a 256).wellFormed = false ∧ (Instr.releaseHold .a 256).wellFormed = false ∧ (Instr.breakHold .a 256).wellFormed = false := by
  decide

theorem test_illformed_zone_table :
    (Instr.editZone .a 256 sampleFields).wellFormed = false ∧
      (Instr.editZone .a 0 { sampleFields with quota := 16777216 }).wellFormed = false ∧ (Instr.clearZone .a 256).wellFormed = false ∧
      (Instr.setWindow .a 256 0 0).wellFormed = false ∧ (Instr.setWindow .a 0 65536 0).wellFormed = false ∧
      (Instr.setWindow .a 0 0 65536).wellFormed = false ∧ (Instr.setRing .a (List.replicate 33 0)).wellFormed = false ∧
      (Instr.setRing .a [256]).wellFormed = false := by decide

theorem test_illformed_settings :
    (Instr.setPeriod .a 256 0 0).wellFormed = false ∧ (Instr.setPeriod .a 1 65536 0).wellFormed = false ∧
      (Instr.setPeriod .a 1 0 4294967296).wellFormed = false ∧ (Instr.setMeter .a 256 ⟨1, 1, 5, 5, 1, 0⟩).wellFormed = false ∧
      (Instr.setMeter .a 0 ⟨256, 1, 5, 5, 1, 0⟩).wellFormed = false ∧ (Instr.setClock .a 65536 0).wellFormed = false ∧
      (Instr.setClock .a 0 16777216).wellFormed = false ∧ (Instr.setOptions .a 256 0 0 0 0).wellFormed = false ∧
      (Instr.narrowRights .a 0 0 0 256).wellFormed = false := by decide

theorem test_illformed_supply_and_climate :
    (Instr.declareSupply .a ⟨65536, 0, 0, 0, 0⟩ 30 .atOnce).wellFormed = false ∧ (Instr.declareSupply .a ⟨0, 0, 0, 0, 0⟩ 65536 .atOnce).wellFormed = false ∧
      (Instr.setFallback .a ⟨0, 0, 0, 0, 65536⟩ .atOnce).wellFormed = false ∧ (Instr.reportTemperature .a 32768).wellFormed = false ∧
      (Instr.reportTemperature .a (-32769)).wellFormed = false ∧ (Instr.setFrostLimits .a 128 0 0 60).wellFormed = false ∧
      (Instr.setFrostLimits .a 0 (-129) 0 60).wellFormed = false ∧ (Instr.setFrostLimits .a 0 5 65536 60).wellFormed = false ∧
      (Instr.setFrostLimits .a 0 5 0 65536).wellFormed = false := by decide

theorem test_illformed_engine_and_frames :
    (Instr.runManual .a (List.replicate 20 (0, 10))).wellFormed = false ∧ (Instr.runManual .a [(256, 10)]).wellFormed = false ∧
      (Instr.runManual .a [(0, 65536)]).wellFormed = false ∧ (Instr.closeZone .a 256).wellFormed = false ∧
      (Instr.clearLockout .a 256).wellFormed = false ∧ (Instr.frameComplete .a []).wellFormed = false ∧
      (Instr.frameComplete .a [0x00#8, 0x00#8]).wellFormed = false ∧ (Instr.frameComplete .a [0x01#8, 0x13#8]).wellFormed = false ∧
      (Instr.frameComplete .a (0x3D#8 :: List.replicate 62 0x00#8)).wellFormed = false := by decide

/-! ### Frames, byte by byte from R171 -/

theorem test_frame_read_ring : readFrame [0x01#8, 0x13#8, 0xEC#8] = .directive .readRing := by decide

theorem test_frame_take_hold : readFrame [0x02#8, 0x21#8, 0x08#8, 0xD5#8] = .directive (.takeHold 8) := by decide

theorem test_frame_set_window :
    readFrame [0x06#8, 0x25#8, 0x07#8, 0x05#8, 0x9F#8, 0x00#8, 0x3C#8, 0xEE#8] = .directive (.setWindow 7 1439 60) := by decide

theorem test_frame_edit_zone :
    readFrame [0x16#8, 0x23#8, 0x1F#8, 0x03#8, 0x07#8, 0x01#8, 0x17#8, 0x70#8, 0x02#8, 0x58#8, 0x78#8, 0x1E#8, 0x84#8, 0x80#8, 0x0F#8, 0x1C#8, 0x20#8,
        0x00#8, 0x20#8, 0x03#8, 0x84#8, 0x07#8, 0x08#8, 0x21#8] =
      .directive (.editZone 31 ⟨3, 7, 1, 6000, 600, 120, 2000000, 15, 7200, 0, 32, 900, 1800⟩) := by decide

theorem test_frame_set_ring : readFrame [0x04#8, 0x26#8, 0x02#8, 0x1F#8, 0x00#8, 0xB5#8] = .directive (.setRing [31, 0]) := by decide

theorem test_frame_declare_supply :
    readFrame [0x0D#8, 0x31#8, 0x4E#8, 0x20#8, 0x00#8, 0x64#8, 0x00#8, 0x00#8, 0x00#8, 0x00#8, 0x00#8, 0x00#8, 0x0E#8, 0x10#8, 0xD2#8] =
      .directive (.declareSupply ⟨20000, 100, 0, 0, 0⟩ 3600) := by decide

theorem test_frame_report_temperature : readFrame [0x03#8, 0x41#8, 0xFF#8, 0xFE#8, 0xBF#8] = .directive (.reportTemperature (-2)) := by decide

theorem test_frame_run_manual : readFrame [0x05#8, 0x53#8, 0x01#8, 0x03#8, 0x0E#8, 0x10#8, 0x86#8] = .directive (.runManual [(3, 3600)]) := by decide

theorem test_frame_set_clock :
    readFrame [0x06#8, 0x5B#8, 0x00#8, 0x01#8, 0x01#8, 0x51#8, 0x7F#8, 0xCD#8] = .directive (.setClock 1 86399) := by decide

theorem test_frame_refused :
    readFrame [0x01#8, 0x13#8, 0xED#8] = .badCheck ∧ readFrame [0x01#8, 0x10#8, 0xEF#8] = .unknown ∧
      readFrame [0x02#8, 0x13#8, 0x00#8, 0xEB#8] = .malformed ∧ readFrame [0x01#8, 0x61#8, 0x9E#8] = .withdraw := by decide

theorem test_no_word_spells_a_command : decodeTableWord 8 0 = none ∧ State.reset.withFetchWord 8 0 = State.reset := by decide +kernel

/-! ### Power, the RESET line and STOP -/

theorem test_power_on :
    ((after (.powerOn ⟨true, false, true, false, true, false⟩ low low) { wet .quota with stopLow := true }).zone 3).valve = .shut ∧
      (after (.powerOn ⟨true, false, true, false, true, false⟩ low low) { wet .quota with stopLow := true }).engine.stopCause = some .stopLine ∧
      ((after (.powerOn ⟨true, false, true, false, true, false⟩ low low) base).port .a).rate = .r38400 := by decide +kernel

theorem test_reset_asserted :
    ((after .resetAsserted (wet .quota)).zone 3).energised = false ∧ (after .resetAsserted (wet .quota)).resetLow = true ∧
      (after .resetAsserted (holding base .b)).hold planEntry = .free := by decide +kernel

theorem test_reset_released :
    let s : State := { (wet .quota).updZone 3 (fun x => { x with pendingEdit := some .clear }) with resetLow := true }
    ((after (.resetReleased low low low) s).zone 3).programme = none ∧ ((after (.resetReleased low low low) s).zone 3).valve = .shut ∧
      (after (.resetReleased low low low) s).supply.inForce.total = 500 := by decide +kernel

theorem test_stop_asserted :
    ((after .stopAsserted (wet .quota)).zone 3).valve = .closing ∧
      told (after .stopAsserted (wet .quota)) .a = some ⟨.stopped, none, none, none, none, some 2⟩ := by decide +kernel

theorem test_stop_released :
    (after .stopReleased (after .stopAsserted base)).stopLow = false ∧
      (after .stopReleased (after .stopAsserted base)).engine.runState = .stopped := by decide +kernel

/-! ### Field events -/

theorem test_raw_pulse :
    ((after (.rawPulse 3) base).meter 3).count = 1 ∧
      ((after (.rawPulse 3) (base.updMeter 3 fun m => { m with divisor := 2 })).meter 3).residue = 1 ∧
      told (after (.rawPulse 3) (base.updMeter 3 fun m => { m with count := 65535 })) .b =
        some ⟨.meterSaturated, none, none, some 3, none, none⟩ := by decide +kernel

theorem test_drive_sense_fall :
    ((after (.driveSenseFall 3) (wet .manual)).zone 3).valve = .shut ∧ ((after (.driveSenseFall 3) (wet .manual)).zone 3).lockout = some .driveFault ∧
      told (after (.driveSenseFall 3) (wet .manual)) .a = some ⟨.zoneLocked, none, some 3, some 0, none, some 1⟩ := by decide +kernel

theorem test_sense_timer_expiry :
    ((after (.senseTimerExpiry 3 true) opening).zone 3).sensePhase = .watching ∧
      ((after (.senseTimerExpiry 3 false) opening).zone 3).lockout = some .driveFault := by decide +kernel

theorem test_fill_timer_expiry :
    ((after (.fillTimerExpiry 3) opening).zone 3).valve = .wet ∧ (after (.fillTimerExpiry 3) opening).wetOrder = [3] ∧
      (after (.fillTimerExpiry 3) opening).energising = [] := by decide +kernel

theorem test_close_timer_expiry :
    ((after (.closeTimerExpiry 3) closing).zone 3).valve = .shut ∧ ((after (.closeTimerExpiry 3) closing).zone 3).soakTimer = 0 ∧
      (after (.closeTimerExpiry 3) closing).supply.committed.total = 0 := by decide +kernel

/-- 40 pulses of 100 cL in 10 s are 240 L/min, above the stray threshold of 20 (R65, R67). And ALLOTMENT-REACHED, from the progress report of a low interval under a spent
allotment, may stand before the flow notice, between it and ZONE-LOCKED, or after both (R59, R69, R182). -/
theorem test_interval_timer_expiry :
    let s := base.updMeter 1 fun m => { m with timer := 0, count := 40, run := some .stray }
    ((after (.intervalTimerExpiry 1 .progressFirst) s).meter 1).lastFlow = 240 ∧ ((after (.intervalTimerExpiry 1 .progressFirst) s).meter 1).stray = 4000 ∧
      told (after (.intervalTimerExpiry 1 .progressFirst) s) .c = some ⟨.strayFlow, none, none, some 1, none, some 240⟩ ∧
      (let t : State := { (wet .quota).updMeter 0 (fun m => { m with timer := 0, run := some .low }) with clock := { base.clock with allotment := some 0 } }
       (fun o => ((after (.intervalTimerExpiry 0 o) t).port .a).notices.map (·.kind)) <$>
          [ExpiryOrder.progressFirst, .noticeFirst, .lockoutFirst, .lockoutLater, .noticeFirstLockoutLater] =
        [[.allotmentReached, .lowFlow, .zoneLocked], [.lowFlow, .allotmentReached, .zoneLocked], [.lowFlow, .zoneLocked, .allotmentReached],
          [.allotmentReached, .lowFlow], [.lowFlow, .allotmentReached]]) := by decide +kernel

/-- The request for zone 3, under measure at 0 of 100 L/min, comes after the channel has closed: the zone is locked in CLOSING, by an idle step (R41, R45). -/
theorem test_lockout_request_later :
    let s := after (.intervalTimerExpiry 0 .lockoutLater) ((wet .manual).updMeter 0 fun m => { m with timer := 0, run := some .low })
    let t := s.closeChannel 3 .closeZone
    s.lockoutRequests = [⟨3, .noFlow⟩] ∧ (s.zone 3).lockout = none ∧ (t.takeLockoutRequest.zone 3).lockout = some .noFlow ∧
      (t.takeLockoutRequest.zone 3).valve = .closing ∧ (t.takeLockoutRequest.zone 3).endedBy = some .closeZone ∧
      t.takeLockoutRequest.lockoutRequests = [] := by decide +kernel

theorem test_validity_timer_expiry :
    (after (.validityTimerExpiry .atOnce) base).supply.inForce.total = 500 ∧ (after (.validityTimerExpiry .atOnce) base).supply.status = .lapsed ∧
      told (after (.validityTimerExpiry .atOnce) base) .a = some ⟨.supplyLapsed, none, none, none, none, some 500⟩ := by decide +kernel

theorem test_second_advance :
    (after .secondAdvance { base with clock := { base.clock with second := 86399, day := 65535 } }).clock.second = 0 ∧
      (after .secondAdvance { base with clock := { base.clock with second := 86399, day := 65535 } }).clock.day = 0 ∧
      ((after .secondAdvance base).meter 0).timer = 9 := by decide +kernel

theorem test_second_advance_rolls :
    let s : State := { base.updZone 3 (fun x => { x with quotaVolume := 1234, cyclesRemaining := 0 }) with
      clock := { base.clock with valid := true, second := 86399 } }
    ((after .secondAdvance s).zone 3).lastPeriodVolume = 12 ∧ ((after .secondAdvance s).zone 3).quotaVolume = 0 ∧
      ((after .secondAdvance s).zone 3).cyclesRemaining = 3 := by decide +kernel

theorem test_slot_expiry :
    let s : State := { base with climate := { base.climate with slots := ⟨some ⟨20, 300, true⟩, some ⟨50, 299, true⟩, none⟩, effective := some 20 } }
    (after (.slotExpiry .a) s).climate.effective = some 50 ∧ after (.slotExpiry .b) s = s := by decide +kernel

theorem test_thaw_hold_expiry :
    let s : State := { armed with climate := { base.climate with
      frost := .armedAuto, slots := ⟨some ⟨40, 0, true⟩, none, none⟩, effective := some 40, thawTimer := 1800 } }
    (after .thawHoldExpiry s).climate.frost = .disarmed ∧ (after .thawHoldExpiry s).engine.regime = .quota := by decide +kernel

theorem test_guard_timer_expiry :
    ((after (.guardTimerExpiry 3) opening).zone 3).valve = .closing ∧ ((after (.guardTimerExpiry 3) opening).zone 3).cyclesRemaining = 2 ∧
      told (after (.guardTimerExpiry 3) opening) .a = some ⟨.shortVisit, none, some 3, some 0, none, some 1700⟩ := by decide +kernel

/-- 50 L over 3 cycles is a target of 1667 cL, rounded up (R131). -/
theorem test_soak_reached :
    let s : State := { base.updZone 3 (fun x => { x with soakTimer := 60 }) with engine := { base.engine with regime := .quota } }
    ((after (.soakReached 3) s).zone 3).valve = .opening ∧ ((after (.soakReached 3) s).zone 3).visitTarget = some 1667 := by decide +kernel

theorem test_dwell_end :
    let s : State := { (wet .frost).updZone 3 (fun x => { x with frostVisit := true, dwellRemaining := some 0, dryClock := 0 }) with
      climate := armed.climate, engine := armed.engine }
    ((after (.dwellEnd 3) s).zone 3).valve = .closing ∧ ((after (.dwellEnd 3) s).zone 3).frostVisit = false := by decide +kernel

theorem test_run_time_spent :
    let s : State := { wet .manual with engine := { base.engine with regime := .manual, manual := some [⟨3, 60, 0, .running⟩] } }
    ((after (.runTimeSpent 3) s).zone 3).valve = .closing ∧ (after (.runTimeSpent 3) s).engine.manual = some [⟨3, 60, 0, .running⟩] := by
  decide +kernel

theorem test_overdue :
    let s := armed.updZone 3 fun x => { x with admitted := true, dryClock := 600 }
    ((after (.overdue 3) s).zone 3).overdue = true ∧ told (after (.overdue 3) s) .c = some ⟨.zoneOverdue, none, some 3, some 0, none, some 600⟩ := by
  decide +kernel

/-! ### Port events -/

theorem test_frame_complete :
    ((after (.frameComplete .a [0x02#8, 0x21#8, 0x08#8, 0xD5#8]) base).port .a).mailbox = .pending (.takeHold 8) ∧
      said (after (.frameComplete .b [0x02#8, 0x21#8, 0x08#8, 0xD5#8]) base) .b = some ⟨.noRight, false, 0x21#8, []⟩ := by decide +kernel

theorem test_character_received :
    ((after (.characterReceived .a 0xC3#8 false true) base).port .a).assembler = .receiving [] ∧
      ((after (.characterReceived .a 0x13#8 true true) (base.updPort .a fun q => { q with assembler := .receiving [0x01#8] })).port .a).assembler =
        .receiving [0x01#8, 0x13#8] := by decide +kernel

theorem test_silence :
    said (after (.silence .a) (base.updPort .a fun q => { q with assembler := .receiving [0x02#8, 0x21#8] })) .a =
        some ⟨.malformed, false, 0x21#8, []⟩ ∧ after (.silence .a) base = base := by decide +kernel

theorem test_break :
    (after (.lineBreak .b low) (holding base .b)).hold 0 = .free ∧ ((after (.lineBreak .b low) base).port .b).rights.supply = false := by decide +kernel

theorem test_receive_line_returns_high :
    ((after (.receiveLineReturnsHigh .b) (after (.lineBreak .b low) base)).port .b).lineLow = false := by decide +kernel

theorem test_take_up :
    let s : State := { (base.updPort .a fun q => { q with mailbox := .pending .pause }).updPort .c (fun q => { q with mailbox := .pending .armFrost }) with
      lastServed := .a }
    ((after .takeUp s).port .c).mailbox = .executing .armFrost none ∧ ((after .takeUp s).port .a).mailbox = .pending .pause ∧
      (after .takeUp s).lastServed = .c := by decide +kernel

theorem test_reply_sent :
    ((after (.replySent .a) (base.updPort .a fun q => { q with replies := [⟨.done, false, 0x13#8, []⟩, ⟨.busy, false, 0x21#8, []⟩] })).port .a).replies =
      [⟨.busy, false, 0x21#8, []⟩] := by decide +kernel

theorem test_withdraw :
    said (after (.withdraw .a) (base.updPort .a fun q => { q with mailbox := .pending .pause })) .a = some ⟨.withdrawn, false, 0x61#8, [0x55#8]⟩ ∧
      said (after (.withdraw .a) base) .a = some ⟨.nothingPending, false, 0x61#8, []⟩ := by decide +kernel

/-! ### Reading directives -/

theorem test_read_zone : answered (.readZone 32) (.readZone .a 32) base = some ⟨.range, false, 0x11#8, [0x00#8]⟩ ∧
    ((answered (.readZone 3) (.readZone .a 3) base).map fun r => r.payload.take 6) = some [0x01#8, 0x00#8, 0x00#8, 0x01#8, 0x00#8, 0x64#8] := by
  decide +kernel

theorem test_read_group :
    answered (.readGroup 7) (.readGroup .a 7) base = some ⟨.done, false, 0x12#8, [0x00#8, 0x00#8, 0x00#8, 0x00#8, 0x01#8]⟩ := by decide +kernel

theorem test_read_ring :
    answered .readRing (.readRing .a) base = some ⟨.done, false, 0x13#8, [0x01#8, 0x03#8, 0x00#8, 0x00#8, 0x00#8, 0x00#8, 0x00#8]⟩ := by decide +kernel

theorem test_read_header : answered (.readHeader 4) (.readHeader .a 4) base = some ⟨.range, false, 0x14#8, [0x00#8]⟩ ∧
    ((answered (.readHeader 3) (.readHeader .a 3) base).map fun r => r.payload.take 4) = some [0x01#8, 0x00#8, 0x64#8, 0x0A#8] := by decide +kernel

theorem test_read_engine :
    answered .readEngine (.readEngine .a) armed =
      some ⟨.done, false, 0x15#8, [0x03#8, 0x00#8, 0x00#8, 0x00#8, 0x01#8, 0x01#8, 0x00#8, 0x00#8, 0x00#8, 0x00#8]⟩ := by decide +kernel

theorem test_read_climate :
    ((answered .readClimate (.readClimate .a) armed).map fun r => r.payload.take 9) =
      some [0x00#8, 0x00#8, 0x00#8, 0x00#8, 0x00#8, 0x02#8, 0x00#8, 0x0A#8, 0x1E#8] := by decide +kernel

theorem test_read_clock :
    ((answered .readClock (.readClock .a) { base with clock := { base.clock with second := 86399, day := 258 } }).map fun r => r.payload.take 6) =
      some [0x01#8, 0x51#8, 0x7F#8, 0x01#8, 0x02#8, 0x00#8] := by decide +kernel

theorem test_read_holds :
    ((answered .readHolds (.readHolds .a) (base.setHold 0 (.held .c))).map fun r => r.payload.take 7) =
      some [0x01#8, 0x01#8, 0x02#8, 0x00#8, 0x00#8, 0x00#8, 0x00#8] := by decide +kernel

theorem test_read_port :
    ((after (.readPort .a) (busy (base.updPort .a fun q => { q with overflow := true }) .a .readPort)).port .a).overflow = false ∧
      ((answered .readPort (.readPort .a) (base.updPort .a fun q => { q with overflow := true })).map fun r => r.payload.getLast?) =
        some (some 0x01#8) := by decide +kernel

theorem test_select_zones :
    answered (.selectZones 0 2) (.selectZones .a 0 2) base = some ⟨.done, false, 0x1A#8, [0x01#8, 0x03#8]⟩ ∧
      answered (.selectZones 4 4) (.selectZones .a 4 4) base = some ⟨.range, false, 0x1A#8, [0x01#8]⟩ := by decide +kernel

theorem test_fetch_notice :
    answered .fetchNotice (.fetchNotice .a) base = some ⟨.done, false, 0x1B#8, [0x00#8, 0x00#8]⟩ ∧
      ((after (.fetchNotice .a) (busy (after .stopAsserted base) .a .fetchNotice)).port .a).notices = [] := by decide +kernel

/-! ### Holds and the zone table -/

theorem test_take_hold :
    (after (.takeHold .a 8) (busy base .a (.takeHold 8))).hold planEntry = .held .a ∧
      answered (.takeHold 0) (.takeHold .a 0) (base.setHold 0 (.releasing .b)) =
        some ⟨.heldElsewhere, false, 0x21#8, [0x01#8, 0x02#8]⟩ := by decide +kernel

theorem test_release_hold :
    let s := (holding base .a).updZone 3 fun x => { x with pendingEdit := some .clear }
    (after (.releaseHold .a 0) (busy s .a (.releaseHold 0))).hold 0 = .releasing .a ∧
      (after (.releaseHold .a 1) (busy s .a (.releaseHold 1))).hold 1 = .free := by decide +kernel

theorem test_break_hold :
    (after (.breakHold .a 8) (busy (holding base .b) .a (.breakHold 8))).hold planEntry = .free ∧
      told (after (.breakHold .a 8) (busy (holding base .b) .a (.breakHold 8))) .b = some ⟨.holdBroken, none, none, none, some .b, some 8⟩ := by
  decide +kernel

theorem test_edit_zone :
    let f : ZoneFields := { sampleFields with flow := 6001 }
    ((after (.editZone .a 31 f) (busy (holding base .a) .a (.editZone 31 f))).zone 31).programme = some { sample with flow := 6000 } ∧
      answered (.editZone 31 f) (.editZone .a 31 f) (strict (holding base .a) .a) = some ⟨.range, false, 0x23#8, [0x04#8]⟩ := by decide +kernel

theorem test_edit_zone_deferred :
    let s := busy (holding (wet .manual) .a) .a (.editZone 3 sampleFields)
    ((after (.editZone .a 3 sampleFields) s).zone 3).pendingEdit = some (.edit sample) ∧
      said (after (.editZone .a 3 sampleFields) s) .a = some ⟨.deferred, false, 0x23#8, []⟩ := by decide +kernel

theorem test_clear_zone :
    ((after (.clearZone .a 3) (busy (holding base .a) .a (.clearZone 3))).zone 3).programme = none ∧
      answered (.clearZone 3) (.clearZone .a 3) base = some ⟨.notHolder, false, 0x24#8, [0x00#8]⟩ := by decide +kernel

theorem test_set_window :
    let s := busy (holding { base with clock := { base.clock with valid := true } } .a) .a (.setWindow 0 1 2)
    ((after (.setWindow .a 0 1 2) s).group 0).windowOpen = false ∧ ((after (.setWindow .a 0 1 2) s).group 0).finish = 2 := by decide +kernel

theorem test_set_ring :
    (after (.setRing .a [31, 3]) (busy (holding base .a) .a (.setRing [31, 3]))).ring = [31, 3] ∧
      answered (.setRing [3, 4, 3]) (.setRing .a [3, 4, 3]) (holding base .a) = some ⟨.duplicate, false, 0x26#8, [0x03#8]⟩ := by decide +kernel

/-- A break has freed the plan hold under a SET-RING: at its completion it is refused, unanswered, and the ring stands (R9, R27, R33, R170). -/
theorem test_set_ring_over_a_break :
    let s := after (.setRing .a []) (after (.lineBreak .a low) (busy (holding base .a) .a (.setRing [])))
    s.ring = [3] ∧ s.hold planEntry = .free ∧ (s.port .a).mailbox = .empty ∧ said s .a = none := by decide +kernel

/-! ### Settings -/

/-- The quota set has 50 L; under an allotment of 20 L its one zone has 20 L (R104). -/
theorem test_set_period :
    let s := busy (holding base .a) .a (.setPeriod 14 1439 20)
    (after (.setPeriod .a 14 1439 20) s).clock.startMinute = 1439 ∧ ((after (.setPeriod .a 14 1439 20) s).zone 3).effectiveQuota = 20 := by
  decide +kernel

/-- A SET-PERIOD that is EXECUTING when its port is reinitialised has its effect, without a reply (R91; log entry 29). -/
theorem test_set_period_over_a_break :
    let s := after (.lineBreak .a low) (busy (holding base .a) .a (.setPeriod 14 1439 20))
    s.hold planEntry = .free ∧ (after (.setPeriod .a 14 1439 20) s).clock.periodLength = 14 ∧
      ((after (.setPeriod .a 14 1439 20) s).port .a).replies = [] := by decide +kernel

theorem test_set_meter :
    let f : MeterFields := ⟨3, 50000, 60, 50, 500, 1⟩
    ((after (.setMeter .a 3 f) (busy (holding base .a) .a (.setMeter 3 f))).meter 3).divisor = 2 ∧
      ((after (.setMeter .a 3 f) (busy (holding base .a) .a (.setMeter 3 f))).meter 3).timer = 60 ∧
      answered (.setMeter 3 f) (.setMeter .a 3 f) (strict (holding base .a) .a) = some ⟨.range, false, 0x28#8, [0x01#8]⟩ := by decide +kernel

theorem test_declare_supply :
    let f : FlowFields := ⟨20000, 50, 0, 0, 0⟩
    let s := busy (wet .manual) .b (.declareSupply f 30)
    (after (.declareSupply .b f 30 .atOnce) s).supply.inForce.total = 20000 ∧ (after (.declareSupply .b f 30 .atOnce) s).supply.validity = some 30 ∧
      ((after (.declareSupply .b f 30 .atOnce) s).zone 3).valve = .closing := by decide +kernel

/-- Zone 4 fits beside zone 3 when asked, and the ceiling of its header falls to 50 before its OPENING report: it is shed at once, zone 3 is not (R87). -/
theorem test_declare_supply_in_selection :
    let s0 : State := { base.updZone 4 (fun x =>
        { x with programme := some { sample with header := 1 }, cyclesRemaining := 3, effectiveQuota := 50 }) with
      ring := [3, 4], engine := { base.engine with regime := .quota } }
    let f : FlowFields := ⟨1000, 1000, 50, 1000, 1000⟩
    let s := after (.declareSupply .b f 30 (.inSelection 3)) (busy s0 .b (.declareSupply f 30))
    s.supplyInFlight = [⟨.declare .b f 30, 3⟩] ∧ (s.select.zone 3).valve = .opening ∧ (s.select.zone 4).valve = .closing ∧
      (s.select.zone 4).endedBy = some .shed ∧ s.select.supplyInFlight = [] := by decide +kernel

theorem test_set_fallback :
    let f : FlowFields := ⟨20001, 50, 0, 0, 0⟩
    (after (.setFallback .b f .atOnce) (busy base .b (.setFallback f))).supply.fallback.total = 20000 ∧
      (after (.setFallback .b f .atOnce) (busy base .b (.setFallback f))).supply.inForce.total = 1000 := by decide +kernel

theorem test_report_temperature :
    let s := busy base .c (.reportTemperature 10)
    (after (.reportTemperature .c 10) s).climate.frost = .armedAuto ∧ (after (.reportTemperature .c 10) s).engine.regime = .frost ∧
      said (after (.reportTemperature .c 10) s) .c = some ⟨.done, false, 0x41#8, [0x01#8, 0x01#8, 0x00#8, 0x0A#8]⟩ := by decide +kernel

theorem test_arm_frost :
    (after (.armFrost .c) (busy (wet .manual) .c .armFrost)).climate.frost = .armedManual ∧
      ((after (.armFrost .c) (busy base .c .armFrost)).port .a).notices.map (·.kind) = [.frostArmed, .regimeChanged, .triageChanged] := by
  decide +kernel

theorem test_disarm_frost :
    (after (.disarmFrost .c) (busy armed .c .disarmFrost)).engine.regime = .quota ∧
      (after (.disarmFrost .c) (busy armed .c .disarmFrost)).climate.inhibit = true := by decide +kernel

theorem test_set_frost_limits :
    let s := busy base .c (.setFrostLimits 60 0 7201 60)
    (after (.setFrostLimits .c 60 0 7201 60) s).climate.limits = ⟨50, 55, 7200, 60⟩ ∧
      said (after (.setFrostLimits .c 60 0 7201 60) s) .c = some ⟨.done, true, 0x44#8, []⟩ := by decide +kernel

theorem test_set_clock :
    (after (.setClock .a 7 86400) (busy base .a (.setClock 7 86400))).clock.second = 86399 ∧
      (after (.setClock .a 7 86400) (busy base .a (.setClock 7 86400))).clock.valid = true := by decide +kernel

theorem test_new_period :
    let s := busy (base.updZone 3 fun x => { x with quotaVolume := 299 }) .a .newPeriod
    ((after (.newPeriod .a) s).zone 3).lastPeriodVolume = 2 ∧
      told (after (.newPeriod .a) s) .b = some ⟨.periodRolled, none, none, none, some .a, some 2⟩ := by decide +kernel

theorem test_set_options :
    ((after (.setOptions .a 2 0 1 1 1) (busy base .a (.setOptions 2 0 1 1 1))).port .a).strict = true ∧
      answered (.setOptions 0 0 2 1 1) (.setOptions .a 0 0 2 1 1) (strict base .a) = some ⟨.range, false, 0x62#8, [0x02#8]⟩ := by decide +kernel

theorem test_narrow_rights :
    ((after (.narrowRights .a 9 0 0 0) (busy base .a (.narrowRights 9 0 0 0))).port .a).rights = ⟨false, false, false, true⟩ ∧
      ((answered (.narrowRights 0 1 0 0) (.narrowRights .a 0 1 0 0) base).map (·.code)) = some .already := by decide +kernel

/-! ### The engine -/

theorem test_start_quota :
    (after (.startQuota .a) (busy base .a .startQuota)).engine.regime = .quota ∧
      ((after (.startQuota .a) (busy base .a .startQuota)).zone 3).valve = .opening := by decide +kernel

theorem test_stop_quota :
    (after (.stopQuota .a) (busy opening .a .stopQuota)).engine.regime = .idle ∧
      ((after (.stopQuota .a) (busy opening .a .stopQuota)).zone 3).visit = .noVisit := by decide +kernel

theorem test_run_manual :
    (after (.runManual .a [(3, 3601)]) (busy base .a (.runManual [(3, 3601)]))).engine.manual = some [⟨3, 3600, 3600, .running⟩] ∧
      answered (.runManual [(3, 10), (4, 10)]) (.runManual .a [(3, 10), (4, 10)]) base = some ⟨.undefinedZone, false, 0x53#8, [0x04#8]⟩ := by
  decide +kernel

theorem test_cancel_manual :
    let s : State := { wet .manual with engine := { base.engine with regime := .manual, manual := some [⟨3, 60, 30, .running⟩], stack := [.quota 0 7] } }
    (after (.cancelManual .a) (busy s .a .cancelManual)).engine.regime = .quota ∧
      (after (.cancelManual .a) (busy s .a .cancelManual)).planner.round = 7 := by decide +kernel

theorem test_pause :
    (after (.pause .a) (busy base .a .pause)).engine.runState = .paused ∧
      answered .pause (.pause .a) armed = some ⟨.regime, false, 0x55#8, []⟩ := by decide +kernel

theorem test_resume :
    (after (.resume .a) (busy { base with engine := { base.engine with runState := .paused } } .a .resume)).engine.runState = .running ∧
      answered .resume (.resume .a) { base with stopLow := true } = some ⟨.stopLine, false, 0x56#8, []⟩ := by decide +kernel

theorem test_shutdown :
    (after (.shutdown .a) (busy (wet .quota) .a .shutdown)).engine.stopCause = some (.shutdown .a) ∧
      ((after (.shutdown .a) (busy (wet .quota) .a .shutdown)).zone 3).valve = .closing := by decide +kernel

theorem test_close_zone :
    answered (.closeZone 3) (.closeZone .a 3) (wet .manual) = some ⟨.done, false, 0x58#8, [0x02#8]⟩ ∧
      answered (.closeZone 3) (.closeZone .a 3) base = some ⟨.already, false, 0x58#8, []⟩ := by decide +kernel

theorem test_clear_lockout :
    answered (.clearLockout 3) (.clearLockout .a 3) (base.updZone 3 fun x => { x with lockout := some .burst }) =
        some ⟨.done, false, 0x59#8, [0x03#8]⟩ ∧
      answered (.clearLockout 3) (.clearLockout .a 3) (wet .manual) = some ⟨.busy, false, 0x59#8, []⟩ := by decide +kernel

/-! ### States and operands that meet the hypotheses of the statements, clause by clause -/

/-- A second waits. -/
def queued (s : State) : State := { s with pending := [.secondAdvance] }

theorem queued_steps (s : State) : ∃ t, step (queued s) = .next t := ⟨_, rfl⟩

theorem busy_completing (s : State) (p : Port) (d : Directive) (h : s.resetLow = false) (r : (s.port p).replies.length < 4) :
    (busy s p d).completing p d := by
  cases p <;> exact ⟨h, rfl, r⟩

/-- A directive completes at Port A, from a state whose port holds three replies. -/
def three (s : State) : State := s.updPort .a fun q => { q with replies := List.replicate 3 ⟨.done, false, 0x13#8, []⟩ }

theorem witness_StepRunsTheFrontCommand :
    ((queued base).pending = .secondAdvance :: [] ∧ base.pending = [] ∧ base.lockoutRequests = []) ∧
      (let s : State := { base with lockoutRequests := [⟨31, .burst⟩] }
       s.pending = [] ∧ s.lockoutRequests = ⟨31, .burst⟩ :: [] ∧ s.resetLow = false) := ⟨⟨rfl, rfl, rfl⟩, rfl, rfl, rfl⟩

theorem witness_EveryStepKeepsMetersAndCommittedFlowBalanced :
    (let s := queued (base.updMeter 0 fun m => { m with metered := 1, attributed := 281474976710655, stray := 2 })
     s.metersBalance ∧ ∃ t, step s = .next t) ∧
    (queued opening).resetLow = false ∧ (queued opening).committedMatches ∧ ∃ t, step (queued opening) = .next t :=
  ⟨⟨by unfold State.metersBalance; decide +kernel, _, rfl⟩, rfl, by unfold State.committedMatches; decide +kernel, _, rfl⟩

theorem witness_EveryStepKeepsNoticesBounded :
    let s := queued (base.updPort .a fun q => { q with notices := List.replicate 16 ⟨.stopped, none, none, none, none, some 2⟩ })
    s.noticesBounded ∧ ∃ t, step s = .next t := ⟨by intro p; cases p <;> decide +kernel, _, rfl⟩

theorem witness_EveryStepKeepsRepliesBoundedAndOneExecuting :
    (let s := queued (base.updPort .a fun q => { q with replies := List.replicate 4 ⟨.done, false, 0x13#8, []⟩ })
     s.repliesBounded ∧ ∃ t, step s = .next t) ∧
    (queued (busy base .b .readRing)).oneExecuting ∧ ∃ t, step (queued (busy base .b .readRing)) = .next t :=
  ⟨⟨by intro p; cases p <;> decide +kernel, _, rfl⟩, by intro p q; cases p <;> cases q <;> decide +kernel, _, rfl⟩

theorem witness_EveryStepKeepsLockedAndStoppedZonesClosed :
    (let s := queued (opening.updZone 5 fun x => { x with lockout := some .noFlow })
     s.lockedNeverOpen ∧ ∃ t, step s = .next t) ∧
    (let s := queued { closing with engine := { closing.engine with runState := .stopped, stopCause := some .stopLine } }
     s.engine.runState = .stopped ∧ s.stoppedNoneOpen ∧ ∃ t, step s = .next t) :=
  ⟨⟨by unfold State.lockedNeverOpen; decide +kernel, _, rfl⟩, rfl, by unfold State.stoppedNoneOpen; decide +kernel, _, rfl⟩

theorem witness_EveryStepKeepsStackRankedAndFrostWhileArmed :
    let s := queued { armed with engine := { armed.engine with stack := [.quota 0 0, .manual []] } }
    s.stackRanked ∧ s.frostWhileArmed ∧ ∃ t, step s = .next t :=
  ⟨by unfold State.stackRanked; decide +kernel, by unfold State.frostWhileArmed; decide +kernel, _, rfl⟩

theorem witness_EveryStepKeepsCyclesWithinAndSuspendedListMatching :
    let s := queued { base.updZone 3 (fun x => { x with visit := .suspended }) with planner := { base.planner with suspended := [3] } }
    s.cyclesWithin ∧ (s.zone 3).cyclesRemaining = 3 ∧ s.suspendedMatch ∧ ∃ t, step s = .next t :=
  ⟨by unfold State.cyclesWithin; decide +kernel, by decide +kernel, by unfold State.suspendedMatch; decide +kernel, _, rfl⟩

theorem witness_EveryStepKeepsReleasingWaiting :
    let s := queued ((opening.updZone 3 fun x => { x with pendingEdit := some .clear }).setHold 0 (.releasing .a))
    s.releasingWaits ∧ ∃ t, step s = .next t := ⟨by unfold State.releasingWaits; decide +kernel, _, rfl⟩

theorem witness_EveryStepKeepsOpenFlowWithinCeilings :
    let s := queued { opening with supply := { opening.supply with inForce := ⟨100, #v[100, 0, 0, 0]⟩ } }
    (s.ordersMatch ∧ s.openWithin) ∧ ∃ t, step s = .next t := ⟨by unfold State.ordersMatch State.openWithin; decide +kernel, _, rfl⟩

theorem witness_ReadingAFrameGivesItsDirective :
    (Directive.editZone 255 ⟨255, 255, 255, 65535, 65535, 255, 16777215, 255, 65535, 255, 255, 65535, 65535⟩).wellFormed = true ∧
      (Directive.setRing (List.replicate 32 255)).wellFormed = true ∧ (Directive.runManual (List.replicate 19 (255, 65535))).wellFormed = true ∧
      (Directive.reportTemperature (-32768)).wellFormed = true ∧ (Directive.reportTemperature 32767).wellFormed = true := by decide

theorem witness_FrameIsCheckedAndAdmitted :
    ((Directive.takeHold 255).wellFormed = true ∧ (three base).resetLow = false ∧ ((three base).port .a).lineLow = false ∧
      ((three base).port .a).assembler = .idle ∧ ((three base).port .a).replies.length < 4) ∧
    (wholeFrame [0x01#8, 0x13#8, 0xED#8] = true ∧ byteSum [0x01#8, 0x13#8, 0xED#8] ≠ 0#8) ∧
    (wholeFrame [0x01#8, 0x10#8, 0xEF#8] = true ∧ byteSum [0x01#8, 0x10#8, 0xEF#8] = 0#8 ∧
      codeRight (frameCode [0x01#8, 0x10#8, 0xEF#8]).toNat = none) ∧
    (let f := [0x02#8, 0x61#8, 0x00#8, 0x9D#8]
     wholeFrame f = true ∧ byteSum f = 0#8 ∧ codeRight (frameCode f).toNat ≠ none ∧ ¬(frameCode f = 0x61#8 ∧ frameParams f = []) ∧
      parseDirective (frameCode f).toNat (frameParams f) = none) := by decide +kernel

theorem witness_CharactersAndSilencesMoveTheAssembler :
    (base.resetLow = false ∧ (base.port .a).lineLow = false ∧ (base.port .a).assembler = .idle) ∧
    ((base.updPort .a fun q => { q with assembler := .discarding .line none }).port .a).assembler = .discarding .line none ∧
    ((base.updPort .a fun q => { q with assembler := .receiving [] }).port .a).assembler = .receiving [] ∧
    (let rest := List.replicate 60 0x00#8
     ((base.updPort .a fun q => { q with assembler := .receiving (0x3C#8 :: rest) }).port .a).assembler = .receiving (0x3C#8 :: rest) ∧
      rest.length = (0x3C#8 : Byte).toNat ∧ 1 ≤ (0x3C#8 : Byte).toNat ∧ (0x3C#8 : Byte).toNat ≤ 60 ∧ (rest.drop 1).length ≠ (0x3C#8 : Byte).toNat) ∧
    ((three base).port .a).replies.length < 4 := by decide +kernel

theorem witness_MailboxesAreWithdrawnAndServedInTurn :
    ((three base).resetLow = false ∧ ((three base).port .a).lineLow = false ∧ ((three base).port .a).replies.length < 4 ∧
      ((three base).port .a).assembler = .idle) ∧
    (((busy base .a .pause).port .a).mailbox.isExecuting = true ∧ ∀ p, (base.port p).mailbox = .empty) ∧
    (let s := base.updPort .b fun q => { q with mailbox := .pending .readRing }
     (∀ q, (s.port q).mailbox.isExecuting = false) ∧ (s.port .b).mailbox = .pending .readRing ∧
      ∀ q, q ∈ (turnAfter s.lastServed).takeWhile (fun r => decide (r ≠ .b)) → (s.port q).mailbox = .empty) := by
  refine ⟨by decide +kernel, ⟨by decide +kernel, ?_⟩, ?_, by decide +kernel, ?_⟩
  · intro p; cases p <;> rfl
  · intro q; cases q <;> rfl
  · decide +kernel

theorem readRing_at_once (p : Port) : completesAtOnce (.readRing p) := fun _ => ⟨fun _ _ _ h => (nomatch h), fun _ _ h => (nomatch h)⟩

theorem witness_ReplyQueueSendsTheOldestAndDiscardsTheFifth :
    let s := busy (base.updPort .a fun q => { q with replies := List.replicate 4 ⟨.done, false, 0x13#8, []⟩ }) .a .readRing
    (s.resetLow = false ∧ (s.port .a).mailbox = .executing .readRing none ∧ (s.port .a).replies.length = 4 ∧ s.supplyInFlight = []) ∧
      ((Instr.readRing .a).directive = some (.a, .readRing) ∧ completesAtOnce (.readRing .a)) ∧
      (s.port .a).lineLow = false ∧ (s.port .a).assembler = .idle ∧ wholeFrame withdrawFrame = true :=
  ⟨by decide +kernel, ⟨rfl, readRing_at_once _⟩, by decide +kernel⟩

theorem witness_BreakReinitialisesThePort :
    (base.resetLow = false ∧ (base.port .b).lineLow = false) ∧ ((after (.lineBreak .b low) base).resetLow = false ∧
      ((after (.lineBreak .b low) base).port .b).lineLow = true) ∧
      ((Instr.readRing .b).directive = some (.b, .readRing) ∧ completesAtOnce (.readRing .b) ∧
        (overBreak base .b .readRing true).completingUnanswered .b .readRing true ∧ (overBreak base .b .readRing true).supplyInFlight = []) :=
  ⟨by decide +kernel, by decide +kernel, rfl, readRing_at_once _, ⟨rfl, rfl⟩, rfl⟩

theorem witness_OptionsAndRightsDirectives :
    (busy (three base) .a (.setOptions 1 1 1 1 2)).completing .a (.setOptions 1 1 1 1 2) ∧
      (busy (three base) .a (.narrowRights 1 0 0 255)).completing .a (.narrowRights 1 0 0 255) := by
  unfold State.completing; decide +kernel

theorem witness_ReadingsAnswerTheirItemsAlone :
    (∀ d ∈ [Directive.readRing, .readEngine, .readClimate, .readClock, .readHolds, .readZone 31, .readZone 32, .readGroup 7, .readGroup 8,
      .readHeader 3, .readHeader 4], (busy (three base) .a d).completing .a d) :=
  fun d _ => busy_completing _ _ d rfl (by decide)

theorem witness_PortNoticesAndZonesAreRead :
    (∀ d ∈ [Directive.readPort, .fetchNotice, .selectZones 4 3, .selectZones 5 3, .selectZones 4 4], (busy (three base) .a d).completing .a d) :=
  fun d _ => busy_completing _ _ d rfl (by decide)

theorem witness_HoldDirectivesActByTheEntry :
    (∀ d ∈ [Directive.takeHold 8, .releaseHold 8, .breakHold 8, .takeHold 9, .releaseHold 9, .breakHold 9],
      (busy (three base) .a d).completing .a d) ∧ base.hold 8 = .free ∧ (holding base .a).hold 8 = .held .a ∧
      (base.setHold 7 (.releasing .b)).hold 7 = .releasing .b :=
  ⟨fun d _ => busy_completing _ _ d rfl (by decide), by decide +kernel⟩

theorem witness_EditFieldsAreClampedOrRefused :
    checkProgramme true { sampleFields with header := 4 } = .out 1 ∧ checkProgramme true { sampleFields with maxDry := 1801 } = .out 13 ∧
      checkProgramme false { sampleFields with maxDry := 1801 } = .ok { sample with maxDry := 1800 } true ∧
      checkProgramme true sampleFields = .ok sample false := by decide +kernel

theorem witness_EditAndClearZoneAreCarriedOut :
    (∀ d ∈ [Directive.editZone 31 sampleFields, .clearZone 31, .editZone 32 sampleFields, .clearZone 32],
      (busy (three base) .a d).completing .a d) ∧
      (∀ d ∈ [Directive.editZone 3 sampleFields, .clearZone 3], (overBreak base .a d true).completingUnanswered .a d true) ∧
      checkProgramme false sampleFields = .ok sample false ∧
      (∃ g ∈ (base.zone 3).touched (some 0), base.hold (groupEntry g) ≠ .held .a) ∧
      ∃ g ∈ (base.zone 3).touched none, base.hold (groupEntry g) ≠ .held .a :=
  ⟨fun d _ => busy_completing _ _ d rfl (by decide), fun _ _ => ⟨rfl, rfl⟩, by decide +kernel⟩

theorem witness_PendingEditIsAppliedAndHandedOff :
    ((opening.updZone 3 fun x => { x with pendingEdit := some (.edit sample) }).zone 3).pendingEdit = some (.edit sample) ∧
      (armed.climate.frost ≠ .disarmed ∧ (armed.zone 3).lockout = none ∧ (armed.zone 3).programme = some sample ∧ sample.enabled = true ∧
        sample.frostMember = true) ∧ base.climate.frost = .disarmed ∧ (3 : ZoneId) ∈ base.ring := by decide +kernel

theorem witness_SetRingReplacesTheRing :
    (∀ zs ∈ [[31, 32], [31, 31], [31, 0]], (busy (three base) .a (.setRing zs)).completing .a (.setRing zs)) ∧
      [31, 32].findIdx? (fun n => decide (31 < n)) = some 1 ∧ [31, 31] = [(31 : ZoneId), 31].map (·.val) ∧
      [31, 0] = [(31 : ZoneId), 0].map (·.val) ∧ [(31 : ZoneId), 0].Nodup ∧ (three base).hold planEntry ≠ .held .a ∧
      (three (holding base .a)).hold planEntry = .held .a ∧
      ((overBreak base .a (.setRing [31]) true).completingUnanswered .a (.setRing [31]) true ∧
        (overBreak base .a (.setRing [31]) true).hold planEntry ≠ .held .a) := by
  refine ⟨fun zs _ => busy_completing _ _ (.setRing zs) rfl (by decide), ?_⟩
  unfold State.completingUnanswered
  decide +kernel

theorem witness_SetWindowReplacesAndEvaluates :
    (∀ d ∈ [Directive.setWindow 8 0 0, .setWindow 7 1440 0, .setWindow 7 1439 1440, .setWindow 7 1439 1439],
      (busy (strict (holding base .a) .a) .a d).completing .a d) ∧
      (((strict base .a).port .a).strict = true ∧ (base.port .a).strict = false ∧ (holding base .a).hold (groupEntry 7) = .held .a ∧
        base.hold (groupEntry 7) ≠ .held .a) ∧
      ((overBreak base .a (.setWindow 7 0 0) true).completingUnanswered .a (.setWindow 7 0 0) true ∧
        (overBreak base .a (.setWindow 7 0 0) true).hold (groupEntry 7) ≠ .held .a) ∧
      ∀ (valid : Bool) (a b m : Nat), ∃ isOpen : Bool, isOpen = true ↔ inSpan valid (min 1439 a) (min 1439 b) m :=
  ⟨fun d _ => busy_completing _ _ d rfl (by decide), by decide +kernel, ⟨⟨rfl, rfl⟩, by decide +kernel⟩, fun _ _ _ _ => ⟨_, windowOpenAt_iff ..⟩⟩

theorem witness_SetClockMakesTheClockValid :
    (busy (strict base .a) .a (.setClock 65535 86400)).completing .a (.setClock 65535 86400) ∧
      (busy base .a (.setClock 65535 86399)).completing .a (.setClock 65535 86399) ∧
      ((base.port .a).strict = false ∧ ((strict base .a).port .a).strict = true) ∧
      ∃ w : GroupId → Bool, (∀ g, w g = true ↔ inSpan true (base.group g).start (base.group g).finish (min 86399 86399 / 60)) ∧
        ∀ g, (base.group g).windowOpen = w g :=
  ⟨busy_completing _ _ _ rfl (by decide), busy_completing _ _ _ rfl (by decide), by decide +kernel,
    fun g => windowOpenAt true (base.group g).start (base.group g).finish (min 86399 86399 / 60), fun _ => windowOpenAt_iff .., by decide +kernel⟩

theorem witness_SetPeriodReplacesTheSettings :
    (∀ d ∈ [Directive.setPeriod 0 1439 0, .setPeriod 14 1440 0, .setPeriod 14 1439 100000001, .setPeriod 14 1439 100000000],
      (busy (holding base .a) .a d).completing .a d) ∧ ((holding base .a).hold planEntry = .held .a ∧ base.hold planEntry ≠ .held .a) ∧
      ∀ held, (overBreak base .a (.setPeriod 14 1439 0) held).completingUnanswered .a (.setPeriod 14 1439 0) held ∧
        (overBreak base .a (.setPeriod 14 1439 0) held).hold planEntry ≠ .held .a :=
  ⟨fun d _ => busy_completing _ _ d rfl (by decide), by decide +kernel, fun _ => ⟨⟨rfl, rfl⟩, (nomatch ·)⟩⟩

/-- One second before midnight with the clock VALID and the start minute 0. -/
def eve : State := { base with clock := { base.clock with second := 86399, valid := true } }

theorem witness_PeriodRollsByDirectiveAndByPass :
    (busy base .a .newPeriod).completing .a .newPeriod ∧
      (eve.clock.advance.second % 60 = 0 ∧ (eve.clock.valid && decide (eve.clock.advance.second / 60 = eve.clock.startMinute)) = true ∧
        eve.clock.daysInto + 1 = eve.clock.periodLength ∧ eve.resetLow = false ∧ ({ eve with resetLow := true } : State).resetLow = true ∧
        ({ eve.clock with periodLength := 14 } : Clock).daysInto + 1 ≠ 14) ∧
      ∀ valid : Bool, ∃ w : GroupId → Bool,
        ∀ g, w g = true ↔ inSpan valid (eve.group g).start (eve.group g).finish (eve.clock.advance.second / 60) :=
  ⟨busy_completing _ _ _ rfl (by decide), by decide +kernel,
    fun valid => ⟨fun g => windowOpenAt valid (eve.group g).start (eve.group g).finish (eve.clock.advance.second / 60), fun _ => windowOpenAt_iff ..⟩⟩

theorem witness_SecondAdvanceMovesEveryCount :
    let s : State := { base with clock := { base.clock with second := 86398 } }
    s.clock.advance.second % 60 ≠ 0 ∧ s.clock.second < 86399 ∧ s.resetLow = false ∧ (after .resetAsserted s).resetLow = true ∧
      eve.clock.second = 86399 := by decide +kernel

theorem witness_EffectiveQuotasFitTheAllotment :
    (let s : State := { base with clock := { base.clock with allotment := some 49 } }
     s.clock.allotment = some 49 ∧ decide ((3 : ZoneId) ∈ s.ring) = true ∧ (3 : ZoneId) ∈ s.ring ∧ ((s.zone 3).programme.map (·.enabled)) = some true ∧
      49 < sumOver [(3 : ZoneId)] (fun z => ((s.zone z).programme.map (·.quota)).getD 0)) ∧
    (let s := queued { base with clock := { base.clock with allotment := some 50 } }
     s.quotasWithin ∧ s.clock.allotment = some 50 ∧ ∃ t, step s = .next t) :=
  ⟨by decide +kernel, fun a h => by cases h; decide +kernel, rfl, _, rfl⟩

theorem witness_RawPulseIsCounted : base.resetLow = false ∧ (after .resetAsserted base).resetLow = true := by decide +kernel

theorem witness_ApportionmentSharesTheWholeVolume :
    ((wet .quota).drawingSet 0 = [3] ∧ ∀ z ∈ (wet .quota).drawingSet 0, 0 < ((wet .quota).zone z).openedFlow) ∧ base.drawingSet 3 = [] := by
  decide +kernel

theorem witness_IntervalExpiryAccountsAndTests :
    (base.resetLow = false ∧ (base.meter 1).timer ≠ 0 ∧ ((base.updMeter 1 fun m => { m with timer := 0 }).meter 1).timer = 0 ∧
      base.drawingSet 1 = []) ∧
    (let s := (wet .quota).updMeter 0 fun m => { m with timer := 0, run := some .low }
     (s.meter 0).timer = 0 ∧ (s.meter 0).checks = true ∧ (s.meter 0).settling = false ∧ s.drawingSet 0 = [3] ∧
      (s.zone 3).valve = .wet ∧ (s.zone 3).useTag = some .quota ∧ 0 < (s.zone 3).openedFlow) ∧
    (let s := (wet .quota).updZone 4 fun x => { x with valve := .wet, useTag := some .manual, opened := some ⟨0, 1⟩ }
     s.drawingSet 0 = [3, 4] ∧ (∀ z ∈ s.drawingSet 0, (s.zone z).valve = .wet) ∧
      0 < sumOver (s.drawingSet 0) (fun z => (s.zone z).openedFlow)) ∧
    ((opening.updMeter 0 fun m => { m with settling := true }).meter 0).settling = true := by decide +kernel

theorem witness_SetMeterClosesOutAndReplaces :
    (∀ d ∈ [Directive.setMeter 4 ⟨255, 1, 5, 5, 1, 1⟩, .setMeter 3 ⟨255, 1, 5, 5, 1, 1⟩, .setMeter 3 ⟨0, 50000, 60, 50, 500, 0⟩],
      (busy (holding base .a) .a d).completing .a d) ∧ ((holding base .a).hold planEntry = .held .a ∧ base.hold planEntry ≠ .held .a ∧
      (128 ∈ [1, 2, 4, 8, 16, 32, 64, 128] ∧ (128 ≤ 255 ∨ (255 = 0 ∧ 128 = 1)) ∧ (255 < 2 * 128 ∨ 128 = 128)) ∧
      (1 ∈ [1, 2, 4, 8, 16, 32, 64, 128] ∧ (1 ≤ 0 ∨ (0 = 0 ∧ 1 = 1)) ∧ (0 < 2 * 1 ∨ 1 = 128))) ∧
      ∀ held, (overBreak base .a (.setMeter 3 ⟨128, 1, 5, 5, 1, 1⟩) held).completingUnanswered .a (.setMeter 3 ⟨128, 1, 5, 5, 1, 1⟩) held ∧
        (overBreak base .a (.setMeter 3 ⟨128, 1, 5, 5, 1, 1⟩) held).hold planEntry ≠ .held .a :=
  ⟨fun d _ => busy_completing _ _ d rfl (by decide), by decide +kernel, fun _ => ⟨⟨rfl, rfl⟩, (nomatch ·)⟩⟩

theorem witness_DeclarationReplacesTheCeilings :
    (∀ d ∈ [Directive.declareSupply ⟨20001, 0, 0, 0, 0⟩ 30, .declareSupply ⟨20000, 0, 0, 0, 20001⟩ 29, .declareSupply ⟨20000, 0, 0, 0, 0⟩ 3600],
      (busy (strict base .b) .b d).completing .b d ∧ (busy base .b d).completing .b d ∧ ((busy base .b d).port .b).mailbox = .executing d none ∧
        ((base.updPort .b fun q => { q with mailbox := .pending d }).port .b).mailbox = .pending d) ∧
      (base.ceilingReportOwed = false ∧ base.resetLow = false ∧ ((strict base .b).port .b).strict = true ∧ (base.port .b).strict = false ∧
        (base.port .b).mailbox = .empty) :=
  ⟨fun d _ => ⟨busy_completing _ _ d rfl (by decide), busy_completing _ _ d rfl (by decide), rfl, rfl⟩, by decide +kernel⟩

theorem witness_FallbacksAreReplacedAndLapsedTo :
    (∀ d ∈ [Directive.setFallback ⟨20000, 0, 0, 0, 20001⟩, .setFallback ⟨20000, 0, 0, 0, 20000⟩],
      (busy (strict base .b) .b d).completing .b d ∧ ((busy base .b d).port .b).mailbox = .executing d none ∧
        ((base.updPort .b fun q => { q with mailbox := .pending d }).port .b).mailbox = .pending d) ∧
      (base.ceilingReportOwed = false ∧ base.resetLow = false ∧ base.supply.status = .declared ∧ base.supply.validity = some 0 ∧
        State.reset.supply.status ≠ .declared ∧ (base.port .b).mailbox = .empty) :=
  ⟨fun d _ => ⟨busy_completing _ _ d rfl (by decide), rfl, rfl⟩, by decide +kernel⟩

theorem witness_ShedWalkEndsWithinTheCeilings :
    ((wet .quota).ordersMatch ∧ (wet .quota).openWithin) ∧
    (let s : State := { (wet .quota).updZone 4 (fun x => { x with valve := .opening, useTag := some .manual, opened := some ⟨1, 900⟩ }) with
        energising := [4]
        supply := { base.supply with inForce := ⟨1000, #v[99, 900, 0, 0]⟩ } }
     s.ordersMatch ∧ s.energising.reverse ++ s.wetOrder = [4] ++ 3 :: [] ∧ (s.zone 3).opened = some ⟨0, 100⟩ ∧
      s.supply.inForce.header[(0 : HeaderId)] < s.openFlow 0 ∧ (s.zone 4).opened = some ⟨1, 900⟩ ∧
      ¬s.supply.inForce.header[(1 : HeaderId)] < s.openFlow 1 ∧ ¬s.supply.inForce.total < s.totalOpenFlow) := by
  unfold State.ordersMatch State.openWithin; decide +kernel

/-- Fresh slots of 10 and 31 tenths of a degree, and a stale one of −400: at the arm threshold, and the second one above the disarm threshold. -/
def chill : State := { base with climate := { base.climate with slots := ⟨some ⟨31, 299, true⟩, some ⟨10, 300, true⟩, some ⟨-400, 300, false⟩⟩ } }

/-- The warm slot alone is left, in ARMED-AUTO with the thaw hold reached. -/
def mild : State :=
  { chill with climate := { chill.climate with slots := ⟨some ⟨31, 299, true⟩, none, none⟩, effective := some 31, frost := .armedAuto, thawTimer := 1800 } }

theorem chill_freshAt (t : Int) : chill.freshAt t ↔ t = 31 ∨ t = 10 := by
  constructor
  · rintro ⟨p, x, h, hf, rfl⟩
    cases p <;> cases h
    · exact .inl rfl
    · exact .inr rfl
    · cases hf
  · rintro (rfl | rfl)
    · exact ⟨.a, _, rfl, rfl, rfl⟩
    · exact ⟨.b, _, rfl, rfl, rfl⟩

theorem mild_freshAt (t : Int) : mild.freshAt t ↔ t = 31 := by
  constructor
  · rintro ⟨p, x, h, hf, rfl⟩
    cases p <;> cases h
    rfl
  · rintro rfl
    exact ⟨.a, _, rfl, rfl, rfl⟩

theorem base_not_freshAt (t : Int) : ¬base.freshAt t := by
  rintro ⟨p, x, h, _⟩
  cases p <;> cases h

theorem witness_ReportsAndExpiriesEvaluateTheClimate :
    ((∀ t, some 10 = some t ↔ chill.freshAt t ∧ ∀ t', chill.freshAt t' → t ≤ t') ∧ (∃ t, some (10 : Int) = some t ∧ t ≤ chill.climate.limits.arm) ∧
      chill.climate.frost = .disarmed ∧ chill.climate.inhibit = false) ∧
    ((∀ t, some 31 = some t ↔ mild.freshAt t ∧ ∀ t', mild.freshAt t' → t ≤ t') ∧ (∃ t, some (31 : Int) = some t ∧ mild.climate.limits.disarm < t) ∧
      mild.climate.frost = .armedAuto ∧ mild.climate.limits.thawHold ≤ mild.climate.thawTimer ∧ mild.resetLow = false ∧
      ∃ t, mild.climate.effective = some t ∧ mild.climate.limits.disarm < t) ∧
    (∀ t, none = some t ↔ base.freshAt t ∧ ∀ t', base.freshAt t' → t ≤ t') ∧ armed.climate.frost = .armedManual ∧
    (∀ v : Int, (busy base .c (.reportTemperature v)).completing .c (.reportTemperature v)) ∧
    (chill.resetLow = false ∧ chill.climate.slots.get .b = some ⟨10, 300, true⟩ ∧ chill.climate.limits.timeout ≤ 300 ∧
      (∀ x, chill.climate.slots.get .a = some x → x.fresh = false ∨ x.age < chill.climate.limits.timeout)) := by
  refine ⟨⟨fun t => ?_, ⟨10, rfl, by decide⟩, by decide⟩, ⟨fun t => ?_, ⟨31, rfl, by decide⟩, rfl, by decide, rfl, 31, rfl, by decide⟩, fun t => ?_, rfl,
    fun _ => busy_completing _ _ _ rfl (by decide), rfl, rfl, by decide, ?_⟩
  · constructor
    · rintro ⟨⟩
      exact ⟨(chill_freshAt 10).2 (.inr rfl), fun u hu => by rcases (chill_freshAt u).1 hu with rfl | rfl <;> decide⟩
    · rintro ⟨ht, hl⟩
      rcases (chill_freshAt t).1 ht with rfl | rfl
      · exact absurd (hl 10 ((chill_freshAt 10).2 (.inr rfl))) (by decide)
      · rfl
  · constructor
    · rintro ⟨⟩
      exact ⟨(mild_freshAt 31).2 rfl, fun u hu => by rw [(mild_freshAt u).1 hu]⟩
    · rintro ⟨ht, -⟩
      rw [(mild_freshAt t).1 ht]
  · exact ⟨(nomatch ·), fun h => absurd h.1 (base_not_freshAt t)⟩
  · intro x h
    cases h
    exact .inr (by decide)

theorem witness_ArmAndDisarmActByTheFrostState :
    (busy base .c .armFrost).completing .c .armFrost ∧ (busy armed .c .disarmFrost).completing .c .disarmFrost :=
  ⟨busy_completing _ _ _ rfl (by decide), busy_completing _ _ _ rfl (by decide)⟩

theorem witness_ArmingPushesAndDisarmingPops :
    (opening.engine.regime ≠ .frost ∧ opening.engine.regime = .quota ∧ (opening.zone 3).useTag = some .quota ∧ opening.visiting 3 = true ∧
      (3 : ZoneId) ∈ opening.ring ∧ opening.visiting 31 = false) ∧
      (let s : State := { (wet .manual).updZone 5 (fun x => { x with valve := .closing, useTag := some .manual, endedBy := some .lockout }) with
        engine := { base.engine with
          regime := .manual, manual := some [⟨5, 60, 0, .running⟩, ⟨3, 60, 30, .running⟩], stack := [.quota 0 0] } }
       s.engine.regime = .manual ∧ s.engine.regime ≠ .frost ∧ (s.zone 3).useTag = some .manual ∧ (s.zone 3).isOpen = true ∧
        (s.zone 5).endedBy = some .lockout) ∧
      armed.engine.stack = [] ++ [.quota 0 0] ∧ base.engine.stack = [] ∧
      [Frame.manual [⟨3, 60, 60, .waiting⟩]] = [] ++ [.manual [⟨3, 60, 60, .waiting⟩]] ∧
      ([Frame.quota 0 7, .manual [⟨3, 60, 0, .done⟩]] = [.quota 0 7] ++ [.manual [⟨3, 60, 0, .done⟩]] ∧
        ∀ e ∈ [(⟨3, 60, 0, .done⟩ : Entry)], e.state ≠ .waiting) := by decide +kernel

theorem witness_FrostLimitsAreReplaced :
    (∀ d ∈ [Directive.setFrostLimits 51 0 0 60, .setFrostLimits 50 54 0 60, .setFrostLimits 50 100 7201 60, .setFrostLimits 50 100 7200 1801,
      .setFrostLimits 50 55 7200 1800], (busy (strict armed .c) .c d).completing .c d ∧ (busy armed .c d).completing .c d) ∧
      ((strict armed .c).port .c).strict = true ∧ (armed.port .c).strict = false :=
  ⟨fun d _ => ⟨busy_completing _ _ d rfl (by decide), busy_completing _ _ d rfl (by decide)⟩, by decide +kernel⟩

theorem witness_TriageAdmitsWithinTheCeilings :
    (let s := queued { armed with loads := ⟨1000, Vector.replicate 4 1000⟩ }
     s.loadsWithin ∧ s.armed = true ∧ ∃ t, step s = .next t) ∧
    base.mayBeAdmitted 3 sample 11 ∧ ((base.triage.zone 3).admitted = true ∧ (base.triage.zone 3).requiredFlow = some 11) ∧
      ({ base with supply := { base.supply with inForce := ⟨100, #v[99, 0, 0, 0]⟩ } } : State).mayBeAdmitted 3 sample 11 ∧
      ∀ x r, ¬base.mayBeAdmitted 31 x r := by
  refine ⟨⟨?_, by decide, _, rfl⟩, ?_, by decide +kernel, ?_, fun x r h => nomatch (show none = some x from h.1)⟩
  · unfold State.loadsWithin; decide +kernel
  · unfold State.mayBeAdmitted; decide +kernel
  · unfold State.mayBeAdmitted; decide +kernel

theorem witness_PlannerEventsActWhenDue :
    (opening.resetLow = false ∧ (opening.zone 3).visit = .openVisit ∧ (opening.zone 3).guardTimer = some 0 ∧ (opening.zone 3).isOpen = true ∧
      (opening.zone 3).useTag = some .quota) ∧
    (let s := (wet .frost).updZone 3 fun x => { x with frostVisit := true, dwellRemaining := some 0 }
     (s.zone 3).frostVisit = true ∧ (s.zone 3).dwellRemaining = some 0 ∧ (s.zone 3).isOpen = true ∧ (s.zone 3).useTag = some .frost) ∧
    (let s : State := { wet .manual with engine := { base.engine with regime := .manual, manual := some [⟨3, 60, 0, .running⟩] } }
     s.engine.manual = some [⟨3, 60, 0, .running⟩] ∧ (s.zone 3).valve = .wet ∧ (s.zone 3).useTag = some .manual) ∧
    (base.zone 3).programme = some sample := by decide +kernel

theorem witness_VisitsCompleteAndTheAllotmentIsTested :
    (let s := opening.updZone 3 fun x => { x with visitVolume := 1700 }
     [(3 : ZoneId)].Nodup ∧ ((3 : ZoneId) ∈ [(3 : ZoneId)] ∧ (s.zone 3).visit = .openVisit ∧ (s.zone 3).visitTarget = some 1700 ∧
       1700 ≤ (s.zone 3).visitVolume) ∧ (s.zone 3).isOpen = true ∧ (s.zone 3).useTag = some .quota) ∧
    (let s : State := { opening.updZone 3 (fun x => { x with quotaVolume := 4900 }) with clock := { opening.clock with allotment := some 49 } }
     s.clock.allotment = some 49 ∧ 49 * 100 ≤ sumOver zoneIds (fun z => (s.zone z).quotaVolume) ∧ s.planner.allotmentReached = false ∧
       (s.zone 3).visit = .openVisit ∧ (s.zone 5).visit ≠ .openVisit) ∧
    ¬49 * 100 ≤ sumOver zoneIds (fun z => ((opening.updZone 3 fun x => { x with quotaVolume := 4899 }).zone z).quotaVolume) := by decide +kernel

theorem witness_QuotaIsStartedAndStopped :
    ((busy opening .a .startQuota).completing .a .startQuota ∧ opening.engine.regime = .quota) ∧
      ((busy base .a .startQuota).completing .a .startQuota ∧ base.engine.regime = .idle) ∧
      ((busy armed .a .stopQuota).completing .a .stopQuota ∧ armed.engine.regime ≠ .quota ∧ Frame.quota 0 0 ∈ armed.engine.stack) ∧
      ((busy opening .a .stopQuota).completing .a .stopQuota ∧ opening.engine.stack = []) := by
  refine ⟨⟨busy_completing _ _ _ rfl (by decide), by decide⟩, ⟨busy_completing _ _ _ rfl (by decide), by decide⟩,
    ⟨busy_completing _ _ _ rfl (by decide), by decide, by decide⟩, busy_completing _ _ _ rfl (by decide), by decide⟩

theorem witness_ManualIsRunAndCancelled :
    (∀ es ∈ [[], List.replicate 9 (3, 10), [(3, 10), (32, 10)], [(3, 9)], [(4, 10)], List.replicate 8 (3, 3600)],
      (busy (strict base .a) .a (.runManual es)).completing .a (.runManual es)) ∧
      (List.replicate 8 (3, 3600)).map (·.1) = (List.replicate 8 (3 : ZoneId)).map (·.val) ∧ (base.zone 3).programme ≠ none ∧
      (base.zone 4).programme = none ∧ base.engine.regime = .idle ∧ opening.engine.regime = .quota ∧ opening.visiting 3 = true ∧
      (let s : State := { wet .manual with engine := { base.engine with regime := .manual, manual := some [], stack := [.quota 0 7] } }
       (busy s .a .cancelManual).completing .a .cancelManual ∧ s.engine.regime = .manual ∧ s.engine.stack = [.quota 0 7]) :=
  ⟨fun es _ => busy_completing _ _ (.runManual es) rfl (by decide), by decide +kernel, by decide +kernel, by decide +kernel, by decide, by decide, by decide +kernel,
    busy_completing _ _ _ rfl (by decide), rfl, rfl⟩

theorem witness_RunStateActsOnDirectivesAndStop :
    (∀ d ∈ [Directive.pause, .resume, .shutdown], (busy (wet .quota) .a d).completing .a d) ∧ (wet .quota).engine.runState ≠ .stopped ∧
      opening.visiting 3 = true ∧
      ((wet .quota).stopLow = false ∧ (wet .quota).resetLow = false) ∧ (after .stopAsserted base).stopLow = true ∧
      (after (.stopReleased) (after .stopAsserted base)).engine.stopCause = some .stopLine :=
  ⟨fun d _ => busy_completing _ _ d rfl (by decide), by decide +kernel⟩

theorem witness_SelectionOpensOnlyWhatItMay :
    base.engine.regime = .idle ∧ (closing.zone 3).valve = .closing ∧
      (let s : State := { base with engine := { base.engine with regime := .quota } }
       (s.zone 3).isOpen = false ∧ (s.select.zone 3).isOpen = true) := by decide +kernel

/-- QUOTA in force over `base`. -/
def rotating : State := { base with engine := { base.engine with regime := .quota } }

theorem witness_QuotaSelectionFollowsTheListAndTheRing :
    (rotating.engine.regime = .quota ∧ rotating.engine.runState = .running ∧ rotating.supplyInFlight = []) ∧
    (rotating.mayRotate 3 sample ∧ rotating.hasRoom sample ∧ rotating.planner.suspended = [] ∧ rotating.ring[0]? = some 3 ∧
      ((List.range rotating.ring.length).map fun i => (rotating.planner.pointer + i) % rotating.ring.length) = [] ++ 0 :: []) ∧
    (let s : State := { rotating with supply := { rotating.supply with inForce := ⟨1000, #v[99, 0, 0, 0]⟩ } }
     s.mayRotate 3 sample ∧ ¬s.hasRoom sample) ∧
    (let s : State := { rotating.updZone 3 (fun x => { x with visit := .suspended, visitTarget := some 1667, visitVolume := 1666 }) with
      planner := { rotating.planner with suspended := [3] } }
     s.planner.suspended = [] ++ 3 :: [] ∧ s.mayRotate 3 sample ∧ (s.zone 3).visitTarget = some 1667 ∧ s.hasRoom sample) ∧
    ∀ z x, ¬({ rotating with planner := { rotating.planner with allotmentReached := true } } : State).mayRotate z x := by
  refine ⟨by decide +kernel, ?_, ?_, ?_, fun z x h => nomatch (show true = false from h.2.2.2.2.2.2.2.2.2)⟩ <;>
    (unfold State.mayRotate State.hasRoom; decide +kernel)

theorem witness_ManualWalkTakesTheEntriesInOrder :
    (let s : State := { base with engine := { base.engine with
      regime := .manual, manual := some ([⟨5, 60, 0, .done⟩] ++ ⟨3, 60, 60, .waiting⟩ :: [⟨31, 60, 60, .waiting⟩]) } }
     (s.engine.regime = .manual ∧ s.engine.runState = .running ∧ s.supplyInFlight = []) ∧
      (∀ y ∈ [(⟨5, 60, 0, .done⟩ : Entry)], y.state ≠ .waiting) ∧ (s.zone 3).programme = some sample ∧ (s.zone 3).lockout = none ∧
      (s.zone 3).valve = .shut ∧ s.hasRoom sample ∧ (s.zone 31).programme = none ∧
      ((s.updZone 3 fun x => { x with lockout := some .burst }).zone 3).lockout ≠ none ∧ (opening.zone 3).valve ≠ .shut) ∧
    ((∀ e ∈ [(⟨5, 60, 0, .done⟩ : Entry), ⟨3, 60, 60, .skipped⟩], e.state ≠ .waiting ∧ e.state ≠ .running) ∧
      (∃ e ∈ [(⟨3, 60, 30, .running⟩ : Entry)], e.state = .running) ∧ base.engine.stack = [] ∧ armed.engine.stack = [.quota 0 0]) := by
  unfold State.hasRoom; decide +kernel

theorem witness_FrostSelectionServesTheLeastSlack :
    let s := armed.updZone 3 fun x => { x with admitted := true }
    (s.engine.regime = .frost ∧ s.engine.runState = .running ∧ s.supplyInFlight = []) ∧ s.mayProtect 3 sample ∧ s.hasRoom sample ∧
      (∀ y v, y ≠ 3 → s.mayProtect y v → s.protectsBefore 3 sample y v) ∧ ∀ z x, ¬armed.mayProtect z x := by
  have key : ∀ y : ZoneId, y ≠ 3 → ((armed.updZone 3 fun x => { x with admitted := true }).zone y).programme = none := by decide +kernel
  have none : ∀ z : ZoneId, (armed.zone z).admitted = false := by decide +kernel
  refine ⟨by decide +kernel, by unfold State.mayProtect; decide +kernel, by unfold State.hasRoom; decide +kernel, ?_, ?_⟩
  · intro y v hy h
    exact absurd ((key y hy).symm.trans h.2.2.2) (by simp)
  · intro z x h
    exact absurd ((none z).symm.trans h.1) (by simp)

theorem witness_ResetAssertionSilencesThePart : opening.resetLow = false ∧ (after .resetAsserted opening).resetLow = true := by decide +kernel

theorem witness_ResetReleaseRestartsThePart :
    let s := after .resetAsserted (opening.updZone 3 fun x => { x with pendingEdit := some (.edit sample) })
    s.resetLow = true ∧ s.clock.pendingRoll = false ∧ (s.zone 3).pendingEdit = some (.edit sample) ∧
      ({ s with clock := { s.clock with pendingRoll := true } } : State).clock.pendingRoll = true := by decide +kernel

theorem witness_OpenCommandEnergisesTheChannel :
    ((base.zone 3).programme = some sample ∧ (base.zone 3).lockout = none ∧ (base.zone 3).valve = .shut ∧ sample.fill ≠ 0 ∧ base.ordersMatch ∧
      ((base.updZone 3 fun x => { x with programme := some { sample with fill := 0 } }).zone 3).programme = some { sample with fill := 0 } ∧
      (∀ h, base.openFlow h + (if h = sample.header then sample.flow else 0) ≤ base.supply.inForce.header[h]) ∧
      base.totalOpenFlow + sample.flow ≤ base.supply.inForce.total) ∧
    (let s : State := { base with supply := { base.supply with inForce := ⟨99, #v[99, 0, 0, 0]⟩ } }
     s.ordersMatch ∧ s.openWithin ∧ ¬s.totalOpenFlow + sample.flow ≤ s.supply.inForce.total) ∧ (base.zone 31).programme = none := by
  unfold State.ordersMatch State.openWithin; decide +kernel

theorem witness_FillAndCloseTimersExpire :
    opening.resetLow = false ∧
    (closing.resetLow = false ∧ (closing.zone 3).valve = .closing ∧ (closing.zone 3).closeTimer = some 0 ∧
      (closing.zone 3).opened = some ⟨0, 100⟩ ∧ (closing.zone 3).pendingEdit = none ∧ (closing.zone 3).useTag = some .quota ∧
      (closing.zone 3).visit ≠ .openVisit) ∧
    (let s : State := { closing.updZone 3 (fun x =>
        { x with useTag := some .manual, endedBy := some .lockout, lockout := some .noFlow, lockedSinceOpen := true }) with
      climate := armed.climate, engine := { base.engine with regime := .manual, manual := some [⟨3, 60, 30, .running⟩] } }
     (s.zone 3).opened = some ⟨0, 100⟩ ∧ (s.zone 3).lockedSinceOpen = true ∧ s.climate.frost ≠ .disarmed ∧
      ∃ e ∈ s.engine.manual.getD [], e.state = .running ∧ e.zone = 3) := by decide +kernel

theorem witness_DriveSenseFindsFaults :
    ((opening.zone 3).energised = true ∧ (opening.zone 3).senseTimer = some 0 ∧ (opening.zone 3).isOpen = true ∧
      (opening.zone 3).lockout = none ∧ (opening.zone 3).opened = some ⟨0, 100⟩) ∧ ((wet .quota).zone 3).sensePhase = .watching ∧
      (base.zone 3).energised = false := by decide +kernel

theorem witness_LockoutRequestActsOnTheZoneAsItFindsIt :
    ((opening.zone 3).lockout = none ∧ (opening.zone 3).isOpen = true ∧ (opening.zone 3).useTag = some .quota ∧
      (opening.zone 3).visit = .openVisit) ∧ ((wet .frost).zone 3).useTag = some .frost ∧ (closing.zone 3).valve = .closing ∧
      ((armed.zone 3).valve = .shut ∧ (armed.zone 3).lockout = none ∧ armed.climate.frost ≠ .disarmed ∧ (armed.zone 3).programme = some sample) ∧
      ((armed.updZone 31 fun x => { x with lockout := some .burst }).zone 31).lockout ≠ none := by decide +kernel

theorem witness_CloseZoneAndClearLockoutAct :
    (∀ d ∈ [Directive.closeZone 32, .clearLockout 32, .closeZone 3, .clearLockout 3], (busy (wet .manual) .a d).completing .a d) ∧
      ((wet .manual).zone 3).isOpen = true ∧ ((wet .manual).zone 3).useTag = some .manual ∧
      ((base.updZone 31 fun x => { x with lockout := some .burst }).zone 31).lockout = some .burst :=
  ⟨fun d _ => busy_completing _ _ d rfl (by decide), by decide +kernel⟩

end Sys2Proof.Tests
end

section
/-! How a directive's completion is read off its `run`: with its reply where the directive is still in hand at the end (R169, R172), without one after a break
(R170). -/

namespace Sys2Proof.Machine

/-- The port is EXECUTING the directive, over a break or not, with these replies waiting: what only that directive's completion, or its port, can end. -/
def State.inHand (s : State) (p : Port) (d : Directive) (broken : Option Bool) (replies : List Reply) : Prop :=
  (s.port p).mailbox = .executing d broken ∧ (s.port p).replies = replies

theorem State.completing.inHand {s : State} {p : Port} {d : Directive} (h : s.completing p d) : s.inHand p d none (s.port p).replies :=
  ⟨h.2.1, rfl⟩

/-- Opening, closing and shedding touch no mailbox and no reply queue. -/
theorem Quiet.inHand {s t : State} (q : Quiet s t) {p : Port} {d : Directive} {m : Option Bool} {rs : List Reply} (h : s.inHand p d m rs) :
    t.inHand p d m rs := by
  unfold State.inHand
  rw [q.port p]
  exact h

theorem State.updPort_updPort (s : State) (p : Port) (f g : PortState → PortState) :
    (s.updPort p f).updPort p g = s.updPort p fun q => g (f q) := by
  cases p <;> rfl

/-- The completion of a directive whose `run` ends with the directive in hand: its reply joins the queue (R169, R172). -/
theorem State.complete_answered {s t : State} {p : Port} {d : Directive} {run : State → State × Answer} {a : Answer} (h : s.completing p d)
    (hrun : run s = (t, a)) (hk : t.inHand p d none (s.port p).replies) (hc : a.code ≠ .lineError) :
    s.complete p d run = t.answer p d a.code a.clamped a.payload := by
  obtain ⟨hr, hm, hl⟩ := h
  obtain ⟨-, hreplies⟩ := hk
  rw [State.complete_due hr hm, hrun, State.reply_room hc (by simpa [hreplies] using hl), State.updPort_updPort]
  rfl

/-- The completion of a directive that its `run` answers without a change of the state. -/
theorem State.complete_unchanged {s : State} {p : Port} {d : Directive} {run : State → State × Answer} {a : Answer} (h : s.completing p d)
    (hrun : run s = (s, a)) (hc : a.code ≠ .lineError) : s.complete p d run = s.answer p d a.code a.clamped a.payload :=
  State.complete_answered h hrun h.inHand hc

/-- The completion of a directive that is refused with a number in one byte (R175). -/
theorem State.complete_named {s : State} {p : Port} {d : Directive} {run : State → State × Answer} {c : ReplyCode} {n : Nat}
    (h : s.completing p d) (hrun : run s = (s, .naming c n)) (hc : c ≠ .lineError) :
    s.complete p d run = s.answer p d c false [BitVec.ofNat 8 n] :=
  State.complete_unchanged h hrun hc

/-- The completion of a directive that has its effect and answers DONE (R175). -/
theorem State.complete_done {s t : State} {p : Port} {d : Directive} {run : State → State × Answer} {clamped : Bool} (h : s.completing p d)
    (hrun : run s = (t, .done clamped)) (hk : t.inHand p d none (s.port p).replies) : s.complete p d run = t.answer p d .done clamped [] :=
  State.complete_answered h hrun hk (by simp [Answer.done])

/-- The completion of a directive after a break, where its `run` changes nothing: no reply is formed (R170). -/
theorem State.complete_refused_unanswered {s : State} {p : Port} {d : Directive} {held : Bool} {run : State → State × Answer}
    (h : s.completingUnanswered p d held) (hrun : (run s).1 = s) : s.complete p d run = s.unanswered p := by
  obtain ⟨hr, hm⟩ := h
  simp [State.complete, hr, hm, hrun, State.unanswered]

/-! ### What refusals leave -/

theorem indexOf_val {n : Nat} (i : Fin n) : indexOf n i.val = some i := by simp [indexOf]

theorem withIndex_val {n : Nat} (i : Fin n) (s : State) (f : Fin n → State × Answer) : withIndex n i.val s f = f i := by
  simp [withIndex, indexOf_val]

theorem withIndex_above {n v : Nat} (h : n ≤ v) (s : State) (f : Fin n → State × Answer) :
    withIndex n v s f = (s, .naming .range 0) := by
  simp [withIndex, indexOf, Nat.not_lt.mpr h]

/-- A check of groups that one of them fails changes nothing (R27). -/
theorem State.requireGroups_refused {s : State} {p : Port} {gs : List GroupId} (h : ∃ g ∈ gs, s.hold (groupEntry g) ≠ .held p)
    (run : State × Answer) : (s.requireGroups p gs run).1 = s := by
  obtain ⟨g, hg, hne⟩ := h
  rcases s.requireGroups_cases p gs run with ⟨-, hall⟩ | ⟨_, _, _, he⟩
  · exact absurd (hall g hg) hne
  · rw [he]

end Sys2Proof.Machine
end

section
/-! What a selection can do (R124), as a rule of induction: whatever its shared operations keep, it keeps. -/

namespace Sys2Proof.Machine

/-- A predicate that every operation of a selection keeps: opening and shedding, the moves of pointer, run list and regime, a run of triage, and a supply event taken
at one of its points (R87, R124). -/
structure KeptInSelection (P : State → Prop) : Prop where
  quiet : ∀ s t, Quiet s t → P s → P t
  engine : ∀ (s : State) (e : Engine) (pl : Planner), P s → P { s with engine := e, planner := pl }
  triage : ∀ s : State, P s → P s.triage
  inFlight : ∀ (s : State) (l : List InFlight), P s → P { s with supplyInFlight := l }
  owed : ∀ (s : State) (b : Bool), P s → P { s with ceilingReportOwed := b }
  event : ∀ (s : State) (ev : SupplyEvent), P s → P (s.takeAtPoint ev)

namespace KeptInSelection
variable {P : State → Prop}

theorem passPoint (k : KeptInSelection P) {s : State} (h : P s) : P s.passPoint :=
  List.foldlRecOn _ _ (k.inFlight s _ h) fun t ht e _ => k.event t e.event ht

theorem ifFits (k : KeptInSelection P) {x : Programme} {f g : State → State} (hf : ∀ t, P t → P (f t)) (hg : ∀ t, P t → P (g t)) {s : State}
    (h : P s) : P (s.ifFits x f g).state := by
  unfold State.ifFits
  simp only
  split
  · exact hf _ (k.passPoint (k.passPoint h))
  · exact hg _ (k.passPoint h)

theorem movePointer (k : KeptInSelection P) {s : State} (n : Nat) (passed : Bool) (h : P s) : P (s.movePointer n passed) :=
  k.engine s s.engine _ h

theorem suspendedStep (k : KeptInSelection P) (z : ZoneId) (s : State) (h : P s) : P (s.suspendedStep z).state := by
  unfold State.suspendedStep
  split
  · split
    · exact k.ifFits (fun t => k.quiet _ _ (t.continueVisit_quiet z _)) (fun _ => id) h
    · exact h
  · exact h

theorem ringStep (k : KeptInSelection P) (i : Nat) (s : State) (h : P s) : P (s.ringStep i).state := by
  unfold State.ringStep
  split
  · exact h
  · rename_i z _
    split
    · exact h
    · split
      · exact k.ifFits (fun t ht => k.quiet _ _ (State.newVisit_quiet _ z _) (k.movePointer _ _ ht)) (fun t => k.movePointer _ _) h
      · exact h

theorem quotaSelect (k : KeptInSelection P) {s : State} (h : P s) : P s.quotaSelect := by
  have first := Progress.through_keeps State.suspendedStep k.suspendedStep s.planner.suspended s h
  unfold State.quotaSelect
  simp only
  split
  · exact first
  · exact Progress.through_keeps State.ringStep k.ringStep _ _ first

theorem frostStep (k : KeptInSelection P) (u : Urgent) (s : State) (h : P s) : P (s.frostStep u).state :=
  k.ifFits (fun t => k.quiet _ _ (t.frostVisit_quiet u.zone u.programme)) (fun _ => id) h

theorem frostSelect (k : KeptInSelection P) {s : State} (h : P s) : P s.frostSelect :=
  Progress.through_keeps State.frostStep k.frostStep _ s h

theorem setEntry (k : KeptInSelection P) {s : State} (i : Nat) (e : EntryState) (h : P s) : P (s.setEntry i e) :=
  k.engine s _ s.planner h

theorem skipEntry (k : KeptInSelection P) {s : State} (i : Nat) (z : ZoneId) (v : Int) (h : P s) : P (s.skipEntry i z v) :=
  k.quiet _ _ (State.post_quiet _ _ _ _ _ _) (k.setEntry i _ h)

theorem walkStep (k : KeptInSelection P) (i : Nat) (s : State) (h : P s) : P (s.walkStep i).state := by
  unfold State.walkStep
  split
  · exact h
  · rename_i e _
    split
    · split
      · exact k.skipEntry i _ _ h
      · split
        · exact k.skipEntry i _ _ h
        · split
          · exact h
          · exact k.ifFits (fun t ht => k.quiet _ _ (State.openChannel_quiet _ e.zone .manual) (k.setEntry i _ ht)) (fun _ => id) h
    · exact h

theorem walk (k : KeptInSelection P) {s : State} (h : P s) : P s.walk := Progress.through_keeps State.walkStep k.walkStep _ s h

theorem restore (k : KeptInSelection P) {s : State} (port : Option Port) (h : P s) : P (s.restore port) := by
  refine k.quiet _ _ (State.post_quiet _ _ _ _ _ _) ?_
  split
  · exact k.engine s _ s.planner h
  · exact k.engine s _ _ h
  · exact k.engine s _ s.planner h

theorem pop (k : KeptInSelection P) {s : State} (port : Option Port) (h : P s) : P (s.pop port) := by
  unfold State.pop
  simp only
  split
  · exact k.restore port (k.restore port h)
  · exact k.restore port h

theorem selectTurns (k : KeptInSelection P) (n : Nat) {s : State} (h : P s) : P (s.selectTurns n) := by
  induction n generalizing s with
  | zero => exact h
  | succ n ih =>
    unfold State.selectTurns
    split
    · split
      · exact h
      · exact k.quotaSelect h
      · exact k.frostSelect h
      · simp only
        split
        · exact ih (k.pop none (k.walk h))
        · exact k.walk h
    · exact h

theorem selectOnce (k : KeptInSelection P) {s : State} (h : P s) : P s.selectOnce := k.selectTurns _ h

theorem retriage (k : KeptInSelection P) {s : State} (h : P s) : P s.retriage := by
  unfold State.retriage
  split
  · exact k.triage s h
  · exact h

theorem reportTurns (k : KeptInSelection P) (n : Nat) {s : State} (h : P s) : P (s.reportTurns n) := by
  induction n generalizing s with
  | zero => exact h
  | succ n ih =>
    unfold State.reportTurns
    split
    · exact ih (k.selectOnce (k.retriage (k.owed s false h)))
    · exact h

/-- What the operations of a selection keep, the selection keeps, with the reports that follow it (R84, R124). -/
theorem select (k : KeptInSelection P) {s : State} (h : P s) : P s.select := k.reportTurns _ (k.selectOnce h)

end KeptInSelection

end Sys2Proof.Machine
end

section
/-! What a run of triage can do (R158). -/

namespace Sys2Proof.Machine

/-- From `s` to `t` nothing has changed but the frost planner's marks, the admitted loads, and the notice queues. -/
structure Judged (s t : State) : Prop where
  rest : t = { s with zones := t.zones, loads := t.loads, ports := t.ports }
  zone : ∀ z, t.zone z =
    { s.zone z with admitted := (t.zone z).admitted, requiredFlow := (t.zone z).requiredFlow, overdue := (t.zone z).overdue }
  port : ∀ p, t.port p = { s.port p with notices := (t.port p).notices, overflow := (t.port p).overflow }

theorem Judged.refl (s : State) : Judged s s := ⟨rfl, fun _ => rfl, fun _ => rfl⟩

theorem Judged.trans {s t u : State} (h : Judged s t) (k : Judged t u) : Judged s u where
  rest := by rw [k.rest, h.rest]
  zone := fun z => by rw [k.zone z, h.zone z]
  port := fun p => by rw [k.port p, h.port p]

theorem State.post_judged (s : State) (n : NoticeKind) (z : Option ZoneId) (h : Option HeaderId) (p : Option Port) (v : Option Int) :
    Judged s (s.post n z h p v) where
  rest := by rw [State.post_eq]
  zone := fun z' => by simp
  port := (s.post_quiet n z h p v).port

theorem State.admitAll_judged (s : State) (a : Admission) : Judged s (s.admitAll a) where
  rest := rfl
  zone := fun z => by
    have hz : (s.admitAll a).zone z = (s.zone z).judged (a.required z) := s.zone_mapZones (fun z x => x.judged (a.required z)) z
    rw [hz]
    cases a.required z <;> rfl
  port := fun _ => rfl

theorem State.markOverdue_judged (s : State) (z : ZoneId) : Judged s (s.markOverdue z) := by
  unfold State.markOverdue
  simp only
  split
  · refine Judged.trans (t := s.updZone z fun x => { x with overdue := true }) ⟨rfl, fun z' => ?_, fun _ => rfl⟩ (State.post_judged _ _ _ _ _ _)
    rw [State.zone_updZone]
    split
    · subst_vars; rfl
    · rfl
  · exact .refl s

theorem State.markJoined_judged (s : State) (before : List ZoneId) : Judged s (s.markJoined before) := by
  refine State.forZones_rel Judged.refl (fun _ _ _ => Judged.trans) _ (fun z t => ?_) _ s
  split
  · exact .refl t
  · exact t.markOverdue_judged z

theorem State.reportTriage_judged (s : State) (before : List ZoneId) : Judged s (s.reportTriage before) := by
  unfold State.reportTriage
  split
  · exact .refl s
  · exact s.post_judged _ _ _ _ _

/-- Triage changes the frost planner's marks and the loads, and posts notices (R158). -/
theorem State.triage_judged (s : State) : Judged s s.triage :=
  ((s.admitAll_judged _).trans (State.markJoined_judged _ _)).trans (State.reportTriage_judged _ _)

theorem State.retriage_judged (s : State) : Judged s s.retriage := by
  unfold State.retriage
  split
  · exact s.triage_judged
  · exact .refl s

theorem Judged.inHand {s t : State} (j : Judged s t) {p : Port} {d : Directive} {m : Option Bool} {rs : List Reply} (h : s.inHand p d m rs) :
    t.inHand p d m rs := by
  unfold State.inHand
  rw [j.port p]
  exact h

end Sys2Proof.Machine
end

section
/-! A directive stays in hand through a selection: no other directive completes on its port, and none is taken up while it is EXECUTING (R173). -/

namespace Sys2Proof

/-- DECLARE-SUPPLY and SET-FALLBACK: the directives that can complete inside a selection (R87; log entry 10). -/
def Directive.isSupply : Directive → Bool
  | .declareSupply _ _ => true
  | .setFallback _ => true
  | _ => false

end Sys2Proof

namespace Sys2Proof.Machine

theorem State.ceilingChange_inHand {s : State} (before : Flows) (port : Option Port) {p : Port} {d : Directive} {m : Option Bool} {rs : List Reply}
    (h : s.inHand p d m rs) : (s.ceilingChange before port).inHand p d m rs := by
  unfold State.ceilingChange
  split
  · exact h
  · exact (s.shedWalk_quiet port).inHand h

theorem State.declare_inHand {s : State} (q : Port) (flows : Flows) (validity : Nat) {p : Port} {d : Directive} {m : Option Bool} {rs : List Reply}
    (h : s.inHand p d m rs) : (s.declare q flows validity).inHand p d m rs :=
  State.ceilingChange_inHand _ _ ((State.post_quiet _ _ _ _ _ _).inHand h)

theorem State.replaceFallback_inHand {s : State} (q : Port) (flows : Flows) {p : Port} {d : Directive} {m : Option Bool} {rs : List Reply}
    (h : s.inHand p d m rs) : (s.replaceFallback q flows).inHand p d m rs := by
  unfold State.replaceFallback
  split
  · exact h
  · exact State.ceilingChange_inHand _ _ h

theorem State.lapse_inHand {s : State} {p : Port} {d : Directive} {m : Option Bool} {rs : List Reply} (h : s.inHand p d m rs) :
    s.lapse.inHand p d m rs := by
  unfold State.lapse
  split
  · exact State.ceilingChange_inHand _ _ ((State.post_quiet _ _ _ _ _ _).inHand h)
  · exact h

/-- A checked directive keeps what its effect keeps; a refusal changes nothing. -/
theorem Checked.orRange_keeps {α : Type} {P : State → Prop} (c : Checked α) {s : State} {f : α → Bool → State × Answer} (h : P s)
    (hf : ∀ v b, P (f v b).1) : P (c.orRange s f).1 := by
  cases c with
  | ok v b => exact hf v b
  | out i => exact h

/-- The completion of another directive leaves this one in hand: it is on another port, or there is nothing to complete (R172). -/
theorem State.complete_inHand {s : State} {q : Port} {d' : Directive} {run : State → State × Answer} {p : Port} {d : Directive} {m : Option Bool}
    {rs : List Reply} (hne : d' ≠ d) (hrun : (run s).1.inHand p d m rs) (h : s.inHand p d m rs) : (s.complete q d' run).inHand p d m rs := by
  rcases s.complete_cases q d' run with he | ⟨broken, -, hm, he⟩
  · rw [he]; exact h
  · have hpq : p ≠ q := by
      rintro rfl
      exact hne (Mailbox.executing.inj (hm.symm.trans h.1)).1
    have hport : (s.complete q d' run).port p = (run s).1.port p := by
      rw [he]
      split
      · exact State.port_updPort_other _ _ hpq
      · rw [State.reply_port_other _ _ hpq, State.port_updPort_other _ _ hpq]
    unfold State.inHand
    rw [hport]
    exact hrun

/-- While a directive is EXECUTING, none is taken up (R173). -/
theorem State.takeUp_inHand {s : State} {p : Port} {d : Directive} {m : Option Bool} {rs : List Reply} (h : s.inHand p d m rs) : s.takeUp = s := by
  have busy : s.arbiterBusy = true :=
    List.any_eq_true.mpr ⟨p, by cases p <;> simp [allPorts], by rw [h.1]; rfl⟩
  simp [State.takeUp, busy]

/-- A supply event at a point of a selection leaves a directive that is no supply directive in hand (R87). -/
theorem State.takeAtPoint_inHand {s : State} (ev : SupplyEvent) {p : Port} {d : Directive} {m : Option Bool} {rs : List Reply}
    (hd : d.isSupply = false) (h : s.inHand p d m rs) : (s.takeAtPoint ev).inHand p d m rs := by
  unfold State.takeAtPoint State.takeSupplyEvent
  cases ev with
  | lapse => exact State.lapse_inHand h
  | declare q flows validity =>
    simp only [State.takeUp_inHand h]
    refine State.complete_inHand (by rintro rfl; cases hd) ?_ h
    exact Checked.orRange_keeps (P := fun t => t.inHand p d m rs) _ h fun v _ => State.declare_inHand q v.1 v.2 h
  | fallback q flows =>
    simp only [State.takeUp_inHand h]
    refine State.complete_inHand (by rintro rfl; cases hd) ?_ h
    exact Checked.orRange_keeps (P := fun t => t.inHand p d m rs) _ h fun v _ => State.replaceFallback_inHand q v h

/-- Every operation of a selection leaves a directive in hand that is no supply directive. -/
theorem keptInSelection_inHand {p : Port} {d : Directive} (m : Option Bool) (rs : List Reply) (hd : d.isSupply = false) :
    KeptInSelection fun s => s.inHand p d m rs where
  quiet := fun _ _ q h => q.inHand h
  engine := fun _ _ _ h => h
  triage := fun s h => s.triage_judged.inHand h
  inFlight := fun _ _ h => h
  owed := fun _ _ h => h
  event := fun _ ev h => State.takeAtPoint_inHand ev hd h

/-- A directive that is no supply directive is still in hand after its selection, so that its reply finds its port as it was (log entry 30). -/
theorem State.select_inHand {s : State} {p : Port} {d : Directive} {m : Option Bool} {rs : List Reply} (hd : d.isSupply = false)
    (h : s.inHand p d m rs) : s.select.inHand p d m rs :=
  (keptInSelection_inHand m rs hd).select h

end Sys2Proof.Machine
end

section
/-! Parameters against their ranges (R12, R176): a chain of checks is settled by the first value out of its range. -/

namespace Sys2Proof.Machine

/-- A value, with the ends of its range, stands outside of it. -/
def outOfRange (e : Nat × Nat × Nat) : Bool := decide (e.1 < e.2.1 ∨ e.2.2 < e.1)

/-- The value of the range that is nearest (R12). -/
def intoRange (e : Nat × Nat × Nat) : Nat := max e.2.1 (min e.2.2 e.1)

/-- What checks of these values, with fields counted from `k`, come to where all of them brought into range give `w`: `w`, marked where one was outside, or in strict
mode a refusal by the first that is (R12, R176). -/
def checkedAs {α : Type} (strict : Bool) (k : Nat) (es : List (Nat × Nat × Nat)) (w : α) : Checked α :=
  match es.findIdx? outOfRange with
  | none => .ok w false
  | some i => if strict then .out (k + i) else .ok w true

theorem intoRange_inside {e : Nat × Nat × Nat} (h : outOfRange e = false) : intoRange e = e.1 := by
  have h : e.2.1 ≤ e.1 ∧ e.1 ≤ e.2.2 := by simpa [outOfRange] using h
  unfold intoRange
  omega

theorem checkNat_inside {strict : Bool} {k lo hi v : Nat} (h : outOfRange (v, lo, hi) = false) : checkNat strict k lo hi v = .ok v false := by
  have h : lo ≤ v ∧ v ≤ hi := by simpa [outOfRange] using h
  simp [checkNat, h]

theorem checkNat_strict_outside {k lo hi v : Nat} (h : outOfRange (v, lo, hi) = true) : checkNat true k lo hi v = .out k := by
  have h : ¬(lo ≤ v ∧ v ≤ hi) := by have := of_decide_eq_true h; dsimp only at this; omega
  simp [checkNat, h]

theorem checkNat_clamp_outside {k lo hi v : Nat} (hl : lo ≤ hi) (h : outOfRange (v, lo, hi) = true) :
    checkNat false k lo hi v = .ok (intoRange (v, lo, hi)) true := by
  have hv : v < lo ∨ hi < v := of_decide_eq_true h
  have hn : ¬(lo ≤ v ∧ v ≤ hi) := by omega
  have hc : (if v < lo then lo else hi) = intoRange (v, lo, hi) := by
    unfold intoRange
    dsimp only
    split <;> omega
  simp [checkNat, hn, hc]

theorem checkedAs_nil {α : Type} (strict : Bool) (k : Nat) (w : α) : checkedAs strict k [] w = .ok w false := rfl

theorem checkedAs_cons_inside {α : Type} {strict : Bool} {k : Nat} {e : Nat × Nat × Nat} {es : List (Nat × Nat × Nat)} {w : α}
    (h : outOfRange e = false) : checkedAs strict k (e :: es) w = checkedAs strict (k + 1) es w := by
  unfold checkedAs
  rw [List.findIdx?_cons, h]
  cases es.findIdx? outOfRange with
  | none => rfl
  | some i => simp [Nat.add_comm 1 i, Nat.add_assoc]

theorem checkedAs_cons_outside {α : Type} {strict : Bool} {k : Nat} {e : Nat × Nat × Nat} {es : List (Nat × Nat × Nat)} {w : α}
    (h : outOfRange e = true) : checkedAs strict k (e :: es) w = if strict then .out k else .ok w true := by
  simp [checkedAs, List.findIdx?_cons, h]

/-- In clamp mode checks never refuse. -/
theorem checkedAs_clamp {α : Type} (k : Nat) (es : List (Nat × Nat × Nat)) (w : α) :
    checkedAs false k es w = .ok w (es.findIdx? outOfRange).isSome := by
  unfold checkedAs
  cases es.findIdx? outOfRange <;> rfl

theorem Checked.andThen_unmarked {α β : Type} (v : α) (f : α → Checked β) : (Checked.ok v false).andThen f = f v := by
  dsimp only [Checked.andThen]
  cases f v <;> rfl

/-- One more check at the front of a chain (R12). -/
theorem checkNat_andThen {β : Type} {strict : Bool} {k lo hi v : Nat} {f : Nat → Checked β} {es : List (Nat × Nat × Nat)} {w : β} (hl : lo ≤ hi)
    (h : f (intoRange (v, lo, hi)) = checkedAs strict (k + 1) es w) :
    (checkNat strict k lo hi v).andThen f = checkedAs strict k ((v, lo, hi) :: es) w := by
  by_cases ho : outOfRange (v, lo, hi) = true
  · rw [checkedAs_cons_outside ho]
    cases strict with
    | true => rw [checkNat_strict_outside ho]; rfl
    | false => rw [checkNat_clamp_outside hl ho, Checked.andThen, h, checkedAs_clamp]; rfl
  · have ho : outOfRange (v, lo, hi) = false := by simpa using ho
    rw [checkNat_inside ho, Checked.andThen_unmarked, checkedAs_cons_inside ho, ← h, intoRange_inside ho]

/-- A yes-or-no check at the front of a chain (R12, R71, R176). -/
theorem checkMark_andThen {β : Type} {strict : Bool} {k v : Nat} {f : Bool → Checked β} {es : List (Nat × Nat × Nat)} {w : β}
    (h : f (decide (intoRange (v, 0, 1) = 1)) = checkedAs strict (k + 1) es w) :
    (checkMark strict k v).andThen f = checkedAs strict k ((v, 0, 1) :: es) w := by
  rw [← checkNat_andThen (f := fun n => f (decide (n = 1))) (Nat.zero_le 1) h]
  unfold checkMark Checked.andThen
  cases checkNat strict k 0 1 v with
  | out i => rfl
  | ok n m => simp

/-! ### EDIT-ZONE -/

/-- The ranges of the thirteen fields, in index order (R1). -/
def programmeRanges : List (Nat × Nat) :=
  [(0, 3), (0, 7), (0, 1), (1, 6000), (0, 600), (1, 120), (0, 2000000), (1, 15), (0, 7200), (0, 1), (1, 32), (10, 900), (10, 1800)]

/-- The programme with every field brought into its range (R12). -/
def clampedProgramme (f : ZoneFields) : Programme where
  header := Fin.ofNat 4 (intoRange (f.header, 0, 3))
  group := Fin.ofNat 8 (intoRange (f.group, 0, 7))
  enabled := decide (intoRange (f.enabled, 0, 1) = 1)
  flow := intoRange (f.flow, 1, 6000)
  fill := intoRange (f.fill, 0, 600)
  closing := intoRange (f.closing, 1, 120)
  quota := intoRange (f.quota, 0, 2000000)
  cycles := intoRange (f.cycles, 1, 15)
  soak := intoRange (f.soak, 0, 7200)
  frostMember := decide (intoRange (f.frostMember, 0, 1) = 1)
  frostRank := intoRange (f.frostRank, 1, 32)
  dwell := intoRange (f.dwell, 10, 900)
  maxDry := intoRange (f.maxDry, 10, 1800)

/-- The check of EDIT-ZONE's fields goes through the ranges of R1 in index order (R12). -/
theorem checkProgramme_eq (strict : Bool) (f : ZoneFields) :
    checkProgramme strict f = checkedAs strict 1 (f.values.zip programmeRanges) (clampedProgramme f) := by
  unfold checkProgramme
  refine checkNat_andThen (by decide) ?_
  refine checkNat_andThen (by decide) ?_
  refine checkMark_andThen ?_
  refine checkNat_andThen (by decide) ?_
  refine checkNat_andThen (by decide) ?_
  refine checkNat_andThen (by decide) ?_
  refine checkNat_andThen (by decide) ?_
  refine checkNat_andThen (by decide) ?_
  refine checkNat_andThen (by decide) ?_
  refine checkMark_andThen ?_
  refine checkNat_andThen (by decide) ?_
  refine checkNat_andThen (by decide) ?_
  refine checkNat_andThen (by decide) ?_
  rfl

theorem mark_of_intoRange (v : Nat) : (if decide (intoRange (v, 0, 1) = 1) then 1 else 0) = intoRange (v, 0, 1) := by
  have hr : intoRange (v, 0, 1) = 0 ∨ intoRange (v, 0, 1) = 1 := by unfold intoRange; dsimp only; omega
  rcases hr with h | h <;> simp [h]

theorem ofNat_intoRange {n : Nat} [NeZero n] (v : Nat) : (Fin.ofNat n (intoRange (v, 0, n - 1))).val = intoRange (v, 0, n - 1) := by
  have hn := Nat.pos_of_neZero n
  have hr : intoRange (v, 0, n - 1) < n := by unfold intoRange; dsimp only; omega
  exact Nat.mod_eq_of_lt hr

/-- The fields of that programme, with the marks as numbers, are the values brought into range (R12). -/
theorem clampedProgramme_values (f : ZoneFields) :
    let v := clampedProgramme f
    [v.header.val, v.group.val, if v.enabled then 1 else 0, v.flow, v.fill, v.closing, v.quota, v.cycles, v.soak,
      if v.frostMember then 1 else 0, v.frostRank, v.dwell, v.maxDry] = (f.values.zip programmeRanges).map intoRange := by
  intro v
  have header : v.header.val = _ := ofNat_intoRange (n := 4) f.header
  have group : v.group.val = _ := ofNat_intoRange (n := 8) f.group
  have enabled : (if v.enabled then 1 else 0) = _ := mark_of_intoRange f.enabled
  have frostMember : (if v.frostMember then 1 else 0) = _ := mark_of_intoRange f.frostMember
  rw [header, group, enabled, frostMember]
  rfl

end Sys2Proof.Machine

open Sys2Proof Sys2Proof.Machine

/-- Settles O22: the check of the thirteen fields is one chain through the ranges of R1 (`checkProgramme_eq`). -/
theorem editFieldsAreClampedOrRefused : Obligations.EditFieldsAreClampedOrRefused := by
  intro f
  refine ⟨⟨clampedProgramme f, ?_, clampedProgramme_values f⟩, fun i hi => ?_, fun hn => ?_⟩
  · exact (checkProgramme_eq false f).trans (checkedAs_clamp ..)
  · have hi : (f.values.zip programmeRanges).findIdx? outOfRange = some i := hi
    simp [checkProgramme_eq, checkedAs, hi, Nat.add_comm]
  · have hn : (f.values.zip programmeRanges).findIdx? outOfRange = none := hn
    simp [checkProgramme_eq, checkedAs, hn]

end

section
/-! The application of an edit and its hand-off (R17 to R20, R30). -/

namespace Sys2Proof.Machine

/-! ### The record -/

theorem State.recomputeQuotas_zone (s : State) (z : ZoneId) :
    s.recomputeQuotas.zone z = { s.zone z with effectiveQuota := s.quotaShare z } :=
  s.zone_mapZones (fun z x => { x with effectiveQuota := s.quotaShare z }) z

/-- A zone leaves the suspended list, where it stands on it (R17, R18). -/
theorem State.dropSuspended_eq (s : State) (z : ZoneId) :
    s.dropSuspended z =
      { s with
        zones := (s.dropSuspended z).zones
        planner := { s.planner with suspended := s.planner.suspended.filter fun i => decide (i ≠ z) } } := by
  unfold State.dropSuspended
  split
  · rfl
  · rename_i h
    have hf : (s.planner.suspended.filter fun i => decide (i ≠ z)) = s.planner.suspended :=
      List.filter_eq_self.mpr fun i hi => decide_eq_true fun he => h (he ▸ hi)
    rw [hf]

theorem State.dropSuspended_zone (s : State) (z z' : ZoneId) :
    (s.dropSuspended z).zone z' = if z' = z ∧ z ∈ s.planner.suspended then (s.zone z).noVisit else s.zone z' := by
  unfold State.dropSuspended
  split
  · rename_i h
    change (s.updZone z Zone.noVisit).zone z' = _
    simp [State.zone_updZone, h]
  · rename_i h
    simp [h]

theorem State.applyEdit_zone (s : State) (z z' : ZoneId) (e : PendingEdit) :
    (s.applyEdit z e).zone z' =
      if z' = z then (if z ∈ s.planner.suspended then ((s.zone z).applied e).noVisit else (s.zone z).applied e) else s.zone z' := by
  unfold State.applyEdit
  simp only [State.dropSuspended_zone, State.zone_updZone, State.updZone_planner, if_true]
  by_cases hz : z' = z <;> simp [hz]

/-- An application changes zone records and the suspended list, and nothing else (R17, R18). -/
theorem State.applyEdit_eq (s : State) (z : ZoneId) (e : PendingEdit) :
    s.applyEdit z e =
      { s with
        zones := (s.applyEdit z e).zones
        planner := { s.planner with suspended := s.planner.suspended.filter fun i => decide (i ≠ z) } } :=
  State.dropSuspended_eq (s.updZone z fun x => x.applied e) z

/-- The programme that an edit leaves (R16 to R18). -/
def PendingEdit.target : PendingEdit → Option Programme
  | .edit v => some v
  | .clear => none

theorem Zone.applied_programme (x : Zone) (e : PendingEdit) : (x.applied e).programme = e.target := by cases e <;> rfl

theorem Zone.applied_pendingEdit (x : Zone) (e : PendingEdit) : (x.applied e).pendingEdit = none := by cases e <;> rfl

theorem Zone.applied_lockout (x : Zone) (e : PendingEdit) : (x.applied e).lockout = x.lockout := by cases e <;> rfl

/-- The parts of the edited record that the hand-off reads. -/
theorem State.applyEdit_zone_same (s : State) (z : ZoneId) (e : PendingEdit) :
    ((s.applyEdit z e).zone z).programme = e.target ∧ ((s.applyEdit z e).zone z).pendingEdit = none ∧
      ((s.applyEdit z e).zone z).lockout = (s.zone z).lockout := by
  rw [State.applyEdit_zone, if_pos rfl, ← Zone.applied_programme (s.zone z) e, ← Zone.applied_lockout (s.zone z) e]
  split <;> exact ⟨rfl, Zone.applied_pendingEdit _ _, rfl⟩

/-! ### The hand-off -/

/-- R19's condition on quotas, with the defined state, the enabled field and the quota taken together. -/
theorem quotaInputsDiffer_iff (a b : Zone) :
    quotaInputsDiffer a b = true ↔
      a.programme.map (fun v => (v.enabled, v.quota)) ≠ b.programme.map (fun v => (v.enabled, v.quota)) := by
  unfold quotaInputsDiffer
  cases a.programme <;> cases b.programme <;> simp
  tauto

theorem Zone.frostCandidate_iff (x : Zone) :
    x.frostCandidate = true ↔ x.lockout = none ∧ ∃ v, x.programme = some v ∧ v.enabled = true ∧ v.frostMember = true := by
  unfold Zone.frostCandidate Zone.frostMember
  cases x.programme <;> simp [and_comm]

/-- The first part of the hand-off: the effective quotas are recomputed where their inputs differ (R19). -/
def State.handOffQuotas (s : State) (z : ZoneId) (before : Zone) : State :=
  if decide (z ∈ s.ring) && quotaInputsDiffer before (s.zone z) then s.recomputeQuotas else s

theorem State.handOffQuotas_eq (s : State) (z : ZoneId) (before : Zone) :
    s.handOffQuotas z before = { s with zones := (s.handOffQuotas z before).zones } := by
  unfold State.handOffQuotas
  split <;> rfl

theorem State.handOffQuotas_zone (s : State) (z : ZoneId) (before : Zone) (z' : ZoneId) :
    (s.handOffQuotas z before).zone z' = { s.zone z' with effectiveQuota := ((s.handOffQuotas z before).zone z').effectiveQuota } := by
  unfold State.handOffQuotas
  split
  · rw [State.recomputeQuotas_zone]
  · rfl

/-- The hand-off, by whether the zone was a frost candidate or is one (R19). -/
theorem State.handOff_eq (s : State) (z : ZoneId) (before : Zone) :
    s.handOff z before =
      if before.frostCandidate || (s.zone z).frostCandidate then (s.handOffQuotas z before).retriage else s.handOffQuotas z before := by
  have hc : ((s.handOffQuotas z before).zone z).frostCandidate = (s.zone z).frostCandidate := by rw [State.handOffQuotas_zone]; rfl
  rw [← hc]
  rfl

theorem State.handOff_judged (s : State) (z : ZoneId) (before : Zone) : Judged (s.handOffQuotas z before) (s.handOff z before) := by
  rw [State.handOff_eq]
  split
  · exact State.retriage_judged _
  · exact .refl _

/-- What an application with its hand-off leaves of the record of a zone (R17 to R19). -/
theorem State.applyNow_zone (s : State) (z : ZoneId) (e : PendingEdit) (z' : ZoneId) :
    ((s.applyNow z e).zone z').programme = ((s.applyEdit z e).zone z').programme ∧
      ((s.applyNow z e).zone z').pendingEdit = ((s.applyEdit z e).zone z').pendingEdit := by
  unfold State.applyNow
  rw [(State.handOff_judged _ z (s.zone z)).zone z', State.handOffQuotas_zone]
  exact ⟨rfl, rfl⟩

/-- An application with its hand-off changes zone records, the suspended list and the loads, and posts notices (R17 to R19). -/
theorem State.applyNow_eq (s : State) (z : ZoneId) (e : PendingEdit) :
    s.applyNow z e =
      { s with
        zones := (s.applyNow z e).zones
        planner := { s.planner with suspended := s.planner.suspended.filter fun i => decide (i ≠ z) }
        loads := (s.applyNow z e).loads
        ports := (s.applyNow z e).ports } := by
  have hquotas := (s.applyEdit z e).handOffQuotas_eq z (s.zone z)
  have htriage := ((s.applyEdit z e).handOff_judged z (s.zone z)).rest
  have hedit := s.applyEdit_eq z e
  unfold State.applyNow
  generalize (s.applyEdit z e).handOff z (s.zone z) = t at *
  generalize (s.applyEdit z e).handOffQuotas z (s.zone z) = u at *
  rw [htriage, hquotas, hedit]

theorem State.applyNow_hold (s : State) (z : ZoneId) (e : PendingEdit) (i : EntryId) : (s.applyNow z e).hold i = s.hold i := by
  rw [State.applyNow_eq]
  rfl

/-- An application leaves every directive in hand. -/
theorem State.applyNow_inHand {s : State} (z : ZoneId) (e : PendingEdit) {p : Port} {d : Directive} {m : Option Bool} {rs : List Reply}
    (h : s.inHand p d m rs) : (s.applyNow z e).inHand p d m rs := by
  refine (State.handOff_judged _ z (s.zone z)).inHand ?_
  have hp : ((s.applyEdit z e).handOffQuotas z (s.zone z)).port p = s.port p := by
    rw [State.handOffQuotas_eq, State.applyEdit_eq]
    rfl
  unfold State.inHand
  rw [hp]
  exact h

/-- The quotas of the hand-off, by what the edit replaces (R19). -/
theorem State.applyEdit_handOffQuotas (s : State) (z : ZoneId) (e : PendingEdit) :
    (s.applyEdit z e).handOffQuotas z (s.zone z) =
      if z ∈ s.ring ∧ (s.zone z).programme.map (fun v => (v.enabled, v.quota)) ≠ e.target.map (fun v => (v.enabled, v.quota))
      then (s.applyEdit z e).recomputeQuotas else s.applyEdit z e := by
  obtain ⟨hprogramme, -, -⟩ := s.applyEdit_zone_same z e
  have hring : (s.applyEdit z e).ring = s.ring := by rw [State.applyEdit_eq]
  simp only [State.handOffQuotas, Bool.and_eq_true, decide_eq_true_eq, quotaInputsDiffer_iff, hprogramme, hring]

/-- A zone would be a frost candidate with this programme (R156). -/
def Zone.candidateWith (x : Zone) (o : Option Programme) : Prop :=
  x.lockout = none ∧ ∃ v, o = some v ∧ v.enabled = true ∧ v.frostMember = true

/-- An application with its hand-off, by whether frost is armed and the zone was a frost candidate or is one (R19). -/
theorem State.applyNow_cases (s : State) (z : ZoneId) (e : PendingEdit) :
    let u := (s.applyEdit z e).handOffQuotas z (s.zone z)
    let judged := (s.zone z).candidateWith (s.zone z).programme ∨ (s.zone z).candidateWith e.target
    (s.climate.frost ≠ .disarmed → judged → s.applyNow z e = u.triage) ∧
      (s.climate.frost = .disarmed ∨ ¬judged → s.applyNow z e = u) := by
  intro u judged
  obtain ⟨hprogramme, -, hlockout⟩ := s.applyEdit_zone_same z e
  have hjudged : ((s.zone z).frostCandidate || ((s.applyEdit z e).zone z).frostCandidate) = true ↔ judged := by
    simp only [Bool.or_eq_true, Zone.frostCandidate_iff, hprogramme, hlockout]
    rfl
  have harmed : u.armed = true ↔ s.climate.frost ≠ .disarmed := by
    have hclimate : u.climate = s.climate := by
      change ((s.applyEdit z e).handOffQuotas z (s.zone z)).climate = s.climate
      rw [State.handOffQuotas_eq, State.applyEdit_eq]
    simp [State.armed, hclimate]
  have hhand : s.applyNow z e = _ := (s.applyEdit z e).handOff_eq z (s.zone z)
  rw [hhand]
  unfold State.retriage
  refine ⟨fun ha hj => ?_, fun h => ?_⟩
  · rw [if_pos (hjudged.mpr hj), if_pos (harmed.mpr ha)]
  · rcases h with hd | hj
    · rw [if_neg (harmed.not.mpr (not_not.mpr hd)), ite_self]
    · rw [if_neg (hjudged.not.mpr hj)]

/-! ### The hold table -/

theorem groupEntry_inj {g g' : GroupId} : groupEntry g = groupEntry g' ↔ g = g' := by simp [groupEntry, Fin.ext_iff]

theorem groupEntry_ne_planEntry (g : GroupId) : groupEntry g ≠ planEntry := by
  intro h
  have hv : g.val = 8 := congrArg Fin.val h
  omega

theorem State.setHold_self (s : State) (i : EntryId) : s.setHold i (s.hold i) = s := by
  unfold State.setHold State.hold
  simp

/-- What an entry becomes where the edits of its group have landed: FREE where it is RELEASING and no pending edit is left for the group (R30). -/
def State.landedHold (s : State) (g : GroupId) : Hold :=
  if (s.hold (groupEntry g)).isReleasing = true ∧ s.deferredCount g = 0 then .free else s.hold (groupEntry g)

theorem State.landEdit_eq (s : State) (g : GroupId) : s.landEdit g = s.setHold (groupEntry g) (s.landedHold g) := by
  unfold State.landEdit State.landedHold
  cases h : s.hold (groupEntry g) with
  | free => simpa [Hold.isReleasing, h] using (s.setHold_self (groupEntry g)).symm
  | held q => simpa [Hold.isReleasing, h] using (s.setHold_self (groupEntry g)).symm
  | releasing q =>
    by_cases hd : s.deferredCount g = 0
    · simp [Hold.isReleasing, hd]
    · simpa [Hold.isReleasing, hd, h] using (s.setHold_self (groupEntry g)).symm

theorem State.landEdit_hold (s : State) (g : GroupId) (i : EntryId) :
    (s.landEdit g).hold i = if i = groupEntry g then s.landedHold g else s.hold i := by
  rw [State.landEdit_eq, State.hold_setHold]

theorem State.landEdit_deferredCount (s : State) (g g' : GroupId) : (s.landEdit g).deferredCount g' = s.deferredCount g' := by
  rw [State.landEdit_eq]
  rfl

/-- Landing the edits of one group settles its entry, and leaves every other entry to be settled as before. -/
theorem State.landEdit_landedHold (s : State) (g g' : GroupId) : (s.landEdit g).landedHold g' = s.landedHold g' := by
  by_cases hg : g' = g
  · subst hg
    have hsettled : (s.landEdit g').hold (groupEntry g') = s.landedHold g' := by rw [State.landEdit_hold, if_pos rfl]
    unfold State.landedHold at hsettled ⊢
    rw [hsettled, State.landEdit_deferredCount]
    by_cases hr : (s.hold (groupEntry g')).isReleasing = true ∧ s.deferredCount g' = 0
    · simp [if_pos hr]
    · rw [if_neg hr, if_neg hr]
  · have hsame : (s.landEdit g).hold (groupEntry g') = s.hold (groupEntry g') := by
      rw [State.landEdit_hold, if_neg (groupEntry_inj.not.mpr hg)]
    unfold State.landedHold
    rw [hsame, State.landEdit_deferredCount]

/-- Landing the edits of several groups: each of their entries is settled by the table as it stood, and nothing else changes (R30). -/
theorem State.landEdit_fold (gs : List GroupId) (s : State) :
    gs.foldl State.landEdit s = { s with holds := (gs.foldl State.landEdit s).holds } ∧
      (∀ g, (gs.foldl State.landEdit s).hold (groupEntry g) = if g ∈ gs then s.landedHold g else s.hold (groupEntry g)) ∧
      (gs.foldl State.landEdit s).hold planEntry = s.hold planEntry := by
  induction gs generalizing s with
  | nil => exact ⟨rfl, fun g => by simp, rfl⟩
  | cons g₀ rest ih =>
    obtain ⟨hrest, hentry, hplan⟩ := ih (s.landEdit g₀)
    refine ⟨?_, fun g => ?_, ?_⟩
    · rw [List.foldl_cons, hrest, State.landEdit_eq]
      rfl
    · rw [List.foldl_cons, hentry g, State.landEdit_landedHold, State.landEdit_hold]
      by_cases hg : g = g₀
      · simp [hg]
      · simp [hg, groupEntry_inj]
    · rw [List.foldl_cons, hplan, State.landEdit_hold, if_neg (groupEntry_ne_planEntry g₀).symm]

/-- The hand-off to the hold table after an edit has gone from a zone that was `before` (R19, R30). -/
theorem State.landEdits_eq (s : State) (before : Zone) :
    s.landEdits before = { s with holds := (s.landEdits before).holds } ∧
      (∀ g, (s.landEdits before).hold (groupEntry g) =
        if (s.hold (groupEntry g)).isReleasing = true ∧ before.editBelongs g = true ∧ s.deferredCount g = 0 then .free
        else s.hold (groupEntry g)) ∧
      (s.landEdits before).hold planEntry = s.hold planEntry := by
  obtain ⟨hrest, hentry, hplan⟩ := State.landEdit_fold (groupIds.filter fun g => before.editBelongs g) s
  refine ⟨hrest, fun g => (hentry g).trans ?_, hplan⟩
  have hmem : g ∈ groupIds.filter (fun g => before.editBelongs g) ↔ before.editBelongs g = true := by simp [groupIds]
  unfold State.landedHold
  rw [if_congr hmem rfl rfl]
  by_cases hb : before.editBelongs g = true <;> simp [hb]

end Sys2Proof.Machine

open Sys2Proof Sys2Proof.Machine

/-- Settles O24: the record by `State.applyEdit_zone`, the hand-off by `State.handOff_eq`, the hold table by `State.landEdit_fold`. -/
theorem pendingEditIsAppliedAndHandedOff : Obligations.PendingEditIsAppliedAndHandedOff := by
  refine ⟨fun s z e => ⟨?_, fun z' hz => ?_, s.applyEdit_eq z e⟩, fun s z e => ?_, fun s z e he => ?_⟩
  · rw [State.applyEdit_zone, if_pos rfl]
    cases e with
    | edit v => cases hp : (s.zone z).programme <;> simp [Zone.applied, Zone.noVisit, hp]
    | clear => simp [Zone.applied, Zone.noVisit]
  · rw [State.applyEdit_zone, if_neg hz]
  · have h := s.applyNow_cases z e
    rw [State.applyEdit_handOffQuotas] at h
    cases e <;> exact h
  · have ht : s.applyPending z = (s.applyNow z e).landEdits (s.zone z) := by simp [State.applyPending, he]
    obtain ⟨hrest, hentry, hplan⟩ := (s.applyNow z e).landEdits_eq (s.zone z)
    rw [← ht] at hrest hentry hplan
    have hzone : ∀ z', (s.applyPending z).zone z' = (s.applyNow z e).zone z' := fun z' => by rw [hrest]; rfl
    have hcount : ∀ g, (s.applyPending z).deferredCount g = (s.applyNow z e).deferredCount g := fun g => by rw [hrest]; rfl
    obtain ⟨hprogramme, hedit⟩ := s.applyNow_zone z e z
    obtain ⟨hprogramme', hedit', -⟩ := s.applyEdit_zone_same z e
    refine ⟨hrest, ?_, ?_, fun z' hz => ?_, fun g => ?_, ?_⟩
    · rw [hzone, hedit, hedit']
    · rw [hzone, hprogramme, hprogramme']
      cases e <;> rfl
    · rw [hzone, (s.applyNow_zone z e z').1, (s.applyNow_zone z e z').2, State.applyEdit_zone, if_neg hz]
      exact ⟨rfl, rfl⟩
    · rw [hentry g, hcount g, State.applyNow_hold]
    · rw [hplan, State.applyNow_hold]

end

section
/-! EDIT-ZONE and CLEAR-ZONE at their completion (R11, R13 to R15). -/

namespace Sys2Proof.Machine

/-- The groups of a directive that are not HELD by its port refuse it by the first of them (R13, R27). -/
theorem State.requireGroups_first {s : State} {p : Port} {gs : List GroupId} {g : GroupId}
    (h : gs.find? (fun g => decide (s.hold (groupEntry g) ≠ .held p)) = some g) (run : State × Answer) :
    s.requireGroups p gs run = (s, .naming (if s.hold (groupEntry g) = .releasing p then .releasing else .notHolder) g.val) := by
  unfold State.requireGroups State.firstNotHeld
  rw [h]

theorem State.requireGroups_none {s : State} {p : Port} {gs : List GroupId}
    (h : gs.find? (fun g => decide (s.hold (groupEntry g) ≠ .held p)) = none) (run : State × Answer) : s.requireGroups p gs run = run := by
  unfold State.requireGroups State.firstNotHeld
  rw [h]

/-- The refusal of a hold check is no LINE-ERROR, so that it is no line error either. -/
theorem holdRefusal_ne_lineError (c : Prop) [Decidable c] : (if c then ReplyCode.releasing else .notHolder) ≠ .lineError := by
  split <;> decide

section
variable {s : State} {p : Port} {d : Directive} {run : State → State × Answer}

/-- A completion that a hold check refuses (R13, R27). -/
theorem State.complete_notHeld {gs : List GroupId} {g : GroupId} {r : State × Answer} (h : s.completing p d)
    (hrun : run s = s.requireGroups p gs r) (hg : gs.find? (fun g => decide (s.hold (groupEntry g) ≠ .held p)) = some g) :
    s.complete p d run =
      s.answer p d (if s.hold (groupEntry g) = .releasing p then .releasing else .notHolder) false [BitVec.ofNat 8 g.val] :=
  State.complete_unchanged h (hrun.trans (State.requireGroups_first hg r)) (holdRefusal_ne_lineError _)

/-- A completion that carries an edit out, with every touched group HELD: applied with its selection in SHUT, else deferred (R14, R15). -/
theorem State.complete_edit {gs : List GroupId} {z : ZoneId} {e : PendingEdit} {clamped : Bool} (h : s.completing p d) (hd : d.isSupply = false)
    (hrun : run s = s.requireGroups p gs (s.carryOutEdit z e clamped))
    (hg : gs.find? (fun g => decide (s.hold (groupEntry g) ≠ .held p)) = none) :
    s.complete p d run =
      if (s.zone z).valve = .shut then ((s.applyNow z e).select).answer p d .done clamped []
      else (s.updZone z fun x => { x with pendingEdit := some e }).answer p d .deferred clamped [] := by
  rw [State.requireGroups_none hg] at hrun
  unfold State.carryOutEdit at hrun
  split at hrun
  · rename_i hv
    rw [if_pos hv]
    exact State.complete_done h hrun (State.select_inHand hd (State.applyNow_inHand z e h.inHand))
  · rename_i hv
    rw [if_neg hv]
    exact State.complete_answered h hrun h.inHand (by simp)

end

/-- EDIT-ZONE of a zone of the part: its fields, its holds, its effect (R11). -/
theorem State.runEditZone_val (s : State) (p : Port) (z : ZoneId) (f : ZoneFields) :
    s.runEditZone p z f =
      (checkProgramme (s.port p).strict f).orRange s fun v clamped =>
        s.requireGroups p ((s.zone z).touched (some v.group)) (s.carryOutEdit z (.edit v) clamped) :=
  withIndex_val z s _

/-- CLEAR-ZONE of a zone of the part: its definition, its holds, its effect (R11). -/
theorem State.runClearZone_val (s : State) (p : Port) (z : ZoneId) :
    s.runClearZone p z =
      if (s.zone z).programme = none then (s, .naming .undefinedZone z.val)
      else s.requireGroups p ((s.zone z).touched none) (s.carryOutEdit z .clear false) := by
  unfold State.runClearZone
  rw [withIndex_val]
  simp only [Option.isNone_iff_eq_none]

end Sys2Proof.Machine

open Sys2Proof Sys2Proof.Machine

/-- Settles O23: the refusals by `State.complete_unchanged` and `State.complete_notHeld`, the effect by `State.complete_edit`. -/
theorem editAndClearZoneAreCarriedOut : Obligations.EditAndClearZoneAreCarriedOut := by
  intro s p
  refine ⟨fun n f hn => ⟨fun h => ?_, fun h => ?_⟩, fun z f h => ?_, fun z f held => ⟨fun h hg => ?_, fun h hg => ?_⟩, fun z h => ?_⟩
  · refine congrArg Host.Outcome.next (State.complete_named h (withIndex_above hn s _) (by decide))
  · refine congrArg Host.Outcome.next (State.complete_named h (withIndex_above hn s _) (by decide))
  · refine congrArg Host.Outcome.next ?_
    have hrun := s.runEditZone_val p z f
    cases hc : checkProgramme (s.port p).strict f with
    | out i =>
      rw [hc] at hrun
      exact State.complete_named h hrun (by decide)
    | ok v clamped =>
      rw [hc] at hrun
      dsimp only
      cases hf : ((s.zone z).touched (some v.group)).find? (fun g => decide (s.hold (groupEntry g) ≠ .held p)) with
      | some g => exact State.complete_notHeld h hrun hf
      | none => exact State.complete_edit h rfl hrun hf
  · refine congrArg Host.Outcome.next (State.complete_refused_unanswered h ?_)
    rw [State.runEditZone_val]
    cases hc : checkProgramme (s.port p).strict f with
    | out i => rfl
    | ok v clamped => exact State.requireGroups_refused (hg v clamped hc) _
  · refine congrArg Host.Outcome.next (State.complete_refused_unanswered h ?_)
    rw [State.runClearZone_val]
    split
    · rfl
    · exact State.requireGroups_refused hg _
  · refine congrArg Host.Outcome.next ?_
    have hrun := s.runClearZone_val p z
    split
    · rename_i hp
      rw [if_pos hp] at hrun
      exact State.complete_named h hrun (by decide)
    · rename_i hp
      rw [if_neg hp] at hrun
      cases hf : ((s.zone z).touched none).find? (fun g => decide (s.hold (groupEntry g) ≠ .held p)) with
      | some g => exact State.complete_notHeld h hrun hf
      | none => exact State.complete_edit h rfl hrun hf

end

section
/-! SET-RING (R9, R10). -/

namespace Sys2Proof.Machine

/-- A number above 31 refuses the list by its position (R9). -/
theorem zonesFrom_error {zs : List Nat} {k i : Nat} (h : zs.findIdx? (fun n => decide (31 < n)) = some i) : zonesFrom k zs = .error (k + i) := by
  induction zs generalizing k i with
  | nil => simp at h
  | cons n rest ih =>
    rw [List.findIdx?_cons] at h
    by_cases hn : 31 < n
    · have hi : i = 0 := by simpa [hn] using h.symm
      simp [zonesFrom, indexOf, hi, show ¬n < 32 by omega]
    · obtain ⟨j, hj, rfl⟩ : ∃ j, rest.findIdx? (fun n => decide (31 < n)) = some j ∧ j + 1 = i := by simpa [hn] using h
      simp [zonesFrom, indexOf, show n < 32 by omega, ih hj, Nat.add_comm, Nat.add_left_comm]

theorem zonesFrom_val (k : Nat) (ring : List ZoneId) : zonesFrom k (ring.map (·.val)) = .ok ring := by
  induction ring generalizing k with
  | nil => rfl
  | cons z rest ih => simp [zonesFrom, indexOf_val, ih]

/-- A zone passed without a repeat joins the zones seen, and stays apart from the rest of the list. -/
theorem apart_of_passed {y : ZoneId} {rest seen : List ZoneId} (hy : y ∉ rest) (hs : ∀ x ∈ y :: rest, x ∉ seen) : ∀ x ∈ rest, x ∉ y :: seen := by
  intro x hx
  simp only [List.mem_cons, not_or]
  exact ⟨fun he => hy (he ▸ hx), hs x (List.mem_cons_of_mem _ hx)⟩

/-- The zone whose second appearance comes first, found behind a part without repeats (R9). -/
theorem firstRepeat_found {l r : List ZoneId} {z : ZoneId} {seen : List ZoneId} (hn : l.Nodup) (hs : ∀ y ∈ l, y ∉ seen) (hz : z ∈ l ∨ z ∈ seen) :
    firstRepeat seen (l ++ z :: r) = some z := by
  induction l generalizing seen with
  | nil =>
    have hz : z ∈ seen := by simpa using hz
    simp [firstRepeat, hz]
  | cons y rest ih =>
    obtain ⟨hy, hn⟩ := List.nodup_cons.mp hn
    rw [List.cons_append, firstRepeat, if_neg (hs y (List.mem_cons_self ..))]
    refine ih hn (apart_of_passed hy hs) ?_
    simp only [List.mem_cons] at hz ⊢
    tauto

theorem firstRepeat_nodup {l seen : List ZoneId} (hn : l.Nodup) (hs : ∀ y ∈ l, y ∉ seen) : firstRepeat seen l = none := by
  induction l generalizing seen with
  | nil => rfl
  | cons y rest ih =>
    obtain ⟨hy, hn⟩ := List.nodup_cons.mp hn
    rw [firstRepeat, if_neg (hs y (List.mem_cons_self ..))]
    exact ih hn (apart_of_passed hy hs)

/-- SET-RING with zone numbers of the part and no repeat comes to its check of the plan hold (R9). -/
theorem State.runSetRing_nodup {ring : List ZoneId} (hn : ring.Nodup) (s : State) (p : Port) :
    s.runSetRing p (ring.map (·.val)) = s.requirePlan p (s.replaceRing ring, .done false) := by
  unfold State.runSetRing
  rw [zonesFrom_val]
  dsimp only
  rw [firstRepeat_nodup hn (by simp)]

/-- Without the plan hold SET-RING changes nothing (R9, R27). -/
theorem State.runSetRing_notHolder {s : State} {p : Port} (h : s.hold planEntry ≠ .held p) (zs : List Nat) : (s.runSetRing p zs).1 = s := by
  unfold State.runSetRing
  split
  · rfl
  · split
    · rfl
    · rw [State.requirePlan_eq, if_neg h]

/-- The state that a SET-RING leaves to the recomputation of the quotas and the selection (R10). -/
def State.withRing (s : State) (ring : List ZoneId) : State :=
  State.pruneSuspended
    { s with
      ring := ring
      planner := { s.planner with pointer := 0 }
      engine := { s.engine with stack := s.engine.stack.map Frame.rewound } }
    fun z => !decide (z ∈ ring)

theorem State.replaceRing_eq (s : State) (ring : List ZoneId) : s.replaceRing ring = (s.withRing ring).recomputeQuotas.select := rfl

theorem State.withRing_zone (s : State) (ring : List ZoneId) (z : ZoneId) :
    (s.withRing ring).zone z = if z ∈ s.planner.suspended ∧ z ∉ ring then (s.zone z).noVisit else s.zone z := by
  have hz : (s.withRing ring).zone z = _ :=
    s.zone_mapZones (fun z x => if decide (z ∈ s.planner.suspended) && !decide (z ∈ ring) then x.noVisit else x) z
  simpa using hz

theorem State.withRing_eq (s : State) (ring : List ZoneId) :
    s.withRing ring =
      { s with
        zones := (s.withRing ring).zones
        ring := ring
        planner := { s.planner with pointer := 0, suspended := s.planner.suspended.filter fun z => decide (z ∈ ring) }
        engine := { s.engine with stack := s.engine.stack.map Frame.rewound } } := by
  have hf : (fun z : ZoneId => !!decide (z ∈ ring)) = fun z => decide (z ∈ ring) := by simp
  rw [← hf]
  rfl

end Sys2Proof.Machine

open Sys2Proof Sys2Proof.Machine

/-- Settles O25: the list by `zonesFrom_error` and `firstRepeat_found`, the effect by `State.withRing_eq` and `State.withRing_zone`. -/
theorem setRingReplacesTheRing : Obligations.SetRingReplacesTheRing := by
  refine ⟨fun s p zs held h hne => ?_, fun s p zs h => ⟨fun k hk => ?_, ?_⟩⟩
  · exact congrArg Host.Outcome.next (State.complete_refused_unanswered h (State.runSetRing_notHolder hne zs))
  · have hrun : s.runSetRing p zs = (s, .naming .range (k + 1)) := by
      simp [State.runSetRing, zonesFrom_error hk, Nat.add_comm]
    refine congrArg Host.Outcome.next (State.complete_named h hrun (by decide))
  · rintro ring rfl
    refine ⟨fun l r z hl hn hz => ?_, fun hn hne => ?_, fun hn hheld => ⟨s.withRing ring, ?_, ?_, s.withRing_zone ring⟩⟩
    · have hrun : s.runSetRing p (ring.map (·.val)) = (s, .naming .duplicate z.val) := by
        unfold State.runSetRing
        rw [zonesFrom_val]
        dsimp only
        rw [hl, firstRepeat_found hn (by simp) (.inl hz)]
      refine congrArg Host.Outcome.next (State.complete_named h hrun (by decide))
    · have hrun := s.runSetRing_nodup hn p
      rw [State.requirePlan_eq, if_neg hne] at hrun
      refine congrArg Host.Outcome.next (State.complete_named h hrun (by decide))
    · have hrun := s.runSetRing_nodup hn p
      rw [State.requirePlan_eq, if_pos hheld] at hrun
      have hk : (s.replaceRing ring).inHand p (.setRing (ring.map (·.val))) none (s.port p).replies := State.select_inHand rfl h.inHand
      exact congrArg Host.Outcome.next (State.complete_done h hrun hk)
    · exact s.withRing_eq ring

end

section
/-! SET-WINDOW (R7, R95, R96). -/

namespace Sys2Proof.Machine

/-- The two minutes of SET-WINDOW go through their ranges in index order (R7, R12). -/
theorem checkWindow_eq (strict : Bool) (a b : Nat) :
    checkWindow strict a b = checkedAs strict 1 [(a, 0, 1439), (b, 0, 1439)] (min 1439 a, min 1439 b) := by
  rw [show (min 1439 a, min 1439 b) = (intoRange (a, 0, 1439), intoRange (b, 0, 1439)) by simp [intoRange]]
  exact checkNat_andThen (by decide) (checkNat_andThen (by decide) rfl)

theorem checkWindow_strict_start {a : Nat} (ha : 1439 < a) (b : Nat) : checkWindow true a b = .out 1 := by
  rw [checkWindow_eq, checkedAs_cons_outside (by simpa [outOfRange] using ha)]
  rfl

theorem checkWindow_strict_finish {a b : Nat} (ha : a ≤ 1439) (hb : 1439 < b) : checkWindow true a b = .out 2 := by
  rw [checkWindow_eq, checkedAs_cons_inside (by simpa [outOfRange] using ha), checkedAs_cons_outside (by simpa [outOfRange] using hb)]
  rfl

theorem checkWindow_passes {strict : Bool} {a b : Nat} (h : strict = false ∨ (a ≤ 1439 ∧ b ≤ 1439)) :
    checkWindow strict a b = .ok (min 1439 a, min 1439 b) (decide (1439 < a ∨ 1439 < b)) := by
  rw [checkWindow_eq]
  rcases h with rfl | ⟨ha, hb⟩
  · rw [checkedAs_clamp]
    by_cases ha : 1439 < a <;> by_cases hb : 1439 < b <;> simp [List.findIdx?_cons, outOfRange, ha, hb]
  · rw [checkedAs_cons_inside (by simpa [outOfRange] using ha), checkedAs_cons_inside (by simpa [outOfRange] using hb), checkedAs_nil]
    simp [Nat.not_lt.mpr ha, Nat.not_lt.mpr hb]

theorem State.updGroup_updGroup (s : State) (g : GroupId) (f f' : Group → Group) :
    (s.updGroup g f).updGroup g f' = s.updGroup g fun x => f' (f x) := by
  unfold State.updGroup State.group
  simp

/-- A close of visits that names none changes nothing. -/
theorem State.closeVisits_none {s : State} {sel : Zone → Bool} (h : ∀ x, sel x = false) (e : Ending) : s.closeVisits sel e = s :=
  State.forZones_keeps (P := fun t => t = s) _ (fun z t ht => by simp [h, ht]) zoneIds s rfl

/-- The group record with a window that is open or not (R7, R96). -/
def State.withWindow (s : State) (g : GroupId) (start finish : Nat) (isOpen : Bool) : State := s.updGroup g fun _ => ⟨start, finish, isOpen⟩

/-- The evaluation that follows the replacement of a window: a window that closes ends the visits of its group, and one that opens calls for a selection (R96). -/
theorem State.replaceWindow_eq {s : State} (hr : s.resetLow = false) (g : GroupId) {start finish : Nat} {isOpen : Bool}
    (ho : windowOpenAt s.clock.valid start finish s.clock.minute = isOpen) :
    s.replaceWindow g start finish =
      if (s.group g).windowOpen = true ∧ isOpen = false then (s.withWindow g start finish isOpen).closeVisits (Zone.inGroups [g]) .windowClosed
      else if (s.group g).windowOpen = false ∧ isOpen = true then (s.withWindow g start finish isOpen).select
      else s.withWindow g start finish isOpen := by
  have hnow : (s.updGroup g fun x => { x with start := start, finish := finish }).windowNow g = isOpen := by
    simpa [State.windowNow, State.group_updGroup] using ho
  have hflag : ((s.updGroup g fun x => { x with start := start, finish := finish }).group g).windowOpen = (s.group g).windowOpen := by
    simp [State.group_updGroup]
  have hstore : (s.updGroup g fun x => { x with start := start, finish := finish }).storeWindow g = s.withWindow g start finish isOpen := by
    unfold State.storeWindow
    rw [hnow]
    exact s.updGroup_updGroup g _ _
  have hkeep : (s.withWindow g start finish isOpen).closeVisits (Zone.inGroups []) .windowClosed = s.withWindow g start finish isOpen :=
    State.closeVisits_none (fun x => by cases hp : x.programme <;> simp [Zone.inGroups, hp]) _
  simp only [State.replaceWindow, State.evaluateWindows, List.foldl_cons, List.foldl_nil, List.filter_cons, List.filter_nil, hstore, hnow, hflag,
    State.updGroup_resetLow, hr]
  cases (s.group g).windowOpen <;> cases isOpen <;> simp [State.selectIf, hkeep]

theorem State.replaceWindow_inHand {s : State} (hr : s.resetLow = false) (g : GroupId) (start finish : Nat) {p : Port} {d : Directive}
    {rs : List Reply} (hd : d.isSupply = false) (h : s.inHand p d none rs) : (s.replaceWindow g start finish).inHand p d none rs := by
  rw [State.replaceWindow_eq hr g rfl]
  split
  · exact (State.closeVisits_quiet _ _ _).inHand h
  · split
    · exact State.select_inHand hd h
    · exact h

/-- SET-WINDOW of a group of the part: its minutes, its hold, its effect (R7). -/
theorem State.runSetWindow_val (s : State) (p : Port) (g : GroupId) (a b : Nat) :
    s.runSetWindow p g a b =
      (checkWindow (s.port p).strict a b).orRange s fun v clamped => s.requireGroups p [g] (s.replaceWindow g v.1 v.2, .done clamped) :=
  withIndex_val g s _

end Sys2Proof.Machine

open Sys2Proof Sys2Proof.Machine
/-- Settles O26: the minutes by `checkWindow_eq`, the window by `State.replaceWindow_eq` and `windowOpenAt_iff`. -/
theorem setWindowReplacesAndEvaluates : Obligations.SetWindowReplacesAndEvaluates := by
  refine ⟨fun s p g a b held h hne => ?_, fun s p n a b h => ⟨fun hn => ?_, ?_⟩⟩
  · refine congrArg Host.Outcome.next (State.complete_refused_unanswered h ?_)
    rw [State.runSetWindow_val]
    cases checkWindow (s.port p).strict a b with
    | out i => rfl
    | ok v clamped => exact State.requireGroups_refused ⟨g, by simp, hne⟩ _
  · exact congrArg Host.Outcome.next (State.complete_named h (withIndex_above hn s _) (by decide))
  · rintro g rfl
    have hrun := s.runSetWindow_val p g a b
    refine ⟨fun hs ha => ?_, fun hs ha hb => ?_, fun hp => ⟨fun hne => ?_, fun hheld isOpen hopen t ht => ?_⟩⟩
    · rw [hs, checkWindow_strict_start ha] at hrun
      exact congrArg Host.Outcome.next (State.complete_named h hrun (by decide))
    · rw [hs, checkWindow_strict_finish ha hb] at hrun
      exact congrArg Host.Outcome.next (State.complete_named h hrun (by decide))
    · rw [checkWindow_passes hp] at hrun
      exact congrArg Host.Outcome.next (State.complete_notHeld h hrun (by simp [hne]))
    · rw [checkWindow_passes hp] at hrun
      have hrun := hrun.trans (State.requireGroups_held (by simpa using hheld) _)
      have hk := State.replaceWindow_inHand h.1 g (min 1439 a) (min 1439 b) rfl h.inHand
      have hflag : windowOpenAt s.clock.valid (min 1439 a) (min 1439 b) s.clock.minute = isOpen :=
        Bool.eq_iff_iff.mpr ((windowOpenAt_iff ..).trans hopen.symm)
      rw [ht, show (s.updGroup g fun _ => _) = s.withWindow g (min 1439 a) (min 1439 b) isOpen from rfl, ← State.replaceWindow_eq h.1 g hflag]
      exact congrArg Host.Outcome.next (State.complete_done h hrun hk)

end

section
/-! POWER_ON and the release of the RESET line (R4, R5, R21, R54). -/

namespace Sys2Proof.Machine

/-! ### Power -/

section
variable (a b c : Straps) (stopLow : Bool) (pending : List Instr)

theorem State.powerOn_zone (z : ZoneId) : (State.powerOn a b c stopLow pending).zone z = .powerOn := by simp [State.zone, State.powerOn]

theorem State.powerOn_group (g : GroupId) : (State.powerOn a b c stopLow pending).group g = ⟨0, 0, true⟩ := by
  simp [State.group, State.powerOn]

theorem State.powerOn_hold (e : EntryId) : (State.powerOn a b c stopLow pending).hold e = .free := by simp [State.hold, State.powerOn]

theorem State.powerOn_meter (h : HeaderId) : (State.powerOn a b c stopLow pending).meter h = .powerOn := by simp [State.meter, State.powerOn]

theorem State.powerOn_port (p : Port) : (State.powerOn a b c stopLow pending).port p = .powerOn ((PerPort.mk a b c).get p) := by cases p <;> rfl

end

/-! ### The pending edits at the release -/

/-- The zone with its pending edit, if any, applied (R17, R18). -/
def Zone.edited (x : Zone) : Zone :=
  match x.pendingEdit with
  | some e => x.applied e
  | none => x

theorem Zone.edited_none {x : Zone} (h : x.pendingEdit = none) : x.edited = x := by unfold Zone.edited; rw [h]

theorem Zone.edited_some {x : Zone} {e : PendingEdit} (h : x.pendingEdit = some e) : x.edited = x.applied e := by unfold Zone.edited; rw [h]

theorem Zone.edited_pendingEdit (x : Zone) : x.edited.pendingEdit = none := by
  cases h : x.pendingEdit with
  | none => rw [Zone.edited_none h, h]
  | some e => rw [Zone.edited_some h, Zone.applied_pendingEdit]

/-- An application changes the programme, the pending edit and the cycles remaining of the record (R17, R18). -/
theorem Zone.edited_eq (x : Zone) :
    x.edited = { x with programme := x.edited.programme, pendingEdit := none, cyclesRemaining := x.edited.cyclesRemaining } := by
  cases h : x.pendingEdit with
  | none => simp [Zone.edited_none h, ← h]
  | some e => rw [Zone.edited_some h]; cases e <;> rfl

/-- Applying a zone's pending edit while no visit is suspended, as at the release (R21). -/
theorem State.applyAtRelease_spec {s : State} (hs : s.planner.suspended = []) (z : ZoneId) :
    s.applyAtRelease z = { s with zones := (s.applyAtRelease z).zones } ∧
      ∀ z', (s.applyAtRelease z).zone z' = if z' = z then (s.zone z).edited else s.zone z' := by
  unfold State.applyAtRelease
  cases h : (s.zone z).pendingEdit with
  | none =>
    refine ⟨rfl, fun z' => ?_⟩
    by_cases hz : z' = z
    · rw [if_pos hz, hz, Zone.edited_none h]
    · rw [if_neg hz]
  | some e =>
    refine ⟨?_, fun z' => ?_⟩
    · have hsame : (s.planner.suspended.filter fun i => decide (i ≠ z)) = s.planner.suspended := by rw [hs]; rfl
      have hedit := s.applyEdit_eq z e
      rw [hsame] at hedit
      exact hedit
    · rw [State.applyEdit_zone, Zone.edited_some h, hs]
      simp

theorem State.zonesChanged_trans {s t u : State} (h : t = { s with zones := t.zones }) (k : u = { t with zones := u.zones }) :
    u = { s with zones := u.zones } := by
  rw [k, h]

/-- The same for the zones of a list. -/
theorem State.applyAtRelease_walk (zs : List ZoneId) {s : State} (hs : s.planner.suspended = []) :
    let t := s.forZones zs fun z t => t.applyAtRelease z
    t = { s with zones := t.zones } ∧ ∀ z, t.zone z = if z ∈ zs then (s.zone z).edited else s.zone z := by
  induction zs generalizing s with
  | nil => exact ⟨rfl, fun z => by simp [State.forZones]⟩
  | cons z₀ rest ih =>
    obtain ⟨hfirst, hzone⟩ := State.applyAtRelease_spec hs z₀
    obtain ⟨hrest, hwalk⟩ := ih (s := s.applyAtRelease z₀) (by rw [hfirst]; exact hs)
    refine ⟨?_, fun z => ?_⟩
    · exact State.zonesChanged_trans hfirst hrest
    · refine (hwalk z).trans ?_
      rw [hzone]
      by_cases hz : z = z₀
      · simp [hz, Zone.edited_none (Zone.edited_pendingEdit _)]
      · simp [hz]

theorem State.recomputeQuotas_quotaShare (s : State) (z : ZoneId) : s.recomputeQuotas.quotaShare z = s.quotaShare z := by
  have hclock : s.recomputeQuotas.clock = s.clock := rfl
  have hset : s.recomputeQuotas.inQuotaSet = s.inQuotaSet := by
    funext z'
    unfold State.inQuotaSet
    rw [State.recomputeQuotas_zone]
    rfl
  have hquota : ∀ z', (s.recomputeQuotas.zone z').programmedQuota = (s.zone z').programmedQuota := fun z' => by
    rw [State.recomputeQuotas_zone]
    rfl
  have hsum : s.recomputeQuotas.quotaSum = s.quotaSum := by
    unfold State.quotaSum
    rw [hset]
    simp only [hquota]
  unfold State.quotaShare
  rw [hset, hsum, hquota, hclock]

theorem State.pendingZones_nil (s : State) : s.pendingZones = [] ↔ ∀ z, (s.zone z).pendingEdit = none := by
  simp [State.pendingZones, zoneIds]

/-- Every pending edit is applied, and the effective quotas are recomputed where there was one (R5, R21). -/
theorem State.applyAllPending_spec {s : State} (hs : s.planner.suspended = []) :
    s.applyAllPending = { s with zones := s.applyAllPending.zones } ∧
      ∀ z, s.applyAllPending.zone z =
        { (s.zone z).edited with
          effectiveQuota := if ∀ z', (s.zone z').pendingEdit = none then (s.zone z).effectiveQuota else s.applyAllPending.quotaShare z } := by
  by_cases hn : s.pendingZones = []
  · have hall := s.pendingZones_nil.mp hn
    have hkeep : s.applyAllPending = s := if_pos hn
    rw [hkeep]
    exact ⟨rfl, fun z => by rw [if_pos hall, Zone.edited_none (hall z)]⟩
  · obtain ⟨hrest, hzone⟩ := State.applyAtRelease_walk s.pendingZones hs
    have happly : s.applyAllPending = (s.forZones s.pendingZones fun z t => t.applyAtRelease z).recomputeQuotas := if_neg hn
    rw [happly]
    refine ⟨?_, fun z => ?_⟩
    · exact State.zonesChanged_trans hrest rfl
    · rw [if_neg (s.pendingZones_nil.not.mp hn), State.recomputeQuotas_quotaShare, State.recomputeQuotas_zone, hzone]
      split
      · rfl
      · rename_i hz
        rw [Zone.edited_none (by simpa [State.pendingZones, zoneIds] using hz)]

/-! ### The blocks at the release -/

section
variable (s : State) (a b c : Straps)

theorem State.releaseBlocks_zone (z : ZoneId) : (s.releaseBlocks a b c).zone z = (s.zone z).released :=
  s.zone_mapZones (fun _ x => x.released) z

theorem State.releaseBlocks_hold (e : EntryId) : (s.releaseBlocks a b c).hold e = .free := by simp [State.hold, State.releaseBlocks]

theorem State.releaseBlocks_meter (h : HeaderId) : (s.releaseBlocks a b c).meter h = (s.meter h).released := by
  simp [State.meter, State.releaseBlocks]

theorem State.releaseBlocks_port (p : Port) :
    (s.releaseBlocks a b c).port p = (s.port p).released ((PerPort.mk a b c).get p) := by cases p <;> rfl

/-- The part at the release, before a pending roll is taken (R54): the blocks released, and the pending edits applied. -/
def State.restarted : State := (s.releaseBlocks a b c).applyAllPending

theorem State.restarted_eq : s.restarted a b c = { s.releaseBlocks a b c with zones := (s.restarted a b c).zones } :=
  (State.applyAllPending_spec (s := s.releaseBlocks a b c) rfl).1

theorem State.restarted_zone (z : ZoneId) :
    (s.restarted a b c).zone z =
      { (s.zone z).released.edited with
        effectiveQuota :=
          if ∀ z', (s.zone z').pendingEdit = none then (s.zone z).effectiveQuota else (s.restarted a b c).quotaShare z } := by
  have h := (State.applyAllPending_spec (s := s.releaseBlocks a b c) rfl).2 z
  simp only [State.releaseBlocks_zone] at h
  exact h

/-- The release, by whether a period boundary fell during the assertion (R92, R99). -/
theorem State.releaseReset_eq :
    s.releaseReset a b c =
      if s.clock.pendingRoll then State.rollPeriod { s.restarted a b c with clock := { s.clock with pendingRoll := false } } 3 none
      else s.restarted a b c := by
  have hclock : (s.restarted a b c).clock = s.clock := by rw [State.restarted_eq]; rfl
  unfold State.releaseReset
  change (s.restarted a b c).rollPending = _
  unfold State.rollPending
  rw [hclock]

end

/-- The programme and the cycles remaining of a zone at the release, by its pending edit (R5, R17, R18). -/
theorem Zone.released_edited (y : Zone) :
    match y.pendingEdit with
    | none => y.released.edited.programme = y.programme ∧ y.released.edited.cyclesRemaining = y.cyclesRemaining
    | some .clear => y.released.edited.programme = none ∧ y.released.edited.cyclesRemaining = 0
    | some (.edit v) =>
      y.released.edited.programme = some v ∧
        y.released.edited.cyclesRemaining = if y.programme = none then v.cycles else min y.cyclesRemaining v.cycles := by
  have hpending : y.released.pendingEdit = y.pendingEdit := rfl
  cases h : y.pendingEdit with
  | none =>
    rw [Zone.edited_none (hpending.trans h)]
    exact ⟨rfl, rfl⟩
  | some e =>
    rw [Zone.edited_some (hpending.trans h)]
    cases e with
    | clear => exact ⟨rfl, rfl⟩
    | edit v =>
      have hprogramme : y.released.programme = y.programme := rfl
      refine ⟨rfl, ?_⟩
      cases hp : y.programme <;> simp [Zone.applied, hprogramme, hp]
      rfl

end Sys2Proof.Machine

open Sys2Proof Sys2Proof.Machine

/-- Settles O53: the state after power-on, read block by block. -/
theorem powerOnGivesTheInitialState : Obligations.PowerOnGivesTheInitialState := by
  intro s a b c
  refine ⟨.powerOn a b c s.stopLow s.pending, rfl, fun z => ?_, State.powerOn_group a b c _ _, State.powerOn_hold a b c _ _, rfl, rfl, rfl,
    State.powerOn_meter a b c _ _, rfl, rfl, rfl, rfl, rfl, rfl, rfl, rfl, rfl, rfl, State.powerOn_port a b c _ _, rfl, rfl, rfl⟩
  simp [State.powerOn_zone, Zone.powerOn]

/-- Settles O55: the zones by `State.restarted_zone`, the other blocks by `State.restarted_eq`, the pending roll by `State.releaseReset_eq`. -/
theorem resetReleaseRestartsThePart : Obligations.ResetReleaseRestartsThePart := by
  intro s a b c
  refine ⟨fun hr => congrArg Host.Outcome.next (if_neg (by simp [hr])),
    fun hr => ⟨s.restarted a b c, fun hroll => ?_, fun hroll => ?_, fun z => ?_, ?_⟩⟩
  · refine congrArg Host.Outcome.next ((if_pos hr).trans ?_)
    rw [State.releaseReset_eq, if_neg (by simp [hroll])]
  · refine congrArg Host.Outcome.next ((if_pos hr).trans ?_)
    rw [State.releaseReset_eq, if_pos hroll]
  · have hedited := (s.zone z).released_edited
    rw [State.restarted_zone, Zone.edited_eq]
    exact ⟨rfl, rfl, rfl, rfl, rfl, rfl, rfl, rfl, rfl, rfl, rfl, rfl, rfl, rfl, rfl, rfl, rfl, rfl, rfl, rfl, rfl, rfl, hedited, rfl⟩
  · have h : ∀ {α : Type} (f : State → α), f (s.restarted a b c) = f { s.releaseBlocks a b c with zones := (s.restarted a b c).zones } :=
      fun f => congrArg f (s.restarted_eq a b c)
    exact ⟨h State.groups, h State.ring, fun e => (h (State.hold · e)).trans (s.releaseBlocks_hold a b c e), h State.energising,
      h State.wetOrder, fun i => (h (State.meter · i)).trans (s.releaseBlocks_meter a b c i), h State.supply, h State.clock, h State.climate,
      h State.engine, h State.planner, h State.loads, fun p => (h (State.port · p)).trans (s.releaseBlocks_port a b c p), h State.lastServed,
      h State.stopLow, h State.resetLow, h State.pending⟩

end

section
/-! What the blocks do in an event beside the holds, the edits and the replies, as a rule of induction like `KeptInSelection`: whatever their shared operations keep, the
events keep. Each operation has its lemma once, in the order of the model's files. -/

namespace Sys2Proof.Machine

/-- From `s` to `t` the hold table, the ports, the programmes and the pending edits have not changed. -/
structure Plain (s t : State) : Prop where
  holds : t.holds = s.holds
  ports : t.ports = s.ports
  programme : ∀ z, (t.zone z).programme = (s.zone z).programme
  pendingEdit : ∀ z, (t.zone z).pendingEdit = (s.zone z).pendingEdit

/-- A predicate that quiet steps, the marks of triage and plain changes keep. -/
structure KeptByBlocks (P : State → Prop) : Prop where
  quiet : ∀ {s t}, Quiet s t → P s → P t
  judged : ∀ {s t}, Judged s t → P s → P t
  plain : ∀ {s t}, Plain s t → P s → P t

/-- The same, where a supply event at a point of a selection keeps it too (R87). -/
structure KeptInEvents (P : State → Prop) : Prop extends KeptByBlocks P where
  event : ∀ (s : State) (ev : SupplyEvent), P s → P (s.takeAtPoint ev)

/-- What a change of a port keeps, a completion keeps where the directive's own effect does (R172). -/
theorem State.complete_keeps {P : State → Prop} (hport : ∀ t p f, P t → P (t.updPort p f)) {s : State} {p : Port} {d : Directive}
    {run : State → State × Answer} (h : P s) (hrun : P (run s).1) : P (s.complete p d run) := by
  rcases s.complete_cases p d run with he | ⟨broken, -, -, he⟩
  · rw [he]; exact h
  · rw [he]
    split
    · exact hport _ _ _ hrun
    · exact hport _ _ _ (hport _ _ _ hrun)

theorem State.live_keeps {P : State → Prop} {s : State} {f : State → State} (h : P s) (hf : P (f s)) : P (s.live f) := by
  unfold State.live
  split
  · exact h
  · exact hf

namespace KeptByBlocks
variable {P : State → Prop}

/-- A change that touches neither the zone records nor the hold table nor the ports. -/
theorem tables (k : KeptByBlocks P) {s t : State} (h : P s) (hz : t.zones = s.zones) (hh : t.holds = s.holds) (hp : t.ports = s.ports) : P t :=
  k.plain ⟨hh, hp, fun z => by unfold State.zone; rw [hz], fun z => by unfold State.zone; rw [hz]⟩ h

theorem mapZones (k : KeptByBlocks P) {s : State} {f : ZoneId → Zone → Zone} (h : P s)
    (hf : ∀ z x, (f z x).programme = x.programme ∧ (f z x).pendingEdit = x.pendingEdit) : P (s.mapZones f) :=
  k.plain (s := s) ⟨rfl, rfl, fun z => by rw [State.zone_mapZones]; exact (hf z _).1, fun z => by rw [State.zone_mapZones]; exact (hf z _).2⟩ h

theorem updZone (k : KeptByBlocks P) {s : State} {z : ZoneId} {f : Zone → Zone} (h : P s)
    (hf : ∀ x, (f x).programme = x.programme ∧ (f x).pendingEdit = x.pendingEdit) : P (s.updZone z f) := by
  refine k.plain (s := s) ⟨rfl, rfl, fun z' => ?_, fun z' => ?_⟩ h
  · rw [State.zone_updZone]
    split
    · subst_vars; exact (hf _).1
    · rfl
  · rw [State.zone_updZone]
    split
    · subst_vars; exact (hf _).2
    · rfl

theorem updMeter (k : KeptByBlocks P) {s : State} {i : HeaderId} {f : Meter → Meter} (h : P s) : P (s.updMeter i f) := k.tables h rfl rfl rfl

theorem post (k : KeptByBlocks P) {s : State} {n : NoticeKind} {z : Option ZoneId} {i : Option HeaderId} {p : Option Port} {v : Option Int}
    (h : P s) : P (s.post n z i p v) := k.quiet (s.post_quiet n z i p v) h

theorem triage (k : KeptByBlocks P) {s : State} (h : P s) : P s.triage := k.judged s.triage_judged h

theorem retriage (k : KeptByBlocks P) {s : State} (h : P s) : P s.retriage := k.judged s.retriage_judged h

/-! ### Supply -/

theorem ceilingChange (k : KeptByBlocks P) {s : State} {before : Flows} {port : Option Port} (h : P s) : P (s.ceilingChange before port) := by
  unfold State.ceilingChange
  split
  · exact h
  · exact k.tables (k.quiet (s.shedWalk_quiet port) h) rfl rfl rfl

theorem declare (k : KeptByBlocks P) {s : State} {p : Port} {flows : Flows} {validity : Nat} (h : P s) : P (s.declare p flows validity) :=
  k.ceilingChange (k.post (k.tables h rfl rfl rfl))

theorem replaceFallback (k : KeptByBlocks P) {s : State} {p : Port} {flows : Flows} (h : P s) : P (s.replaceFallback p flows) := by
  unfold State.replaceFallback
  split
  · exact k.tables h rfl rfl rfl
  · exact k.ceilingChange (k.tables h rfl rfl rfl)

theorem lapse (k : KeptByBlocks P) {s : State} (h : P s) : P s.lapse := by
  unfold State.lapse
  split
  · exact k.ceilingChange (k.post (k.tables h rfl rfl rfl))
  · exact h

theorem runDeclare (k : KeptByBlocks P) {s : State} {p : Port} {flows : FlowFields} {validity : Nat} (h : P s) :
    P (s.runDeclare p flows validity).1 := Checked.orRange_keeps _ h fun _ _ => k.declare h

theorem runSetFallback (k : KeptByBlocks P) {s : State} {p : Port} {flows : FlowFields} (h : P s) : P (s.runSetFallback p flows).1 :=
  Checked.orRange_keeps _ h fun _ _ => k.replaceFallback h

theorem takeUp_of_ports (k : KeptByBlocks P) (hport : ∀ {t p f}, P t → P (t.updPort p f)) {s : State} (h : P s) : P s.takeUp := by
  rcases s.takeUp_cases with he | ⟨p, d, -, -, he⟩
  · rw [he]; exact h
  · have hexecuting : P (s.updPort p fun q => { q with mailbox := .executing d none }) := hport h
    rw [he]; exact k.tables hexecuting rfl rfl rfl

/-- What a change of a port keeps as well, the supply events at the points of a selection keep (R87). -/
theorem toEvents (k : KeptByBlocks P) (hport : ∀ {t p f}, P t → P (t.updPort p f)) : KeptInEvents P where
  toKeptByBlocks := k
  event := fun s ev h => by
    have htaken : P s.takeUp := k.takeUp_of_ports hport h
    unfold State.takeAtPoint State.takeSupplyEvent
    cases ev with
    | declare p flows validity => exact State.complete_keeps (fun _ _ _ => hport) htaken (k.runDeclare htaken)
    | fallback p flows => exact State.complete_keeps (fun _ _ _ => hport) htaken (k.runSetFallback htaken)
    | lapse => exact k.lapse h

theorem lowerCommitted (k : KeptByBlocks P) {s : State} {o : Option Opened} (h : P s) : P (s.lowerCommitted o) := by
  cases o
  · exact h
  · exact k.tables h rfl rfl rfl

theorem sendInto (k : KeptByBlocks P) {s : State} {ev : SupplyEvent} {n : Nat} {due : Bool} (h : P s) : P (s.sendInto ev n due) := by
  rcases s.sendInto_cases ev n due with he | he
  · rw [he]; exact h
  · rw [he]; exact k.tables h rfl rfl rfl

/-! ### Quotas and visits -/

theorem recomputeQuotas (k : KeptByBlocks P) {s : State} (h : P s) : P s.recomputeQuotas := k.mapZones h fun _ _ => ⟨rfl, rfl⟩

theorem pruneSuspended (k : KeptByBlocks P) {s : State} {sel : ZoneId → Bool} (h : P s) : P (s.pruneSuspended sel) := by
  have hzones : P (s.mapZones fun z x => if decide (z ∈ s.planner.suspended) && sel z then x.noVisit else x) :=
    k.mapZones h fun z x => by split <;> exact ⟨rfl, rfl⟩
  exact k.tables hzones rfl rfl rfl

theorem testAllotment (k : KeptByBlocks P) {s : State} {port : Option Port} (h : P s) : P (s.testAllotment port) := by
  unfold State.testAllotment
  split
  · split
    · exact h
    · exact k.quiet (State.closeVisits_quiet _ _ _) (k.post (k.tables h rfl rfl rfl))
  · exact k.tables h rfl rfl rfl

theorem reportProgress (k : KeptByBlocks P) {s : State} {r : Option (List ZoneId)} (h : P s) : P (s.reportProgress r) := by
  cases r with
  | none => exact h
  | some zs =>
    refine k.testAllotment (k.quiet (State.forZones_quiet _ (fun z t => ?_) zs s) h)
    split
    · exact t.closeChannel_quiet z _
    · exact .refl t

/-! ### Lockouts and SHUT reports -/

theorem setLockout (k : KeptByBlocks P) {s : State} {z : ZoneId} {l : Lockout} (h : P s) : P (s.setLockout z l) := by
  unfold State.setLockout
  dsimp only
  split
  · exact k.post (k.updZone h fun _ => ⟨rfl, rfl⟩)
  · exact h

theorem finishEntry (k : KeptByBlocks P) {s : State} {z : ZoneId} {e : Ending} (h : P s) : P (s.finishEntry z e) := by
  unfold State.finishEntry
  split
  · dsimp only
    split
    · exact k.post (k.tables h rfl rfl rfl)
    · exact k.tables h rfl rfl rfl
  · exact h

theorem takeShut (k : KeptByBlocks P) {s : State} {z : ZoneId} {r : ShutReport} (h : P s) : P (s.takeShut z r) := by
  unfold State.takeShut
  split
  · exact k.updZone (k.quiet (s.endOpenVisit_quiet z .dropped) h) fun _ => ⟨rfl, rfl⟩
  · exact k.finishEntry h
  · split
    · exact k.quiet (s.endFrostVisit_quiet z) h
    · exact h
  · exact h

theorem triageAtShut (k : KeptByBlocks P) {s : State} {before : Zone} (h : P s) : P (s.triageAtShut before) := by
  unfold State.triageAtShut
  split
  · exact k.retriage h
  · exact h

/-! ### Windows and periods -/

theorem evaluateWindows (k : KeptByBlocks P) {s : State} {gs : List GroupId} (h : P s) : P (s.evaluateWindows gs).1 := by
  have hstore : P (gs.foldl State.storeWindow s) := List.foldlRecOn gs _ h fun t ht g _ => k.tables (t := t.storeWindow g) ht rfl rfl rfl
  unfold State.evaluateWindows
  dsimp only
  split
  · exact hstore
  · exact k.quiet (State.closeVisits_quiet _ _ _) hstore

theorem takeRoll (k : KeptByBlocks P) {s : State} (h : P s) : P s.takeRoll := by
  have hrenew : ∀ t, P t → P
      { t.mapZones (fun _ x => { x with cyclesRemaining := (x.programme.map (·.cycles)).getD 0 }) with
        planner := { t.planner with allotmentReached := false } } := fun t ht => by
    have hcycles : P (t.mapZones fun _ x => { x with cyclesRemaining := (x.programme.map (·.cycles)).getD 0 }) :=
      k.mapZones ht fun _ _ => ⟨rfl, rfl⟩
    exact k.tables hcycles rfl rfl rfl
  exact hrenew _ (k.pruneSuspended (k.quiet (s.closeVisits_quiet _ _) h))

theorem rollPeriod (k : KeptByBlocks P) {s : State} {cause : Int} {port : Option Port} (h : P s) : P (s.rollPeriod cause port) :=
  k.takeRoll (k.post (k.recomputeQuotas (k.mapZones h fun _ _ => ⟨rfl, rfl⟩)))

theorem takePass (k : KeptByBlocks P) {s : State} (h : P s) : P s.takePass.1 := by
  unfold State.takePass
  split
  · split
    · exact k.tables h rfl rfl rfl
    · exact k.rollPeriod (k.tables h rfl rfl rfl)
  · exact k.tables h rfl rfl rfl

theorem countSecond (k : KeptByBlocks P) {s : State} (h : P s) : P s.countSecond := by
  have hzones : P (s.mapZones fun _ x => x.countSecond s.armed) := k.mapZones h fun _ _ => ⟨rfl, rfl⟩
  exact k.tables hzones rfl rfl rfl

/-! ### Meters -/

theorem apportion (k : KeptByBlocks P) {s : State} {i : HeaderId} (h : P s) : P (s.apportion i) := by
  have hcredit : ∀ (x : Zone) (a : Nat), (x.credit a).programme = x.programme ∧ (x.credit a).pendingEdit = x.pendingEdit := fun x a => by
    unfold Zone.credit
    split <;> exact ⟨rfl, rfl⟩
  unfold State.apportion
  exact k.updMeter (List.foldlRecOn _ _ h fun t ht (e : ZoneId × Nat) _ => k.updZone ht fun x => hcredit x e.2)

theorem beginInterval (k : KeptByBlocks P) {s : State} {i : HeaderId} (h : P s) : P (s.beginInterval i) := k.updMeter h

theorem rawPulse (k : KeptByBlocks P) {s : State} {i : HeaderId} (h : P s) : P (s.rawPulse i) := by
  unfold State.rawPulse State.dividedPulse
  split
  · exact k.updMeter h
  · split
    · exact k.updMeter (k.updMeter h)
    · split
      · exact k.updMeter h
      · exact k.post (k.updMeter (k.updMeter h))

theorem postFlow (k : KeptByBlocks P) {s : State} {i : HeaderId} {called : Option Direction} {only : Option ZoneId} {flow : Nat} (h : P s) :
    P (s.postFlow i called only flow) := by
  cases called
  · exact h
  · exact k.post h

theorem replaceMeter (k : KeptByBlocks P) {s : State} {i : HeaderId} {v : MeterSettings} (h : P s) : P (s.replaceMeter i v) :=
  k.beginInterval (k.updMeter (k.reportProgress (k.apportion h)))

/-! ### Regimes and stops -/

theorem enterRegime (k : KeptByBlocks P) {s : State} {r : Regime} {manual : Option (List Entry)} {stack : List Frame} {port : Option Port}
    (h : P s) : P (s.enterRegime r manual stack port) := k.post (k.tables h rfl rfl rfl)

theorem reportFramed (k : KeptByBlocks P) {s : State} {es : List Entry} (h : P s) : P (s.reportFramed es) := by
  refine List.foldlRecOn es _ h fun t ht e _ => ?_
  split
  · exact k.post ht
  · exact ht

theorem pushFrost (k : KeptByBlocks P) {s : State} (h : P s) : P s.pushFrost := by
  unfold State.pushFrost
  split
  · exact k.enterRegime h
  · exact k.enterRegime (k.quiet (s.closeTagged_quiet _ _) h)
  · exact k.enterRegime (k.quiet (State.closeTagged_quiet _ _ _) (k.reportFramed h))
  · exact h

theorem armingChanges (k : KeptByBlocks P) {s : State} (h : P s) : P s.armingChanges := by
  have hcleared : P (s.mapZones fun _ x => { x with dryClock := 0, overdue := false }) := k.mapZones h fun _ _ => ⟨rfl, rfl⟩
  exact k.triage (k.tables hcleared rfl rfl rfl)

theorem clearAdmitted (k : KeptByBlocks P) {s : State} (h : P s) : P s.clearAdmitted := by
  have hcleared : P (s.mapZones fun _ x => { x with admitted := false, requiredFlow := none, overdue := false }) :=
    k.mapZones h fun _ _ => ⟨rfl, rfl⟩
  exact k.tables hcleared rfl rfl rfl

theorem judgeStale (k : KeptByBlocks P) {s : State} {wasFresh : Bool} (h : P s) : P (s.judgeStale wasFresh) := by
  unfold State.judgeStale
  split
  · exact k.post h
  · exact h

theorem stopEngine (k : KeptByBlocks P) {s : State} {cause : StopCause} {port : Option Port} {value : Int} (h : P s) :
    P (s.stopEngine cause port value) := k.post (k.quiet (State.closeAll_quiet _ _) (k.tables h rfl rfl rfl))

theorem takeStop (k : KeptByBlocks P) {s : State} (h : P s) : P s.takeStop := by
  unfold State.takeStop
  split
  · exact k.stopEngine h
  · exact k.stopEngine h
  · split
    · exact h
    · exact k.post (k.tables h rfl rfl rfl)

end KeptByBlocks

namespace KeptInEvents
variable {P : State → Prop}

/-! ### Selections -/

theorem toSelection (k : KeptInEvents P) : KeptInSelection P where
  quiet := fun _ _ q h => k.quiet q h
  engine := fun _ _ _ h => k.tables h rfl rfl rfl
  triage := fun _ h => k.triage h
  inFlight := fun _ _ h => k.tables h rfl rfl rfl
  owed := fun _ _ h => k.tables h rfl rfl rfl
  event := k.event

theorem select (k : KeptInEvents P) {s : State} (h : P s) : P s.select := k.toSelection.select h

theorem pop (k : KeptInEvents P) {s : State} {port : Option Port} (h : P s) : P (s.pop port) := k.toSelection.pop port h

theorem selectIf (k : KeptInEvents P) {s : State} {due : Bool} (h : P s) : P (s.selectIf due) := by
  cases due
  · exact h
  · exact k.select h

theorem reportCeilings (k : KeptInEvents P) {s : State} (h : P s) : P s.reportCeilings := by
  unfold State.reportCeilings
  split
  · exact k.select (k.retriage (k.tables h rfl rfl rfl))
  · exact h

/-! ### Lockout requests -/

theorem lockoutWhileShut (k : KeptInEvents P) {s : State} {z : ZoneId} (h : P s) : P (s.lockoutWhileShut z) := by
  have hjudge : P (if (s.zone z).frostMember then s.retriage else s) := by
    split
    · exact k.retriage h
    · exact h
  unfold State.lockoutWhileShut
  extract_lets t
  split
  · exact hjudge
  · exact k.select hjudge

theorem requestLockout (k : KeptInEvents P) {s : State} {z : ZoneId} {l : Lockout} (h : P s) : P (s.requestLockout z l) := by
  have hlocked : P (s.setLockout z l) := k.setLockout h
  unfold State.requestLockout
  dsimp only
  split
  · split
    · exact k.quiet (State.closeChannel_quiet _ z _) hlocked
    · exact k.quiet (State.closeChannel_quiet _ z _) hlocked
    · exact hlocked
    · exact k.lockoutWhileShut hlocked
  · exact h

theorem sendLockout (k : KeptInEvents P) {s : State} {called : Option Direction} {only : Option ZoneId} {later : Bool} (h : P s) :
    P (s.sendLockout called only later) := by
  unfold State.sendLockout
  split
  · split
    · exact k.tables h rfl rfl rfl
    · exact k.requestLockout h
  · exact h

/-- An expiry of an interval, in whatever order its reports are taken (R59; log entry 9). -/
theorem expireInterval (k : KeptInEvents P) {s : State} {i : HeaderId} {order : ExpiryOrder} (h : P s) : P (s.expireInterval i order) := by
  have hcredit : ∀ f, P ((s.apportion i).updMeter i f) := fun f => k.updMeter (k.apportion h)
  refine k.beginInterval ?_
  cases order with
  | progressFirst => exact k.sendLockout (k.postFlow (k.reportProgress (hcredit _)))
  | noticeFirst => exact k.sendLockout (k.reportProgress (k.postFlow (hcredit _)))
  | lockoutFirst => exact k.reportProgress (k.sendLockout (k.postFlow (hcredit _)))
  | lockoutLater => exact k.sendLockout (k.postFlow (k.reportProgress (hcredit _)))
  | noticeFirstLockoutLater => exact k.sendLockout (k.reportProgress (k.postFlow (hcredit _)))

theorem removeLockout (k : KeptInEvents P) {s : State} {z : ZoneId} (h : P s) : P (s.removeLockout z) := by
  have hclear : P (s.updZone z fun x => { x with lockout := none }) := k.updZone h fun _ => ⟨rfl, rfl⟩
  refine k.select ?_
  split
  · exact k.retriage hclear
  · exact hclear

/-! ### The clock -/

theorem minuteChange (k : KeptInEvents P) {s : State} (h : P s) : P s.minuteChange := by
  refine k.selectIf ?_
  split
  · exact k.takePass (k.evaluateWindows h)
  · exact k.evaluateWindows h

theorem advanceClock (k : KeptInEvents P) {s : State} (h : P s) : P s.advanceClock := by
  have htick : P { s with clock := s.clock.advance } := k.tables h rfl rfl rfl
  unfold State.advanceClock
  dsimp only
  split
  · exact k.minuteChange htick
  · exact htick

theorem replacePeriod (k : KeptInEvents P) {s : State} {p : Port} {v : PeriodSettings} (h : P s) : P (s.replacePeriod p v) := by
  have hset : P { s with clock := s.clock.withSettings v } := k.tables h rfl rfl rfl
  unfold State.replacePeriod
  dsimp only
  split
  · exact hset
  · exact k.select (k.testAllotment (k.recomputeQuotas hset))

theorem replaceWindow (k : KeptInEvents P) {s : State} {g : GroupId} {start finish : Nat} (h : P s) : P (s.replaceWindow g start finish) :=
  k.selectIf (k.evaluateWindows (k.tables h rfl rfl rfl))

theorem replaceRing (k : KeptInEvents P) {s : State} {ring : List ZoneId} (h : P s) : P (s.replaceRing ring) :=
  k.select (k.recomputeQuotas (k.pruneSuspended (k.tables h rfl rfl rfl)))

/-! ### Frost -/

theorem armFrost (k : KeptInEvents P) {s : State} {target : FrostState} {inhibit : Bool} {port : Option Port} {value : Int} (h : P s) :
    P (s.armFrost target inhibit port value) := k.select (k.armingChanges (k.pushFrost (k.post (k.tables h rfl rfl rfl))))

theorem disarmFrost (k : KeptInEvents P) {s : State} {inhibit : Bool} {port : Option Port} {value : Int} (h : P s) :
    P (s.disarmFrost inhibit port value) := k.select (k.pop (k.clearAdmitted (k.post (k.tables h rfl rfl rfl))))

theorem judgeFrost (k : KeptInEvents P) {s : State} {port : Option Port} (h : P s) : P (s.judgeFrost port) := by
  unfold State.judgeFrost
  dsimp only
  split
  · split
    · exact k.armFrost h
    · exact h
  · split
    · split
      · exact k.disarmFrost h
      · exact h
    · exact k.tables h rfl rfl rfl
  · exact h

theorem evaluateClimate (k : KeptInEvents P) {s : State} {isReport : Bool} {port : Option Port} (h : P s) :
    P (s.evaluateClimate isReport port) := k.judgeStale (k.judgeFrost (k.tables h rfl rfl rfl))

theorem expireSlot (k : KeptInEvents P) {s : State} {p : Port} (h : P s) : P (s.expireSlot p) := by
  unfold State.expireSlot
  split
  · split
    · exact k.evaluateClimate (k.tables h rfl rfl rfl)
    · exact h
  · exact h

/-! ### The effects of directives -/

theorem runStartQuota (k : KeptInEvents P) {s : State} {p : Port} (h : P s) : P (s.runStartQuota p).1 := by
  unfold State.runStartQuota
  split
  · exact h
  · exact k.select (k.enterRegime h)
  · split
    · exact h
    · exact k.tables h rfl rfl rfl
  · split
    · exact h
    · exact k.tables h rfl rfl rfl

theorem runStopQuota (k : KeptInEvents P) {s : State} {p : Port} (h : P s) : P (s.runStopQuota p).1 := by
  unfold State.runStopQuota
  split
  · dsimp only
    exact k.select (k.pop (k.pruneSuspended (k.quiet (s.closeTagged_quiet _ _) h)))
  · split
    · dsimp only
      exact k.pruneSuspended (k.tables h rfl rfl rfl)
    · exact h

theorem startManual (k : KeptInEvents P) {s : State} {p : Port} {entries : List Entry} (h : P s) : P (s.startManual p entries) := by
  refine k.select (k.enterRegime ?_)
  split
  · exact k.quiet (s.closeTagged_quiet _ _) h
  · exact h

theorem runRunManual (k : KeptInEvents P) {s : State} {p : Port} {entries : List (Nat × Nat)} (h : P s) : P (s.runRunManual p entries).1 := by
  have htake : ∀ zones times clamped, P (s.takeRunManual p zones times clamped).1 := fun zones times clamped => by
    unfold State.takeRunManual
    split
    · exact h
    · split
      · exact k.startManual h
      · exact k.startManual h
      · exact h
      · exact h
  unfold State.runRunManual
  split
  · exact h
  · split
    · exact h
    · exact Checked.orRange_keeps _ h fun times clamped => htake _ times clamped

theorem runCancelManual (k : KeptInEvents P) {s : State} {p : Port} (h : P s) : P (s.runCancelManual p).1 := by
  have hdiscard : ∀ t, P t → P t.discardManual := fun t ht => k.tables ht rfl rfl rfl
  unfold State.runCancelManual
  split
  · dsimp only
    exact k.select (k.pop (hdiscard _ (k.quiet (s.closeTagged_quiet _ _) h)))
  · split
    · exact k.tables h rfl rfl rfl
    · exact h

theorem runPause (k : KeptInEvents P) {s : State} (h : P s) : P s.runPause.1 := by
  unfold State.runPause
  split
  · exact h
  · split
    · exact k.tables h rfl rfl rfl
    · exact h

theorem runResume (k : KeptInEvents P) {s : State} (h : P s) : P s.runResume.1 := by
  unfold State.runResume
  split
  · exact h
  · split
    · exact h
    · exact k.select (k.tables h rfl rfl rfl)

theorem runShutdown (k : KeptInEvents P) {s : State} {p : Port} (h : P s) : P (s.runShutdown p).1 := by
  unfold State.runShutdown
  split
  · exact h
  · dsimp only
    exact k.stopEngine h

theorem runNewPeriod (k : KeptInEvents P) {s : State} {p : Port} (h : P s) : P (s.runNewPeriod p).1 := by
  unfold State.runNewPeriod
  dsimp only
  exact k.select (k.rollPeriod (k.tables h rfl rfl rfl))

theorem runArmFrost (k : KeptInEvents P) {s : State} {p : Port} (h : P s) : P (s.runArmFrost p).1 := by
  unfold State.runArmFrost
  split
  · dsimp only
    exact k.armFrost h
  · exact k.post (k.tables h rfl rfl rfl)
  · exact h

theorem runDisarmFrost (k : KeptInEvents P) {s : State} {p : Port} (h : P s) : P (s.runDisarmFrost p).1 := by
  unfold State.runDisarmFrost
  split
  · dsimp only
    exact k.disarmFrost h
  · split
    · exact h
    · exact k.tables h rfl rfl rfl

theorem runReportTemperature (k : KeptInEvents P) {s : State} {p : Port} {t : Int} (h : P s) : P (s.runReportTemperature p t).1 :=
  Checked.orRange_keeps _ h fun _ _ => k.evaluateClimate (k.tables h rfl rfl rfl)

theorem runSetFrostLimits (k : KeptInEvents P) {s : State} {p : Port} {arm disarm : Int} {thawHold timeout : Nat} (h : P s) :
    P (s.runSetFrostLimits p arm disarm thawHold timeout).1 :=
  Checked.orRange_keeps _ h fun _ _ => k.evaluateClimate (k.tables h rfl rfl rfl)

theorem runCloseZone (k : KeptInEvents P) {s : State} {z : ZoneId} (h : P s) : P (s.runCloseZone z).1 := by
  unfold State.runCloseZone
  split
  · exact k.quiet (s.closeChannel_quiet z .closeZone) h
  · exact h

theorem runClearLockout (k : KeptInEvents P) {s : State} {z : ZoneId} (h : P s) : P (s.runClearLockout z).1 := by
  unfold State.runClearLockout
  split
  · exact h
  · split
    · exact h
    · exact k.removeLockout h

theorem runSetClock (k : KeptInEvents P) {s : State} {p : Port} {day second : Nat} (h : P s) : P (s.runSetClock p day second).1 :=
  Checked.orRange_keeps _ h fun _ _ => k.selectIf (k.evaluateWindows (k.tables h rfl rfl rfl))

theorem runSetRing (k : KeptInEvents P) {s : State} {p : Port} {zones : List Nat} (h : P s) : P (s.runSetRing p zones).1 := by
  unfold State.runSetRing
  split
  · exact h
  · split
    · exact h
    · rw [State.requirePlan_eq]
      split
      · exact k.replaceRing h
      · exact h

theorem requirePlanOverBreak (P : State → Prop) {s : State} {p : Port} {r : State × Answer} (h : P s) (hr : P r.1) :
    P (s.requirePlanOverBreak p r).1 := by
  unfold State.requirePlanOverBreak State.requirePlanIf
  split
  · exact hr
  · exact h

theorem runSetPeriod (k : KeptInEvents P) {s : State} {p : Port} {l m a : Nat} (h : P s) : P (s.runSetPeriod p l m a).1 :=
  Checked.orRange_keeps _ h fun _ _ => requirePlanOverBreak P h (k.replacePeriod h)

theorem withIndex (P : State → Prop) {n v : Nat} {s : State} {f : Fin n → State × Answer} (h : P s) (hf : ∀ i, P (f i).1) :
    P (withIndex n v s f).1 := by
  unfold Machine.withIndex
  split
  · exact hf _
  · exact h

theorem runSetMeter (k : KeptInEvents P) {s : State} {p : Port} {header : Nat} {fields : MeterFields} (h : P s) :
    P (s.runSetMeter p header fields).1 :=
  withIndex P h fun _ => Checked.orRange_keeps _ h fun _ _ => requirePlanOverBreak P h (k.replaceMeter h)

theorem runSetWindow (k : KeptInEvents P) {s : State} {p : Port} {group start finish : Nat} (h : P s) :
    P (s.runSetWindow p group start finish).1 := by
  refine withIndex P h fun g => Checked.orRange_keeps _ h fun v _ => ?_
  rcases s.requireGroups_cases p [g] (s.replaceWindow g v.1 v.2, .done _) with ⟨he, -⟩ | ⟨_, -, -, he⟩
  · rw [he]; exact k.replaceWindow h
  · rw [he]; exact h

theorem runSelectZones (P : State → Prop) {s : State} {field test : Nat} (h : P s) : P (s.runSelectZones field test).1 := by
  unfold State.runSelectZones
  split
  · exact h
  · split <;> exact h

end KeptInEvents

end Sys2Proof.Machine
end

section
/-! What the port controllers do touches the ports alone (R166 to R174). -/

namespace Sys2Proof.Machine

/-- From `s` to `t` nothing but the ports has changed. -/
def PortsOnly (s t : State) : Prop := t = { s with ports := t.ports }

theorem PortsOnly.refl (s : State) : PortsOnly s s := rfl

theorem PortsOnly.after {s t u : State} (k : PortsOnly t u) (h : PortsOnly s t) : PortsOnly s u := by
  unfold PortsOnly at *
  rw [k, h]

theorem State.reply_portsOnly (s : State) (p : Port) (r : Reply) : PortsOnly s (s.reply p r) := rfl

theorem State.setAssembler_portsOnly (s : State) (p : Port) (a : Assembler) : PortsOnly s (s.setAssembler p a) := rfl

theorem State.takeWithdraw_portsOnly (s : State) (p : Port) : PortsOnly s (s.takeWithdraw p) := by
  unfold State.takeWithdraw
  split
  · exact s.reply_portsOnly p _
  · exact (State.reply_portsOnly _ p _).after rfl
  · exact s.reply_portsOnly p _

theorem State.admitDirective_portsOnly (s : State) (p : Port) (d : Directive) : PortsOnly s (s.admitDirective p d) := by
  unfold State.admitDirective
  split
  · split
    · exact rfl
    · exact s.reply_portsOnly p _
  · exact s.reply_portsOnly p _

theorem State.checkFrame_portsOnly (s : State) (p : Port) (frame : List Byte) : PortsOnly s (s.checkFrame p frame) := by
  unfold State.checkFrame
  split
  · exact s.reply_portsOnly p _
  · exact s.reply_portsOnly p _
  · exact s.takeWithdraw_portsOnly p
  · exact s.reply_portsOnly p _
  · exact s.admitDirective_portsOnly p _

theorem State.storeByte_portsOnly (s : State) (p : Port) (bytes : List Byte) (b : Byte) : PortsOnly s (s.storeByte p bytes b) := by
  unfold State.storeByte
  split
  · split <;> exact s.setAssembler_portsOnly p _
  · split
    · exact (State.checkFrame_portsOnly _ p _).after (s.setAssembler_portsOnly p _)
    · exact s.setAssembler_portsOnly p _

theorem State.takeByte_portsOnly (s : State) (p : Port) (b : Byte) : PortsOnly s (s.takeByte p b) := by
  unfold State.takeByte
  split
  · split
    · exact s.setAssembler_portsOnly p _
    · exact .refl s
  · exact s.storeByte_portsOnly p _ b
  · exact .refl s

theorem State.takeBadCharacter_portsOnly (s : State) (p : Port) : PortsOnly s (s.takeBadCharacter p) := by
  unfold State.takeBadCharacter
  split
  · exact .refl s
  · exact s.setAssembler_portsOnly p _
  · exact .refl s

theorem State.takeSilence_portsOnly (s : State) (p : Port) : PortsOnly s (s.takeSilence p) := by
  unfold State.takeSilence
  split
  · exact .refl s
  · exact (State.reply_portsOnly _ p _).after (s.setAssembler_portsOnly p _)
  · exact (State.reply_portsOnly _ p _).after (s.setAssembler_portsOnly p _)

end Sys2Proof.Machine
end

section
/-! The directives by what they do at their completion (R172): one table of effects, and what those effects keep. -/

namespace Sys2Proof
open Machine

/-- The effect of a directive of a port and its answer, as its rule gives them; of the two supply directives up to the report to the engine. -/
def Directive.run (p : Port) : Directive → State → State × Answer
  | .readZone z => fun s => withIndex 32 z s fun i => (s, .result (s.zone i).bytes)
  | .readGroup g => fun s => withIndex 8 g s fun i =>
    (s, .result (natBytes 2 (s.group i).start ++ natBytes 2 (s.group i).finish ++ yesNo (s.group i).windowOpen))
  | .readRing => fun s => (s, .result s.ringBytes)
  | .readHeader h => fun s => withIndex 4 h s fun i => (s, .result ((s.meter i).bytes ++ s.supply.bytes i))
  | .readEngine => fun s => (s, .result s.engineBytes)
  | .readClimate => fun s => (s, .result s.climateBytes)
  | .readClock => fun s => (s, .result s.clockBytes)
  | .readHolds => fun s => (s, .result s.holdsBytes)
  | .readPort => fun s => (s.updPort p fun q => { q with overflow := false }, .result ((s.port p).bytes p))
  | .selectZones f t => fun s => s.runSelectZones f t
  | .fetchNotice => fun s => s.runFetchNotice p
  | .takeHold e => fun s => withIndex 9 e s fun i => s.runTakeHold p i
  | .releaseHold e => fun s => withIndex 9 e s fun i => s.runReleaseHold p i
  | .editZone z f => fun s => s.runEditZone p z f
  | .clearZone z => fun s => s.runClearZone p z
  | .setWindow g a b => fun s => s.runSetWindow p g a b
  | .setRing zs => fun s => s.runSetRing p zs
  | .setPeriod l m a => fun s => s.runSetPeriod p l m a
  | .setMeter h f => fun s => s.runSetMeter p h f
  | .declareSupply f v => fun s => s.runDeclare p f v
  | .setFallback f => fun s => s.runSetFallback p f
  | .reportTemperature t => fun s => s.runReportTemperature p t
  | .armFrost => fun s => s.runArmFrost p
  | .disarmFrost => fun s => s.runDisarmFrost p
  | .setFrostLimits a d h t => fun s => s.runSetFrostLimits p a d h t
  | .startQuota => fun s => s.runStartQuota p
  | .stopQuota => fun s => s.runStopQuota p
  | .runManual es => fun s => s.runRunManual p es
  | .cancelManual => fun s => s.runCancelManual p
  | .pause => State.runPause
  | .resume => State.runResume
  | .shutdown => fun s => s.runShutdown p
  | .closeZone z => fun s => withIndex 32 z s fun i => s.runCloseZone i
  | .clearLockout z => fun s => withIndex 32 z s fun i => s.runClearLockout i
  | .breakHold e => fun s => withIndex 9 e s fun i => s.runBreakHold i
  | .setClock d t => fun s => s.runSetClock p d t
  | .newPeriod => fun s => s.runNewPeriod p
  | .setOptions m f s r n => fun t => t.runSetOptions p m f s r n
  | .narrowRights a b c d => fun s => s.runNarrowRights p a b c d

/-- The directives of the hold table, and the edits (R13 to R15, R28, R29, R31). -/
def Directive.onHolds : Directive → Bool
  | .takeHold _ => true
  | .releaseHold _ => true
  | .breakHold _ => true
  | .editZone _ _ => true
  | .clearZone _ => true
  | _ => false

end Sys2Proof

namespace Sys2Proof.Machine

/-- The command of a directive completes it (R172; log entry 4). -/
theorem exec_directive {c : Instr} {p : Port} {d : Directive} (hc : c.directive = some (p, d)) (hd : d.isSupply = false) (s : State) :
    exec c s = .next (s.complete p d (d.run p)) := by
  cases c with
  | declareSupply => cases hc; cases hd
  | setFallback => cases hc; cases hd
  | _ => cases hc <;> rfl

/-- The two supply directives complete at once with the report to the engine after them, or are sent into a selection (R84, R87; log entry 10). -/
theorem exec_supplyDirective {c : Instr} {p : Port} {d : Directive} (hc : c.directive = some (p, d)) (hd : d.isSupply = true) (s : State) :
    exec c s = .next (s.complete p d (d.run p)).reportCeilings ∨
      ∃ ev n, ¬completesAtOnce c ∧ exec c s = .next (s.sendInto ev n (s.carries p d)) := by
  cases c with
  | declareSupply q f v taking =>
    cases hc
    cases taking with
    | atOnce => exact .inl rfl
    | inSelection n => exact .inr ⟨_, n, fun h => (h n).1 _ _ _ rfl, rfl⟩
  | setFallback q f taking =>
    cases hc
    cases taking with
    | atOnce => exact .inl rfl
    | inSelection n => exact .inr ⟨_, n, fun h => (h n).2 _ _ rfl, rfl⟩
  | _ => cases hc <;> cases hd

/-- What the blocks' operations keep, and what changes of the port beside its mailbox and its replies do, every directive keeps that is none of the hold table's and no
edit. -/
theorem KeptInEvents.run {P : State → Prop} (k : KeptInEvents P) {p : Port}
    (hport : ∀ {s : State} (f : PortState → PortState), (∀ q, (f q).mailbox = q.mailbox ∧ (f q).replies = q.replies) → P s → P (s.updPort p f))
    (d : Directive) (hd : d.onHolds = false) {s : State} (h : P s) : P (d.run p s).1 := by
  cases d with
  | readZone z => exact withIndex P h fun _ => h
  | readGroup g => exact withIndex P h fun _ => h
  | readRing => exact h
  | readHeader i => exact withIndex P h fun _ => h
  | readEngine => exact h
  | readClimate => exact h
  | readClock => exact h
  | readHolds => exact h
  | readPort => exact hport (fun q => { q with overflow := false }) (fun _ => ⟨rfl, rfl⟩) h
  | selectZones f t => exact runSelectZones P h
  | fetchNotice =>
    change P (s.runFetchNotice p).1
    unfold State.runFetchNotice
    split
    · rename_i rest _
      exact hport (fun q => { q with notices := rest }) (fun _ => ⟨rfl, rfl⟩) h
    · exact h
  | takeHold => cases hd
  | releaseHold => cases hd
  | breakHold => cases hd
  | editZone => cases hd
  | clearZone => cases hd
  | setWindow g a b => exact k.runSetWindow h
  | setRing zs => exact k.runSetRing h
  | setPeriod l m a => exact k.runSetPeriod h
  | setMeter i f => exact k.runSetMeter h
  | declareSupply f v => exact k.runDeclare h
  | setFallback f => exact k.runSetFallback h
  | reportTemperature t => exact k.runReportTemperature h
  | armFrost => exact k.runArmFrost h
  | disarmFrost => exact k.runDisarmFrost h
  | setFrostLimits a d i t => exact k.runSetFrostLimits h
  | startQuota => exact k.runStartQuota h
  | stopQuota => exact k.runStopQuota h
  | runManual es => exact k.runRunManual h
  | cancelManual => exact k.runCancelManual h
  | pause => exact k.runPause h
  | resume => exact k.runResume h
  | shutdown => exact k.runShutdown h
  | closeZone z => exact withIndex P h fun _ => k.runCloseZone h
  | clearLockout z => exact withIndex P h fun _ => k.runClearLockout h
  | setClock d t => exact k.runSetClock h
  | newPeriod => exact k.runNewPeriod h
  | setOptions m f t r n =>
    exact Checked.orRange_keeps _ h fun v _ => hport (fun q => { q with strict := v.1, filter := v.2 }) (fun _ => ⟨rfl, rfl⟩) h
  | narrowRights a b c d =>
    exact hport (fun q => { q with rights := narrowed (s.port p).rights a b c d }) (fun _ => ⟨rfl, rfl⟩) h

end Sys2Proof.Machine
end

section
/-! R25 through every step: an entry becomes RELEASING only at RELEASE-HOLD, and the last pending edit of a group leaves only by its application, which lands it. -/

namespace Sys2Proof.Machine

/-- Outstanding edits of a group, counted or named (R16, R25). -/
theorem State.deferredCount_pos (s : State) (g : GroupId) : 0 < s.deferredCount g ↔ ∃ z, (s.zone z).editBelongs g = true := by
  simp [State.deferredCount, List.length_pos_iff_exists_mem, zoneIds]

theorem Zone.editBelongs_congr {x y : Zone} (hp : y.programme = x.programme) (he : y.pendingEdit = x.pendingEdit) : y.editBelongs = x.editBelongs := by
  funext g
  unfold Zone.editBelongs
  rw [hp, he]

/-- What leaves the hold table and the edits of every zone as they stand keeps the law of R25. -/
theorem State.releasingWaits_of_same {s t : State} (hh : t.holds = s.holds) (hp : ∀ z, (t.zone z).programme = (s.zone z).programme)
    (he : ∀ z, (t.zone z).pendingEdit = (s.zone z).pendingEdit) (h : s.releasingWaits) : t.releasingWaits := by
  have hhold : ∀ e, t.hold e = s.hold e := fun e => by unfold State.hold; rw [hh]
  have hcount : ∀ g, t.deferredCount g = s.deferredCount g := fun g => by
    unfold State.deferredCount
    simp only [Zone.editBelongs_congr (hp _) (he _)]
  unfold State.releasingWaits
  simp only [hhold, hcount]
  exact h

theorem State.updPort_releasingWaits {s : State} {p : Port} {f : PortState → PortState} (h : s.releasingWaits) : (s.updPort p f).releasingWaits := h

theorem PortsOnly.releasingWaits {s t : State} (k : PortsOnly s t) (h : s.releasingWaits) : t.releasingWaits := by
  rw [k]
  exact h

theorem keptInEvents_releasingWaits : KeptInEvents State.releasingWaits :=
  KeptByBlocks.toEvents
    { quiet := fun q h => State.releasingWaits_of_same q.holds (fun z => (q.zone z).programme) (fun z => (q.zone z).pendingEdit) h
      judged := fun j h =>
        State.releasingWaits_of_same (by rw [j.rest]) (fun z => by rw [j.zone z]) (fun z => by rw [j.zone z]) h
      plain := fun n h => State.releasingWaits_of_same n.holds n.programme n.pendingEdit h }
    fun h => State.updPort_releasingWaits h

/-! ### The hold table -/

/-- With no entry RELEASING the law of R25 holds. -/
theorem State.releasingWaits_of_none {s : State} (h : ∀ e, (s.hold e).isReleasing = false) : s.releasingWaits :=
  ⟨fun g hg => by simp [h] at hg, h planEntry⟩

/-- An entry that is not set RELEASING, or that is a group's with an edit outstanding, keeps the law (R25, R28, R29, R31). -/
theorem State.setHold_releasingWaits {s : State} (e : EntryId) {x : Hold} (h : s.releasingWaits)
    (hx : x.isReleasing = true → ∃ g, e = groupEntry g ∧ 0 < s.deferredCount g) : (s.setHold e x).releasingWaits := by
  obtain ⟨hgroups, hplan⟩ := h
  refine ⟨fun g hg => ?_, ?_⟩
  · change 0 < s.deferredCount g
    rw [State.hold_setHold] at hg
    split at hg
    · rename_i he
      obtain ⟨g', he', hcount⟩ := hx hg
      rwa [groupEntry_inj.mp (he.trans he')]
    · exact hgroups g hg
  · rw [State.hold_setHold]
    split
    · rename_i he
      by_contra hr
      obtain ⟨g, he', -⟩ := hx (by simpa using hr)
      exact groupEntry_ne_planEntry g (he.trans he').symm
    · exact hplan

theorem State.outstanding_group {s : State} {e : EntryId} (h : s.outstanding e = true) : ∃ g, e = groupEntry g ∧ 0 < s.deferredCount g := by
  unfold State.outstanding indexOf at h
  split at h
  · rename_i g hg
    split at hg
    · cases hg
      exact ⟨_, rfl, of_decide_eq_true h⟩
    · cases hg
  · cases h

theorem State.runTakeHold_releasingWaits {s : State} (p : Port) (e : EntryId) (h : s.releasingWaits) : (s.runTakeHold p e).1.releasingWaits := by
  have htaken : (s.setHold e (.held p)).releasingWaits := State.setHold_releasingWaits e h (by simp [Hold.isReleasing])
  unfold State.runTakeHold
  split
  · exact htaken
  · split <;> exact h
  · split
    · exact htaken
    · exact h

theorem State.runReleaseHold_releasingWaits {s : State} (p : Port) (e : EntryId) (h : s.releasingWaits) :
    (s.runReleaseHold p e).1.releasingWaits := by
  unfold State.runReleaseHold
  split
  · split
    · rename_i ho
      exact State.setHold_releasingWaits e h fun _ => State.outstanding_group ho
    · exact State.setHold_releasingWaits e h (by simp [Hold.isReleasing])
  · exact h

theorem State.runBreakHold_releasingWaits {s : State} (e : EntryId) (h : s.releasingWaits) : (s.runBreakHold e).1.releasingWaits := by
  have hbroken : ∀ q, (s.breakEntry e q).releasingWaits := fun q =>
    keptInEvents_releasingWaits.post (State.setHold_releasingWaits e h (by simp [Hold.isReleasing]))
  unfold State.runBreakHold
  split
  · exact hbroken _
  · exact hbroken _
  · exact h

/-- The entries of the port are free after its reinitialisation, and the others stand (R33). -/
theorem State.freeHolds_hold (s : State) (p : Port) (e : EntryId) :
    (s.freeHolds p).hold e = if (s.hold e).isOf p then .free else s.hold e :=
  Vector.getElem_map (xs := s.holds) (fun h : Hold => if h.isOf p then Hold.free else h) e.isLt

theorem State.freeHolds_releasingWaits {s : State} (p : Port) (h : s.releasingWaits) : (s.freeHolds p).releasingWaits := by
  obtain ⟨hgroups, hplan⟩ := h
  have hkept : ∀ e, ((s.freeHolds p).hold e).isReleasing = true → (s.hold e).isReleasing = true := fun e he => by
    rw [State.freeHolds_hold] at he
    split at he
    · cases he
    · exact he
  exact ⟨fun g hg => hgroups g (hkept _ hg), Bool.eq_false_iff.mpr fun hr => by simp [hkept _ hr] at hplan⟩

/-! ### Edits -/

/-- A change of one zone's edit keeps the law where every group whose edit it takes away is no longer RELEASING or has another edit outstanding (R25, R30). -/
theorem State.releasingWaits_of_edit {s t : State} (z : ZoneId) (h : s.releasingWaits)
    (hother : ∀ z', z' ≠ z → (t.zone z').editBelongs = (s.zone z').editBelongs)
    (hhold : ∀ g, (t.hold (groupEntry g)).isReleasing = true →
      (s.hold (groupEntry g)).isReleasing = true ∧ ((s.zone z).editBelongs g = true → 0 < t.deferredCount g))
    (hplan : t.hold planEntry = s.hold planEntry) : t.releasingWaits := by
  refine ⟨fun g hg => ?_, by rw [hplan]; exact h.2⟩
  obtain ⟨hwas, hz⟩ := hhold g hg
  obtain ⟨z', hbelongs⟩ := (s.deferredCount_pos g).mp (h.1 g hwas)
  by_cases he : z' = z
  · exact hz (he ▸ hbelongs)
  · exact (t.deferredCount_pos g).mpr ⟨z', by rw [hother z' he]; exact hbelongs⟩

theorem State.applyNow_editBelongs_other (s : State) {z z' : ZoneId} (e : PendingEdit) (hz : z' ≠ z) :
    ((s.applyNow z e).zone z').editBelongs = (s.zone z').editBelongs := by
  obtain ⟨hprogramme, hedit⟩ := s.applyNow_zone z e z'
  rw [State.applyEdit_zone, if_neg hz] at hprogramme hedit
  exact Zone.editBelongs_congr hprogramme hedit

/-- The arrival of a pending edit lands it: a group's entry stays RELEASING only while an edit is left for it (R19, R30). -/
theorem State.applyPending_releasingWaits {s : State} (z : ZoneId) (h : s.releasingWaits) : (s.applyPending z).releasingWaits := by
  unfold State.applyPending
  split
  · rename_i e he
    obtain ⟨hrest, hentry, hplan⟩ := (s.applyNow z e).landEdits_eq (s.zone z)
    have hzone : ∀ z', ((s.applyNow z e).landEdits (s.zone z)).zone z' = (s.applyNow z e).zone z' := fun z' => by rw [hrest]; rfl
    have hcount : ∀ g, ((s.applyNow z e).landEdits (s.zone z)).deferredCount g = (s.applyNow z e).deferredCount g := fun g => by rw [hrest]; rfl
    refine State.releasingWaits_of_edit z h (fun z' hz => ?_) (fun g hg => ?_) (hplan.trans (s.applyNow_hold z e planEntry))
    · rw [hzone]
      exact s.applyNow_editBelongs_other e hz
    · rw [hentry g] at hg
      split at hg
      · cases hg
      · rename_i hlanded
        refine ⟨by rwa [State.applyNow_hold] at hg, fun hb => ?_⟩
        rw [hcount]
        by_contra hnone
        exact hlanded ⟨hg, hb, by omega⟩
  · exact h

/-- An edit that a directive carries out, with every group it touches HELD, lands on no RELEASING entry (R13, R25). -/
theorem State.carryOutEdit_releasingWaits {s : State} {p : Port} (z : ZoneId) (e : PendingEdit) (clamped : Bool) (h : s.releasingWaits)
    (hheld : ∀ g, (s.zone z).editBelongs g = true → s.hold (groupEntry g) = .held p) : (s.carryOutEdit z e clamped).1.releasingWaits := by
  have hfree : ∀ t : State, t.holds = s.holds → ∀ g, (t.hold (groupEntry g)).isReleasing = true →
      (s.hold (groupEntry g)).isReleasing = true ∧ ((s.zone z).editBelongs g = true → 0 < t.deferredCount g) := fun t ht g hg => by
    have hsame : t.hold (groupEntry g) = s.hold (groupEntry g) := by unfold State.hold; rw [ht]
    rw [hsame] at hg
    refine ⟨hg, fun hb => ?_⟩
    rw [hheld g hb] at hg
    cases hg
  unfold State.carryOutEdit
  split
  · refine keptInEvents_releasingWaits.select (State.releasingWaits_of_edit z h (fun z' hz => s.applyNow_editBelongs_other e hz) ?_ ?_)
    · exact hfree _ (by rw [State.applyNow_eq])
    · exact s.applyNow_hold z e planEntry
  · exact State.releasingWaits_of_edit z h (fun z' hz => by rw [State.zone_updZone_other _ _ hz]) (hfree _ rfl) rfl

theorem Zone.mem_touched {x : Zone} {named : Option GroupId} {g : GroupId} (h : x.editBelongs g = true) : g ∈ x.touched named := by
  simp [Zone.touched, groupIds, h]

/-- An edit behind its check of the groups it touches (R13). -/
theorem State.checkedEdit_releasingWaits {s : State} (p : Port) (z : ZoneId) (named : Option GroupId) (e : PendingEdit) (clamped : Bool)
    (h : s.releasingWaits) : (s.requireGroups p ((s.zone z).touched named) (s.carryOutEdit z e clamped)).1.releasingWaits := by
  rcases s.requireGroups_cases p ((s.zone z).touched named) (s.carryOutEdit z e clamped) with ⟨hgo, hheld⟩ | ⟨_, -, -, hrefused⟩
  · rw [hgo]
    exact State.carryOutEdit_releasingWaits z e clamped h fun g hg => hheld g (Zone.mem_touched hg)
  · rw [hrefused]
    exact h

/-! ### The SHUT reports -/

theorem State.shutReports_releasingWaits {s : State} (z : ZoneId) (r : ShutReport) (h : s.releasingWaits) : (s.shutReports z r).releasingWaits := by
  have k := keptInEvents_releasingWaits
  have hsettled : ∀ (c : Bool) (t : State) (i : Option HeaderId), t.releasingWaits → (if c then t.markSettling i else t).releasingWaits :=
    fun c t i ht => by
      cases c
      · exact ht
      · exact k.quiet (t.markSettling_quiet i) ht
  have happlied := State.applyPending_releasingWaits z (hsettled (r.direct && r.wetEnded) _ (s.zone z).openedHeader (k.lowerCommitted (o := (s.zone z).opened) h))
  exact k.select (k.triageAtShut (k.quiet (State.startDryClock_quiet _ _ _) (k.takeShut happlied)))

theorem State.updZone_shut_releasingWaits {s : State} (z : ZoneId) (h : s.releasingWaits) : (s.updZone z Zone.shut).releasingWaits :=
  keptInEvents_releasingWaits.updZone h fun _ => ⟨rfl, rfl⟩

theorem State.reachShut_releasingWaits {s : State} (z : ZoneId) (h : s.releasingWaits) : (s.reachShut z).releasingWaits :=
  State.shutReports_releasingWaits z _ (State.updZone_shut_releasingWaits z h)

theorem State.driveFault_releasingWaits {s : State} (z : ZoneId) (h : s.releasingWaits) : (s.driveFault z).releasingWaits := by
  have hshut : ((s.updZone z Zone.shut).leaveOrders z).releasingWaits :=
    keptInEvents_releasingWaits.tables (State.updZone_shut_releasingWaits z h) rfl rfl rfl
  unfold State.driveFault
  dsimp only
  split
  · exact State.shutReports_releasingWaits z _ (keptInEvents_releasingWaits.setLockout hshut)
  · exact h

/-! ### Breaks and the RESET line -/

theorem State.reinitialise_releasingWaits {s : State} (p : Port) (x : Straps) (h : s.releasingWaits) : (s.reinitialise p x).releasingWaits :=
  have hport : (s.updPort p fun q => q.reinitialised x (decide (s.hold planEntry = .held p))).releasingWaits := State.updPort_releasingWaits h
  State.freeHolds_releasingWaits p (keptInEvents_releasingWaits.evaluateClimate (keptInEvents_releasingWaits.tables hport rfl rfl rfl))

theorem State.assertReset_releasingWaits (s : State) : s.assertReset.releasingWaits :=
  State.releasingWaits_of_none fun e => by
    have hfree : s.assertReset.hold e = .free := by simp [State.hold, State.assertReset]
    rw [hfree]
    rfl

theorem State.releaseReset_releasingWaits (s : State) (a b c : Straps) : (s.releaseReset a b c).releasingWaits := by
  have hfree : ∀ e, (s.restarted a b c).hold e = .free := fun e => by
    rw [State.restarted_eq]
    exact s.releaseBlocks_hold a b c e
  have hrestarted : (s.restarted a b c).releasingWaits := State.releasingWaits_of_none fun e => by rw [hfree e]; rfl
  rw [State.releaseReset_eq]
  split
  · exact keptInEvents_releasingWaits.rollPeriod (keptInEvents_releasingWaits.tables hrestarted rfl rfl rfl)
  · exact hrestarted

/-- R25 through the effect of a directive: the hold table's and the edits each by their lemma, every other by what it leaves alone. -/
theorem Directive.run_releasingWaits (p : Port) (d : Directive) {s : State} (h : s.releasingWaits) : (d.run p s).1.releasingWaits := by
  cases hd : d.onHolds with
  | false => exact keptInEvents_releasingWaits.run (fun _ _ => State.updPort_releasingWaits) d hd h
  | true =>
    cases d with
    | takeHold e => exact KeptInEvents.withIndex State.releasingWaits h fun i => State.runTakeHold_releasingWaits p i h
    | releaseHold e => exact KeptInEvents.withIndex State.releasingWaits h fun i => State.runReleaseHold_releasingWaits p i h
    | breakHold e => exact KeptInEvents.withIndex State.releasingWaits h fun i => State.runBreakHold_releasingWaits i h
    | editZone z f =>
      exact KeptInEvents.withIndex State.releasingWaits h fun i =>
        Checked.orRange_keeps _ h fun v clamped => State.checkedEdit_releasingWaits p i _ _ clamped h
    | clearZone z =>
      refine KeptInEvents.withIndex State.releasingWaits h fun i => ?_
      split
      · exact h
      · exact State.checkedEdit_releasingWaits p i none .clear false h
    | _ => cases hd

theorem step_nil {s : State} (hp : s.pending = []) : step s = .next s.takeLockoutRequest := by
  unfold step
  rw [hp]

theorem step_cons {s : State} {i : Instr} {rest : List Instr} (hp : s.pending = i :: rest) : step s = exec i { s with pending := rest } := by
  unfold step
  rw [hp]

/-- A command whose next state is known. -/
theorem releasingWaits_of_next {r t : State} (he : (Host.Outcome.next r : Host.Outcome State Fault Refusal) = .next t) (h : r.releasingWaits) :
    t.releasingWaits := by
  cases he
  exact h

/-- R25 through the completion of a directive (R172). -/
theorem exec_directive_releasingWaits {c : Instr} {p : Port} {d : Directive} (hc : c.directive = some (p, d)) {s t : State}
    (h : s.releasingWaits) (he : exec c s = .next t) : t.releasingWaits := by
  have hcompleted : (s.complete p d (d.run p)).releasingWaits :=
    State.complete_keeps (P := State.releasingWaits) (fun _ _ _ => State.updPort_releasingWaits) h (Directive.run_releasingWaits p d h)
  cases hd : d.isSupply with
  | false =>
    rw [exec_directive hc hd] at he
    exact releasingWaits_of_next he hcompleted
  | true =>
    rcases exec_supplyDirective hc hd s with hx | ⟨ev, n, -, hx⟩
    · rw [hx] at he
      exact releasingWaits_of_next he (keptInEvents_releasingWaits.reportCeilings hcompleted)
    · rw [hx] at he
      exact releasingWaits_of_next he (keptInEvents_releasingWaits.sendInto h)

/-- R25 through every other event. -/
theorem exec_event_releasingWaits {c : Instr} (hc : c.directive = none) {s t : State} (h : s.releasingWaits) (he : exec c s = .next t) :
    t.releasingWaits := by
  have k := keptInEvents_releasingWaits
  cases c with
  | powerOn a b c => exact releasingWaits_of_next he (State.releasingWaits_of_none fun e => by rw [State.powerOn_hold]; rfl)
  | resetAsserted =>
    refine releasingWaits_of_next he ?_
    split
    · exact h
    · exact s.assertReset_releasingWaits
  | resetReleased a b c =>
    refine releasingWaits_of_next he ?_
    split
    · exact s.releaseReset_releasingWaits a b c
    · exact h
  | stopAsserted =>
    have hlow : ({ s with stopLow := true } : State).releasingWaits := h
    refine releasingWaits_of_next he ?_
    split
    · exact h
    · exact State.live_keeps hlow (k.takeStop hlow)
  | stopReleased => exact releasingWaits_of_next he h
  | rawPulse i => exact releasingWaits_of_next he (State.live_keeps h (k.rawPulse h))
  | driveSenseFall z =>
    refine releasingWaits_of_next he (State.live_keeps h ?_)
    split
    · exact State.driveFault_releasingWaits z h
    · exact h
  | senseTimerExpiry z high =>
    have hsampled : (s.updZone z fun x => { x with sensePhase := .watching, senseTimer := none }).releasingWaits :=
      k.updZone h fun _ => ⟨rfl, rfl⟩
    refine releasingWaits_of_next he (State.live_keeps h ?_)
    split
    · cases high
      · exact State.driveFault_releasingWaits z hsampled
      · exact hsampled
    · exact h
  | fillTimerExpiry z =>
    refine releasingWaits_of_next he (State.live_keeps h ?_)
    split
    · exact k.quiet (s.enterWet_quiet z) h
    · exact h
  | closeTimerExpiry z =>
    refine releasingWaits_of_next he (State.live_keeps h ?_)
    split
    · exact State.reachShut_releasingWaits z h
    · exact h
  | intervalTimerExpiry i order =>
    refine releasingWaits_of_next he (State.live_keeps h ?_)
    split
    · exact k.expireInterval h
    · exact h
  | validityTimerExpiry taking =>
    refine releasingWaits_of_next he (State.live_keeps h ?_)
    cases taking with
    | atOnce => exact k.reportCeilings (k.lapse h)
    | inSelection n => exact k.sendInto h
  | secondAdvance => exact releasingWaits_of_next he (k.advanceClock (State.live_keeps h (k.countSecond h)))
  | slotExpiry p => exact releasingWaits_of_next he (State.live_keeps h (k.expireSlot h))
  | thawHoldExpiry =>
    refine releasingWaits_of_next he (State.live_keeps h ?_)
    split
    · exact k.disarmFrost h
    · exact h
  | guardTimerExpiry z =>
    refine releasingWaits_of_next he (State.live_keeps h ?_)
    split
    · exact k.post (k.quiet (s.closeChannel_quiet z .guardExpired) h)
    · exact h
  | soakReached z =>
    refine releasingWaits_of_next he (State.live_keeps h ?_)
    split
    · exact k.select h
    · exact h
  | dwellEnd z =>
    refine releasingWaits_of_next he (State.live_keeps h ?_)
    split
    · exact k.quiet (s.closeChannel_quiet z .dwellEnd) h
    · exact h
  | runTimeSpent z =>
    refine releasingWaits_of_next he (State.live_keeps h ?_)
    split
    · exact k.quiet (s.closeChannel_quiet z .runTimeSpent) h
    · exact h
  | overdue z =>
    refine releasingWaits_of_next he (State.live_keeps h ?_)
    split
    · exact k.judged (s.markOverdue_judged z) h
    · exact h
  | frameComplete p frame =>
    refine releasingWaits_of_next he ?_
    split
    · exact List.foldlRecOn _ _ h fun t ht b _ => (t.takeByte_portsOnly p b).releasingWaits ht
    · exact h
  | silence p => exact releasingWaits_of_next he (State.live_keeps h ((s.takeSilence_portsOnly p).releasingWaits h))
  | lineBreak p straps =>
    have hlow : (s.updPort p fun q => { q with lineLow := true }).releasingWaits := State.updPort_releasingWaits h
    refine releasingWaits_of_next he ?_
    split
    · exact h
    · exact State.live_keeps hlow (State.reinitialise_releasingWaits p straps hlow)
  | takeUp => exact releasingWaits_of_next he (State.live_keeps h (k.takeUp_of_ports State.updPort_releasingWaits h))
  | replySent p => exact releasingWaits_of_next he (State.live_keeps h (State.updPort_releasingWaits h))
  | withdraw p =>
    refine releasingWaits_of_next he ?_
    split
    · exact (s.takeWithdraw_portsOnly p).releasingWaits h
    · exact h
  | characterReceived p data parity stop =>
    refine releasingWaits_of_next he ?_
    split
    · split
      · exact (s.takeByte_portsOnly p data).releasingWaits h
      · exact (s.takeBadCharacter_portsOnly p).releasingWaits h
    · exact h
  | receiveLineReturnsHigh p => exact releasingWaits_of_next he (State.updPort_releasingWaits h)
  | _ => cases hc

end Sys2Proof.Machine

open Sys2Proof Sys2Proof.Machine

/-- Settles O10: a step is a lockout request on its way, or a command on the queue's rest, which is a directive or another event. -/
theorem everyStepKeepsReleasingWaiting : Obligations.EveryStepKeepsReleasingWaiting := by
  intro s t h he
  cases hp : s.pending with
  | nil =>
    rw [step_nil hp] at he
    refine releasingWaits_of_next he ?_
    rcases s.takeLockoutRequest_cases with hkeep | ⟨r, rest, -, -, htaken⟩
    · rw [hkeep]
      exact h
    · rw [htaken]
      exact keptInEvents_releasingWaits.requestLockout (keptInEvents_releasingWaits.tables h rfl rfl rfl)
  | cons c rest =>
    rw [step_cons hp] at he
    have hrest : ({ s with pending := rest } : State).releasingWaits := h
    cases hc : c.directive with
    | none => exact exec_event_releasingWaits hc hrest he
    | some pd => exact exec_directive_releasingWaits hc hrest he

end

section
/-! TAKE-HOLD, RELEASE-HOLD and BREAK-HOLD (R28, R29, R31). -/

namespace Sys2Proof.Machine

/-- A directive of the hold table with the number of an entry runs on that entry (R24). -/
theorem State.complete_onEntry (s : State) (p : Port) (d : Directive) (e : EntryId) (f : State → EntryId → State × Answer) :
    s.complete p d (fun t => withIndex 9 e.val t (f t)) = s.complete p d fun t => f t e := by
  simp only [withIndex_val]

/-- Outstanding edits of an entry: it is a group's, and a pending edit belongs to the group (R25). -/
theorem State.outstanding_iff (s : State) (e : EntryId) :
    s.outstanding e = true ↔ ∃ (g : GroupId) (z : ZoneId), e.val = g.val ∧ (s.zone z).editBelongs g = true := by
  constructor
  · intro h
    obtain ⟨g, rfl, hcount⟩ := State.outstanding_group h
    obtain ⟨z, hz⟩ := (s.deferredCount_pos g).mp hcount
    exact ⟨g, z, rfl, hz⟩
  · rintro ⟨g, z, he, hz⟩
    simp [State.outstanding, he, indexOf_val, (s.deferredCount_pos g).mpr ⟨z, hz⟩]

theorem State.breakEntry_inHand {s : State} (e : EntryId) (q : Port) {p : Port} {d : Directive} {m : Option Bool} {rs : List Reply}
    (h : s.inHand p d m rs) : (s.breakEntry e q).inHand p d m rs := (State.post_quiet _ _ _ _ _ _).inHand h

end Sys2Proof.Machine

open Sys2Proof Sys2Proof.Machine

/-- Settles O21: each directive by the entry, with `State.outstanding_iff` for the count of RELEASE-HOLD. -/
theorem holdDirectivesActByTheEntry : Obligations.HoldDirectivesActByTheEntry := by
  refine ⟨fun s p => ⟨fun e h => congrArg Host.Outcome.next ?_, fun e h => congrArg Host.Outcome.next ?_, fun n hn => ⟨fun h => ?_, fun h => ?_⟩⟩,
    fun s p => ⟨fun e h => congrArg Host.Outcome.next ?_, fun n hn h => ?_⟩⟩
  · refine (s.complete_onEntry p (.takeHold e) e fun t e => t.runTakeHold p e).trans ?_
    have htaken : (s.setHold e (.held p)).inHand p (.takeHold e) none (s.port p).replies := h.inHand
    cases he : s.hold e with
    | free => exact State.complete_done h (by simp [State.runTakeHold, he]) htaken
    | held q =>
      dsimp only
      split
      · exact State.complete_unchanged h (a := .plain .already) (by simp_all [State.runTakeHold]) (by decide)
      · exact State.complete_unchanged h (a := ⟨.heldElsewhere, false, holderBytes q false⟩) (by simp_all [State.runTakeHold]) (by simp)
    | releasing q =>
      dsimp only
      split
      · exact State.complete_done h (by simp_all [State.runTakeHold]) htaken
      · exact State.complete_unchanged h (a := ⟨.heldElsewhere, false, holderBytes q true⟩) (by simp_all [State.runTakeHold]) (by simp)
  · refine (s.complete_onEntry p (.releaseHold e) e fun t e => t.runReleaseHold p e).trans ?_
    have hset : ∀ x, (s.setHold e x).inHand p (.releaseHold e) none (s.port p).replies := fun _ => h.inHand
    simp only [← State.outstanding_iff]
    split
    · rename_i hheld
      split
      · rename_i ho
        exact State.complete_answered h (a := .plain .deferred) (by simp [State.runReleaseHold, hheld, ho]) (hset _) (by decide)
      · rename_i ho
        exact State.complete_done h (by simp [State.runReleaseHold, hheld, ho]) (hset _)
    · rename_i hheld
      exact State.complete_named h (by simp [State.runReleaseHold, hheld]) (by decide)
  · exact congrArg Host.Outcome.next (State.complete_named h (withIndex_above hn s _) (by decide))
  · exact congrArg Host.Outcome.next (State.complete_named h (withIndex_above hn s _) (by decide))
  · refine (s.complete_onEntry p (.breakHold e) e fun t e => t.runBreakHold e).trans ?_
    have hbroken : ∀ q, (s.breakEntry e q).inHand p (.breakHold e) none (s.port p).replies := fun q => State.breakEntry_inHand e q h.inHand
    cases he : s.hold e with
    | free => exact State.complete_unchanged h (a := .plain .already) (by simp [State.runBreakHold, he]) (by decide)
    | held q =>
      exact State.complete_answered h (a := .result (holderBytes q false))
        (by simp [State.runBreakHold, State.breakEntry, he]) (hbroken q) (by simp [Answer.result])
    | releasing q =>
      exact State.complete_answered h (a := .result (holderBytes q true))
        (by simp [State.runBreakHold, State.breakEntry, he]) (hbroken q) (by simp [Answer.result])
  · exact congrArg Host.Outcome.next (State.complete_named h (withIndex_above hn s _) (by decide))

end

section
/-! The assertion of the RESET line (R26, R53, R73, R89, R172, R186). -/

namespace Sys2Proof.Machine

theorem State.assertReset_zone (s : State) (z : ZoneId) : s.assertReset.zone z = (s.zone z).silenced := s.zone_mapZones (fun _ x => x.silenced) z

theorem State.assertReset_port (s : State) (p : Port) : s.assertReset.port p = (s.port p).silenced := PerPort.get_map _ _ _

end Sys2Proof.Machine

open Sys2Proof Sys2Proof.Machine

/-- Settles O54: the zones and the ports by `State.assertReset_zone` and `State.assertReset_port`, the rest as it is set. -/
theorem resetAssertionSilencesThePart : Obligations.ResetAssertionSilencesThePart := fun s =>
  ⟨fun hr => congrArg Host.Outcome.next (if_pos hr),
    fun hr => ⟨s.assertReset, congrArg Host.Outcome.next (if_neg (by simp [hr])), rfl, s.assertReset_zone, s.assertReset_port⟩⟩

end

section
/-! The laws at power-on. -/

namespace Sys2Proof.Machine

theorem State.reset_zone (z : ZoneId) : State.reset.zone z = .powerOn := State.powerOn_zone _ _ _ _ _ z

theorem State.reset_meter (i : HeaderId) : State.reset.meter i = .powerOn := State.powerOn_meter _ _ _ _ _ i

theorem State.reset_port_empty (p : Port) :
    (State.reset.port p).notices = [] ∧ (State.reset.port p).replies = [] ∧ (State.reset.port p).mailbox = .empty := by
  have hp : State.reset.port p = .powerOn _ := State.powerOn_port _ _ _ _ _ p
  rw [hp]
  exact ⟨rfl, rfl, rfl⟩

/-- No channel is open at power-on. -/
theorem State.reset_openChannels : State.reset.openChannels = [] := rfl

theorem State.reset_ordersMatch : State.reset.ordersMatch := by
  have horders : State.reset.energising = [] ∧ State.reset.wetOrder = [] := ⟨rfl, rfl⟩
  refine ⟨fun z => ?_, fun z => ?_, List.nodup_nil, List.nodup_nil⟩ <;> simp [State.reset_zone, Zone.powerOn, horders]

theorem State.reset_openWithin : State.reset.openWithin := by
  have hflow : ∀ i, State.reset.openFlow i = 0 := fun i => by simp [State.openFlow, State.reset_openChannels, sumOver]
  have htotal : State.reset.totalOpenFlow = 0 := by simp [State.totalOpenFlow, State.reset_openChannels, sumOver]
  exact ⟨fun i => by rw [hflow]; exact Nat.zero_le _, by rw [htotal]; exact Nat.zero_le _⟩

theorem State.reset_suspendedMatch : State.reset.suspendedMatch := by
  have hsuspended : State.reset.planner.suspended = [] := rfl
  exact ⟨List.nodup_nil, fun z => by simp [State.reset_zone, Zone.powerOn, hsuspended]⟩

theorem State.reset_committedMatches : State.reset.committedMatches := by
  have hshut : ∀ z, (State.reset.zone z).valve = .shut := fun z => by rw [State.reset_zone]; rfl
  have hcommitted : State.reset.supply.committed = .zero := rfl
  intro _
  simp [hshut, hcommitted, sumOver, Flows.zero]

theorem State.reset_frostWhileArmed : State.reset.frostWhileArmed := by
  have hdisarmed : State.reset.armed = false := rfl
  have hregime : State.reset.engine.regime = .idle := rfl
  simp [State.frostWhileArmed, hdisarmed, hregime]

theorem State.reset_loadsWithin : State.reset.loadsWithin := by
  have hdisarmed : State.reset.armed = false := rfl
  exact ⟨rfl, fun h => by simp [hdisarmed] at h⟩

end Sys2Proof.Machine

open Sys2Proof Sys2Proof.Machine

/-- Settles O3: at power-on every channel is SHUT, every queue, list and mailbox is empty, and every total 0. -/
theorem resetMeetsTheLaws : Obligations.ResetMeetsTheLaws := by
  refine ⟨fun i => by rw [State.reset_meter]; rfl, fun p => by simp [State.reset_port_empty], fun p => by simp [State.reset_port_empty],
    fun p q hp => by simp [State.reset_port_empty, Mailbox.isExecuting] at hp, fun z _ => by rw [State.reset_zone]; rfl,
    fun _ z => by rw [State.reset_zone]; rfl, List.pairwise_singleton _ _, fun z => by rw [State.reset_zone]; exact Nat.zero_le _,
    State.releasingWaits_of_none fun e => ?_, State.reset_ordersMatch, State.reset_openWithin, State.reset_suspendedMatch,
    State.reset_frostWhileArmed,
    State.reset_committedMatches, fun a ha => ?_, State.reset_loadsWithin⟩
  · have hfree : State.reset.hold e = .free := State.powerOn_hold _ _ _ _ _ e
    rw [hfree]
    rfl
  · cases ha

end

section
/-! What SET-PERIOD and SET-METER share: a chain of checks in closed form, the plan hold over a break, and their completions (R12, R27, R33; log entry 29). -/

namespace Sys2Proof.Machine

/-- In strict mode the first value out of its range decides (R12). -/
theorem checkedAs_strict_outside {α : Type} {k i : Nat} {es : List (Nat × Nat × Nat)} {w : α} (h : es.findIdx? outOfRange = some i) :
    checkedAs true k es w = .out (k + i) := by
  simp [checkedAs, h]

/-- Checks pass in clamp mode, and in strict mode where no value is out of its range; the mark says whether one was (R12, R175). -/
theorem checkedAs_passes {α : Type} {strict : Bool} {k : Nat} {es : List (Nat × Nat × Nat)} {w : α}
    (h : strict = false ∨ es.findIdx? outOfRange = none) : checkedAs strict k es w = .ok w (es.findIdx? outOfRange).isSome := by
  rcases h with rfl | h
  · exact checkedAs_clamp k es w
  · simp [checkedAs, h]

/-- The blocks leave every directive in hand. -/
theorem keptByBlocks_inHand {p : Port} {d : Directive} (m : Option Bool) (rs : List Reply) : KeptByBlocks fun s => s.inHand p d m rs where
  quiet := fun q h => q.inHand h
  judged := fun j h => j.inHand h
  plain := fun {s t} n h => by
    have hport : t.port p = s.port p := by unfold State.port; rw [n.ports]
    unfold State.inHand
    rw [hport]
    exact h

/-- With their selections they leave a directive in hand that is no supply directive. -/
theorem keptInEvents_inHand {p : Port} {d : Directive} (m : Option Bool) (rs : List Reply) (hd : d.isSupply = false) :
    KeptInEvents fun s => s.inHand p d m rs where
  toKeptByBlocks := keptByBlocks_inHand m rs
  event := fun _ ev h => State.takeAtPoint_inHand ev hd h

/-- The completion of a directive after a break has its effects, and no reply is formed (R170). -/
theorem State.complete_unanswered {s : State} {p : Port} {d : Directive} {held : Bool} {run : State → State × Answer}
    (h : s.completingUnanswered p d held) : s.complete p d run = (run s).1.unanswered p := by
  obtain ⟨hr, hm⟩ := h
  simp [State.complete, hr, hm, State.unanswered]

/-! ### Behind the plan hold, over a break too -/

section
variable {s t : State} {p : Port} {d : Directive} {run : State → State × Answer} {clamped : Bool}

theorem State.complete_planNotHeld (hrun : run s = s.requirePlanOverBreak p (t, .done clamped)) (h : s.completing p d)
    (hheld : s.hold planEntry ≠ .held p) : s.complete p d run = s.answer p d .notHolder false [0x08#8] := by
  rw [State.requirePlanOverBreak_unbroken h.2.1, State.requirePlan_eq, if_neg hheld] at hrun
  exact State.complete_named h hrun (by decide)

theorem State.complete_planHeld (hrun : run s = s.requirePlanOverBreak p (t, .done clamped)) (h : s.completing p d)
    (hheld : s.hold planEntry = .held p) (hk : t.inHand p d none (s.port p).replies) : s.complete p d run = t.answer p d .done clamped [] := by
  rw [State.requirePlanOverBreak_unbroken h.2.1, State.requirePlan_eq, if_pos hheld] at hrun
  exact State.complete_done h hrun hk

/-- The port held the plan hold at the break: the effect nevertheless (log entry 29). -/
theorem State.complete_planHeldAtBreak (hrun : run s = s.requirePlanOverBreak p (t, .done clamped)) (h : s.completingUnanswered p d true) :
    s.complete p d run = t.unanswered p := by
  rw [State.requirePlanOverBreak_broken h.2] at hrun
  rw [State.complete_unanswered h, hrun]

/-- It neither held the plan hold at the break nor holds it now: a refusal that nobody sees (R27, R170). -/
theorem State.complete_planNotHeldAtBreak (hrun : run s = s.requirePlanOverBreak p (t, .done clamped)) (h : s.completingUnanswered p d false)
    (hheld : s.hold planEntry ≠ .held p) : s.complete p d run = s.unanswered p := by
  refine State.complete_refused_unanswered h ?_
  rw [hrun]
  simp [State.requirePlanOverBreak, State.requirePlanIf, State.heldPlanFor, hheld, h.2, Mailbox.heldPlanAtBreak]

end

end Sys2Proof.Machine
end

section
/-! SET-PERIOD (R91, R102, R103). -/

namespace Sys2Proof.Machine

/-- The three parameters of SET-PERIOD with the ends of their ranges (R102). -/
def periodFields (l m a : Nat) : List (Nat × Nat × Nat) := [(l, 1, 14), (m, 0, 1439), (a, 0, 100000000)]

/-- The settings with each parameter brought into its range (R102). -/
def clampedPeriod (l m a : Nat) : PeriodSettings := ⟨max 1 (min 14 l), min 1439 m, if a = 0 then none else some (min 100000000 a)⟩

theorem checkPeriod_eq (strict : Bool) (l m a : Nat) : checkPeriod strict l m a = checkedAs strict 0 (periodFields l m a) (clampedPeriod l m a) := by
  have hzero : min 100000000 a = 0 ↔ a = 0 := by omega
  have hvalue : clampedPeriod l m a = ⟨intoRange (l, 1, 14), intoRange (m, 0, 1439),
      if intoRange (a, 0, 100000000) = 0 then none else some (intoRange (a, 0, 100000000))⟩ := by
    simp [clampedPeriod, intoRange, hzero]
  rw [hvalue]
  exact checkNat_andThen (by decide) (checkNat_andThen (by decide) (checkNat_andThen (by decide) rfl))

theorem periodFields_outside (l m a : Nat) :
    (periodFields l m a).findIdx? outOfRange =
      if l = 0 ∨ 14 < l then some 0 else if 1439 < m then some 1 else if 100000000 < a then some 2 else none := by
  simp only [periodFields, List.findIdx?_cons, List.findIdx?_nil, outOfRange, Nat.lt_one_iff, Nat.not_lt_zero, false_or, decide_eq_true_eq]
  split
  · rfl
  · split
    · rfl
    · split <;> rfl

end Sys2Proof.Machine

open Sys2Proof Sys2Proof.Machine

/-- Settles O28: the checks by `checkPeriod_eq`, the plan hold by the four completions behind it; the effect is `State.replacePeriod`. -/
theorem setPeriodReplacesTheSettings : Obligations.SetPeriodReplacesTheSettings := by
  rintro s p l m a outside ho
  rw [← periodFields_outside] at ho
  have hchecked : s.runSetPeriod p l m a = _ := congrArg (fun c => Checked.orRange c s _) (checkPeriod_eq (s.strict p) l m a)
  refine ⟨fun i h hs hi => ?_, fun hp => ?_⟩
  · rw [show s.strict p = true from hs, checkedAs_strict_outside (ho.symm.trans hi), Nat.zero_add] at hchecked
    exact congrArg Host.Outcome.next (State.complete_named h hchecked (by decide))
  · rw [checkedAs_passes (by rwa [← ho]), ← ho] at hchecked
    refine ⟨fun h hheld => congrArg Host.Outcome.next (State.complete_planNotHeld hchecked h hheld), fun t u ht hu => ?_⟩
    have heffect : s.replacePeriod p (clampedPeriod l m a) = u := by rw [hu, ht]; rfl
    rw [← heffect]
    refine ⟨fun h hheld => ?_, fun h => ?_, fun h hheld => ?_⟩
    · exact congrArg Host.Outcome.next (State.complete_planHeld hchecked h hheld ((keptInEvents_inHand none _ rfl).replacePeriod h.inHand))
    · exact congrArg Host.Outcome.next (State.complete_planHeldAtBreak hchecked h)
    · exact congrArg Host.Outcome.next (State.complete_planNotHeldAtBreak hchecked h hheld)

end

section
/-! SET-METER (R55, R71, R72). -/

namespace Sys2Proof.Machine

/-! ### The divisor -/

theorem divisorBelow_of_mem {v : Nat} (h : v ∈ divisors) : divisorBelow v = v := by
  have hmembers : ∀ d ∈ divisors, divisorBelow d = d := by decide
  exact hmembers v h

/-- The divisor that a value is brought to is the one whose octave the value lies in, with 0 below the first and the last open above (R71). -/
theorem divisorBelow_eq {v d : Nat} (hd : d ∈ divisors) (hle : d ≤ v ∨ (v = 0 ∧ d = 1)) (hlt : v < 2 * d ∨ d = 128) : divisorBelow v = d := by
  by_cases hv : v < 128
  · have hsmall : ∀ v < 128, ∀ d ∈ divisors, (d ≤ v ∨ (v = 0 ∧ d = 1)) → (v < 2 * d ∨ d = 128) → divisorBelow v = d := by decide
    exact hsmall v hv d hd hle hlt
  · have hlast : d = 128 := by
      have hbound : ∀ d ∈ divisors, d ≤ 64 ∨ d = 128 := by decide
      rcases hbound d hd with h | h
      · omega
      · exact h
    have hall : divisors.filter (· ≤ v) = divisors := List.filter_eq_self.mpr fun e he => by
      have hbound : ∀ e ∈ divisors, e ≤ 128 := by decide
      exact decide_eq_true ((hbound e he).trans (Nat.le_of_not_lt hv))
    rw [divisorBelow, hall, hlast]
    rfl

/-! ### The six fields -/

/-- The fields after the divisor, with the ends of their ranges (R71). -/
def meterFields (f : MeterFields) : List (Nat × Nat × Nat) :=
  [(f.weight, 1, 50000), (f.interval, 5, 60), (f.tolerance, 5, 50), (f.strayThreshold, 1, 500), (f.checks, 0, 1)]

/-- The settings with each field brought into its range (R71). -/
def clampedMeter (d : Nat) (f : MeterFields) : MeterSettings where
  divisor := d
  weight := max 1 (min 50000 f.weight)
  interval := max 5 (min 60 f.interval)
  tolerance := max 5 (min 50 f.tolerance)
  strayThreshold := max 1 (min 500 f.strayThreshold)
  checks := decide (f.checks ≠ 0)

/-- The first field that is outside of its range, the divisor being field 1 (R71). -/
def meterOutside (f : MeterFields) : Option Nat :=
  if f.divisor ∈ divisors then ((meterFields f).findIdx? outOfRange).map (2 + ·) else some 1

theorem checkMeter_eq (strict : Bool) (f : MeterFields) :
    checkMeter strict f = (checkDivisor strict f.divisor).andThen fun d => checkedAs strict 2 (meterFields f) (clampedMeter d f) := by
  have hchecks : decide (f.checks ≠ 0) = decide (intoRange (f.checks, 0, 1) = 1) := by
    unfold intoRange
    exact decide_eq_decide.mpr (by dsimp only; omega)
  have hrest : ∀ d, ((checkNat strict 2 1 50000 f.weight).andThen fun weight => (checkNat strict 3 5 60 f.interval).andThen fun interval =>
      (checkNat strict 4 5 50 f.tolerance).andThen fun tolerance => (checkNat strict 5 1 500 f.strayThreshold).andThen fun strayThreshold =>
      (checkMark strict 6 f.checks).andThen fun checks => .ok (MeterSettings.mk d weight interval tolerance strayThreshold checks) false) =
      checkedAs strict 2 (meterFields f) (clampedMeter d f) := fun d => by
    unfold clampedMeter
    rw [hchecks]
    refine checkNat_andThen (by decide) (checkNat_andThen (by decide) (checkNat_andThen (by decide) (checkNat_andThen (by decide) ?_)))
    exact checkMark_andThen rfl
  unfold checkMeter
  simp only [hrest]

/-- In strict mode the first field outside of its range decides (R71). -/
theorem checkMeter_strict_outside {f : MeterFields} {i : Nat} (h : meterOutside f = some i) : checkMeter true f = .out i := by
  rw [checkMeter_eq]
  unfold meterOutside at h
  unfold checkDivisor
  split at h
  · rename_i hd
    obtain ⟨j, hj, rfl⟩ := Option.map_eq_some_iff.mp h
    rw [if_pos hd, Checked.andThen_unmarked, checkedAs_strict_outside hj]
  · rename_i hd
    cases h
    rw [if_neg hd]
    rfl

/-- The fields pass in clamp mode, and in strict mode where none is outside of its range; the mark says whether one was (R71, R175). -/
theorem checkMeter_passes {strict : Bool} {f : MeterFields} (h : strict = false ∨ meterOutside f = none) :
    checkMeter strict f = .ok (clampedMeter (divisorBelow f.divisor) f) (meterOutside f).isSome := by
  rw [checkMeter_eq]
  unfold meterOutside at *
  unfold checkDivisor
  split at h
  · rename_i hd
    rw [Option.map_eq_none_iff] at h
    rw [if_pos hd, if_pos hd, Checked.andThen_unmarked, checkedAs_passes h, divisorBelow_of_mem hd, Option.isSome_map]
  · rename_i hd
    obtain rfl : strict = false := h.resolve_right (by simp)
    simp [hd, Checked.andThen, checkedAs_clamp]

theorem meterOutside_eq (f : MeterFields) :
    meterOutside f =
      ([decide (f.divisor ∉ [1, 2, 4, 8, 16, 32, 64, 128]), decide (f.weight = 0 ∨ 50000 < f.weight), decide (f.interval < 5 ∨ 60 < f.interval),
        decide (f.tolerance < 5 ∨ 50 < f.tolerance), decide (f.strayThreshold = 0 ∨ 500 < f.strayThreshold), decide (1 < f.checks)].findIdx?
          id).map (· + 1) := by
  have hrest : [decide (f.weight = 0 ∨ 50000 < f.weight), decide (f.interval < 5 ∨ 60 < f.interval), decide (f.tolerance < 5 ∨ 50 < f.tolerance),
      decide (f.strayThreshold = 0 ∨ 500 < f.strayThreshold), decide (1 < f.checks)] = (meterFields f).map outOfRange := by
    simp [meterFields, outOfRange]
  unfold meterOutside
  rw [hrest, List.findIdx?_cons, List.findIdx?_map, Function.id_comp]
  by_cases hd : f.divisor ∈ divisors
  · have hin : decide (f.divisor ∉ [1, 2, 4, 8, 16, 32, 64, 128]) = false := decide_eq_false (not_not_intro hd)
    rw [if_pos hd, hin]
    cases (meterFields f).findIdx? outOfRange with
    | none => rfl
    | some i => exact congrArg some (Nat.add_comm 2 i)
  · have hout : decide (f.divisor ∉ [1, 2, 4, 8, 16, 32, 64, 128]) = true := decide_eq_true hd
    rw [if_neg hd, hout]
    rfl

/-! ### The new interval -/

theorem State.updMeter_updMeter (s : State) (h : HeaderId) (f g : Meter → Meter) : (s.updMeter h f).updMeter h g = s.updMeter h fun m => g (f m) := by
  simp [State.updMeter, State.meter]

/-- The interval closed out at the old weight, with its report taken (R72). -/
def State.closedOut (s : State) (h : HeaderId) : State := (s.apportion h).reportProgress (s.progressReport h)

/-- The header with its new settings at the start of an interval (R58, R72). -/
def State.renewedMeter (t : State) (h : HeaderId) (v : MeterSettings) : Meter :=
  { (t.meter h).withSettings v with
    count := 0, saturated := false, timer := v.interval
    settling := (t.drawingSet h).any fun z => (t.zone z).valve ≠ .wet
    drawn := !(t.drawingSet h).isEmpty }

theorem State.replaceMeter_eq (s : State) (h : HeaderId) (v : MeterSettings) :
    s.replaceMeter h v = (s.closedOut h).updMeter h fun _ => (s.closedOut h).renewedMeter h v := by
  unfold State.replaceMeter State.beginInterval
  rw [State.updMeter_updMeter]
  rfl

theorem State.replaceMeter_meter (s : State) (h : HeaderId) (v : MeterSettings) :
    (s.replaceMeter h v).meter h = (s.closedOut h).renewedMeter h v := by
  rw [State.replaceMeter_eq, State.meter_updMeter, if_pos rfl]

/-- SET-METER of a header of the part: its fields, the plan hold, its effect (R55, R71). -/
theorem State.runSetMeter_val (s : State) (p : Port) (h : HeaderId) (f : MeterFields) :
    s.runSetMeter p h f =
      (checkMeter (s.port p).strict f).orRange s fun v clamped => s.requirePlanOverBreak p (s.replaceMeter h v, .done clamped) :=
  withIndex_val h s _

end Sys2Proof.Machine

open Sys2Proof Sys2Proof.Machine

/-- Settles O35: the fields by `checkMeter_eq`, the plan hold by the four completions behind it, the effect by `State.replaceMeter_eq`. -/
theorem setMeterClosesOutAndReplaces : Obligations.SetMeterClosesOutAndReplaces := by
  refine fun s p n f => ⟨fun hn h => congrArg Host.Outcome.next (State.complete_named h (withIndex_above hn s _) (by decide)), ?_⟩
  rintro h rfl outside d ho hd hle hlt
  rw [← meterOutside_eq] at ho
  have hchecked := s.runSetMeter_val p h f
  refine ⟨fun i hc hs hi => ?_, fun hp => ?_⟩
  · rw [hs, checkMeter_strict_outside (ho.symm.trans hi)] at hchecked
    exact congrArg Host.Outcome.next (State.complete_named hc hchecked (by decide))
  · rw [checkMeter_passes (by rwa [← ho]), ← ho, divisorBelow_eq hd hle hlt] at hchecked
    refine ⟨fun hc hheld => congrArg Host.Outcome.next (State.complete_planNotHeld hchecked hc hheld), s.closedOut h,
      s.replaceMeter h (clampedMeter d f), ?_, ?_, ?_, ?_, fun hc hheld => ?_, fun hc => ?_, fun hc hheld => ?_⟩
    · unfold State.closedOut
      cases s.progressReport h <;> rfl
    · rw [State.replaceMeter_meter, State.replaceMeter_eq]
      rfl
    · rw [State.replaceMeter_meter]
      simp [State.renewedMeter]
    · rw [State.replaceMeter_meter]
      simp [State.renewedMeter]
    · exact congrArg Host.Outcome.next (State.complete_planHeld hchecked hc hheld ((keptInEvents_inHand none _ rfl).replaceMeter hc.inHand))
    · exact congrArg Host.Outcome.next (State.complete_planHeldAtBreak hchecked hc)
    · exact congrArg Host.Outcome.next (State.complete_planNotHeldAtBreak hchecked hc hheld)

end

section
/-! A break (R33, R143, R170), and the completion of the directive that it came under. -/

namespace Sys2Proof.Machine

/-! ### The reinitialisation -/

theorem keptInEvents_holds (hs : Vector Hold 9) : KeptInEvents fun t => t.holds = hs :=
  KeptByBlocks.toEvents
    { quiet := fun q h => q.holds.trans h
      judged := fun j h => by rw [j.rest]; exact h
      plain := fun n h => n.holds.trans h }
    fun h => h

/-- The climate has no part in the hold table. -/
theorem State.evaluateClimate_holds (s : State) (isReport : Bool) (port : Option Port) : (s.evaluateClimate isReport port).holds = s.holds :=
  (keptInEvents_holds s.holds).evaluateClimate rfl

theorem State.reinitialise_eq (s : State) (p : Port) (x : Straps) :
    s.reinitialise p x =
      { (s.updPort p fun q => q.reinitialised x (decide (s.hold planEntry = .held p))).clearSlot p with
        holds := s.holds.map fun h => if h = .held p ∨ h = .releasing p then .free else h } := by
  have hholds : ((s.updPort p fun q => q.reinitialised x (decide (s.hold planEntry = .held p))).clearSlot p).holds = s.holds :=
    State.evaluateClimate_holds _ _ _
  unfold State.reinitialise State.freeHolds
  rw [hholds]
  simp [Hold.isOf]

/-! ### The directive under the break -/

theorem State.carryOutEdit_inHand {s : State} {q : Port} (z : ZoneId) (gs : List GroupId) (e : PendingEdit) (clamped : Bool) {p : Port} {d : Directive}
    {m : Option Bool} {rs : List Reply} (hd : d.isSupply = false) (h : s.inHand p d m rs) :
    (s.requireGroups q gs (s.carryOutEdit z e clamped)).1.inHand p d m rs := by
  rcases s.requireGroups_cases q gs (s.carryOutEdit z e clamped) with ⟨hgo, -⟩ | ⟨_, -, -, hrefused⟩
  · rw [hgo]
    unfold State.carryOutEdit
    split
    · exact State.select_inHand hd (State.applyNow_inHand z e h)
    · exact h
  · rw [hrefused]
    exact h

/-- A change of a port beside its mailbox and its replies. -/
theorem State.updPort_inHand {s : State} {p : Port} {d : Directive} {m : Option Bool} {rs : List Reply} (f : PortState → PortState)
    (hf : ∀ q, (f q).mailbox = q.mailbox ∧ (f q).replies = q.replies) (h : s.inHand p d m rs) : (s.updPort p f).inHand p d m rs := by
  unfold State.inHand
  rw [State.port_updPort_same, (hf _).1, (hf _).2]
  exact h

theorem State.runTakeHold_inHand {s : State} {q : Port} (e : EntryId) {p : Port} {d : Directive} {m : Option Bool} {rs : List Reply}
    (h : s.inHand p d m rs) : (s.runTakeHold q e).1.inHand p d m rs := by
  unfold State.runTakeHold
  split
  · exact h
  · split <;> exact h
  · split <;> exact h

theorem State.runReleaseHold_inHand {s : State} {q : Port} (e : EntryId) {p : Port} {d : Directive} {m : Option Bool} {rs : List Reply}
    (h : s.inHand p d m rs) : (s.runReleaseHold q e).1.inHand p d m rs := by
  unfold State.runReleaseHold
  split
  · split <;> exact h
  · exact h

theorem State.runBreakHold_inHand {s : State} (e : EntryId) {p : Port} {d : Directive} {m : Option Bool} {rs : List Reply}
    (h : s.inHand p d m rs) : (s.runBreakHold e).1.inHand p d m rs := by
  unfold State.runBreakHold
  split
  · exact State.breakEntry_inHand e _ h
  · exact State.breakEntry_inHand e _ h
  · exact h

/-- The effect of a directive that is no supply directive leaves it in hand (R172). -/
theorem Directive.run_inHand {s : State} {p : Port} (d : Directive) {m : Option Bool} {rs : List Reply} (hd : d.isSupply = false)
    (h : s.inHand p d m rs) : (d.run p s).1.inHand p d m rs := by
  cases ho : d.onHolds with
  | false => exact (keptInEvents_inHand m rs hd).run State.updPort_inHand d ho h
  | true =>
    cases d with
    | takeHold e => exact KeptInEvents.withIndex (fun t => t.inHand p (.takeHold e) m rs) h fun i => State.runTakeHold_inHand i h
    | releaseHold e => exact KeptInEvents.withIndex (fun t => t.inHand p (.releaseHold e) m rs) h fun i => State.runReleaseHold_inHand i h
    | breakHold e => exact KeptInEvents.withIndex (fun t => t.inHand p (.breakHold e) m rs) h fun i => State.runBreakHold_inHand i h
    | editZone z f =>
      exact KeptInEvents.withIndex (fun t => t.inHand p (.editZone z f) m rs) h fun i =>
        Checked.orRange_keeps (P := fun t => t.inHand p (.editZone z f) m rs) _ h fun v clamped => State.carryOutEdit_inHand i _ _ clamped hd h
    | clearZone z =>
      refine KeptInEvents.withIndex (fun t => t.inHand p (.clearZone z) m rs) h fun i => ?_
      split
      · exact h
      · exact State.carryOutEdit_inHand i _ .clear false hd h
    | _ => cases ho

/-- The effect of a supply directive up to the report to the engine leaves it in hand too. -/
theorem Directive.run_supply_inHand {s : State} {p : Port} (d : Directive) {m : Option Bool} {rs : List Reply} (hd : d.isSupply = true)
    (h : s.inHand p d m rs) : (d.run p s).1.inHand p d m rs := by
  cases d with
  | declareSupply f v => exact (keptByBlocks_inHand m rs).runDeclare h
  | setFallback f => exact (keptByBlocks_inHand m rs).runSetFallback h
  | _ => cases hd

/-! ### A port at rest -/

/-- The mailbox of the port is EMPTY, and these replies wait. -/
def State.atRest (p : Port) (rs : List Reply) (s : State) : Prop := (s.port p).mailbox = .empty ∧ (s.port p).replies = rs

theorem State.complete_atRest {s : State} {p : Port} {d : Directive} {held : Bool} {run : State → State × Answer} {rs : List Reply}
    (h : s.completingUnanswered p d held) (hrun : (run s).1.inHand p d (some held) rs) : (s.complete p d run).atRest p rs := by
  rw [State.complete_unanswered h]
  unfold State.atRest State.unanswered
  rw [State.port_updPort_same]
  exact ⟨rfl, hrun.2⟩

theorem State.updPort_other_atRest {s : State} {p q : Port} {rs : List Reply} (f : PortState → PortState) (hq : p ≠ q) (h : s.atRest p rs) :
    (s.updPort q f).atRest p rs := by
  unfold State.atRest
  rw [State.port_updPort_other _ f hq]
  exact h

/-- A port at rest has no directive to take up (R173). -/
theorem State.takeUp_atRest {s : State} {p : Port} {rs : List Reply} (h : s.atRest p rs) : s.takeUp.atRest p rs := by
  rcases s.takeUp_cases with he | ⟨q, d, -, hnext, he⟩
  · rw [he]
    exact h
  · have hq : p ≠ q := by
      rintro rfl
      obtain ⟨r, -, hr⟩ := List.exists_of_findSome?_eq_some hnext
      obtain ⟨d', hwaiting, heq⟩ := Option.map_eq_some_iff.mp hr
      cases heq
      rw [h.1] at hwaiting
      cases hwaiting
    have hexecuting : (s.updPort q fun x => { x with mailbox := .executing d none }).atRest p rs := State.updPort_other_atRest _ hq h
    rw [he]
    exact hexecuting

/-- A completion leaves a port at rest: it is on another port, or there is nothing to complete (R172). -/
theorem State.complete_keeps_atRest {s : State} {p q : Port} {d : Directive} {run : State → State × Answer} {rs : List Reply} (h : s.atRest p rs)
    (hrun : (run s).1.atRest p rs) : (s.complete q d run).atRest p rs := by
  rcases s.complete_cases q d run with he | ⟨broken, -, hm, he⟩
  · rw [he]
    exact h
  · have hpq : p ≠ q := by
      rintro rfl
      rw [h.1] at hm
      cases hm
    rw [he]
    split
    · exact State.updPort_other_atRest _ hpq hrun
    · exact State.updPort_other_atRest _ hpq (State.updPort_other_atRest _ hpq hrun)

theorem keptByBlocks_atRest (p : Port) (rs : List Reply) : KeptByBlocks (State.atRest p rs) where
  quiet := fun q h => by unfold State.atRest; rw [q.port p]; exact h
  judged := fun j h => by unfold State.atRest; rw [j.port p]; exact h
  plain := fun {s t} n h => by
    have hport : t.port p = s.port p := by unfold State.port; rw [n.ports]
    unfold State.atRest
    rw [hport]
    exact h

/-- What the selections of other events do leaves a port at rest (R87, R173). -/
theorem keptInEvents_atRest (p : Port) (rs : List Reply) : KeptInEvents (State.atRest p rs) where
  toKeptByBlocks := keptByBlocks_atRest p rs
  event := fun s ev h => by
    have htaken : s.takeUp.atRest p rs := State.takeUp_atRest h
    unfold State.takeAtPoint State.takeSupplyEvent
    cases ev with
    | declare q flows validity => exact State.complete_keeps_atRest htaken ((keptByBlocks_atRest p rs).runDeclare htaken)
    | fallback q flows => exact State.complete_keeps_atRest htaken ((keptByBlocks_atRest p rs).runSetFallback htaken)
    | lapse => exact (keptByBlocks_atRest p rs).lapse h

/-- A directive that is EXECUTING over a break completes without a reply (R170). -/
theorem exec_atRest {c : Instr} {p : Port} {d : Directive} {held : Bool} {s : State} (hc : c.directive = some (p, d)) (hnow : completesAtOnce c)
    (h : s.completingUnanswered p d held) : ∃ t : State, exec c s = .next t ∧ t.atRest p (s.port p).replies := by
  have hand : s.inHand p d (some held) (s.port p).replies := ⟨h.2, rfl⟩
  cases hd : d.isSupply with
  | false => exact ⟨_, exec_directive hc hd s, State.complete_atRest h (Directive.run_inHand d hd hand)⟩
  | true =>
    rcases exec_supplyDirective hc hd s with hx | ⟨_, _, hlater, -⟩
    · exact ⟨_, hx, (keptInEvents_atRest p _).reportCeilings (State.complete_atRest h (Directive.run_supply_inHand d hd hand))⟩
    · exact absurd hnow hlater

end Sys2Proof.Machine

open Sys2Proof Sys2Proof.Machine

/-- Settles O17: the break by `State.reinitialise_eq`, the completion under it by `exec_atRest`. -/
theorem breakReinitialisesThePort : Obligations.BreakReinitialisesThePort := by
  refine fun s p x hr => ⟨fun hl => ?_, fun hl => congrArg Host.Outcome.next (if_pos hl), rfl, fun c d held hc hnow h _ => exec_atRest hc hnow h⟩
  refine ⟨_, congrArg Host.Outcome.next ((if_neg (by simp [hl])).trans ((if_neg (by simp [hr])).trans (State.reinitialise_eq _ p x))), ?_⟩
  unfold State.clearSlot
  rw [State.updPort_updPort]
  have hmailbox : ∀ (held : Bool) (b : Mailbox), b.reinitialised held =
      (match b with
      | .executing d broken => .executing d (some (broken.getD held))
      | .pending _ => .empty
      | .empty => .empty) := fun held b => by cases b <;> rfl
  simp only [PortState.reinitialised, hmailbox]
  rfl

end

section
/-! The replies of the reading directives, item by item (R171; log entry 12). -/

namespace Sys2Proof.Machine

/-! ### Items -/

theorem natBytes_eq (w : Nat) : natBytes w = bytesOf w := funext (natBytes_eq_bytesOf w)

theorem intBytes_eq (w : Nat) : intBytes w = signedBytesOf w := funext (intBytes_eq_signedBytesOf w)

theorem yesNo_eq_markOf (b : Bool) : yesNo b = markOf b := by cases b <;> rfl

theorem optional_eq_itemOf {α : Type} (x : Option α) (f : α → List Byte) : optional x f = itemOf x f := by cases x <;> rfl

theorem listed_eq_listOf {α : Type} (l : List α) (f : α → List Byte) : listed l f = listOf l f := rfl

theorem zoneByte_eq (z : ZoneId) : zoneByte z = bytesOf 1 z.val := natBytes_eq_bytesOf 1 z.val

/-- A flag as a number in one byte. -/
theorem bytesOf_flag (b : Bool) : bytesOf 1 (if b then 1 else 0) = markOf b := by cases b <;> rfl

theorem bytesOf_one : bytesOf 1 1 = [0x01#8] := rfl

theorem bytesOf_two : bytesOf 1 2 = [0x02#8] := rfl

/-! ### Codes -/

theorem Valve.code_eq (x : Valve) : bytesOf 1 x.number = codeOf [.shut, .opening, .wet, .closing] 0 x := by cases x <;> rfl

theorem UseTag.code_eq (x : UseTag) : bytesOf 1 x.number = codeOf [.quota, .manual, .frost] 1 x := by cases x <;> rfl

theorem Lockout.code_eq (x : Lockout) : bytesOf 1 x.number = codeOf [.driveFault, .noFlow, .burst] 1 x := by cases x <;> rfl

theorem VisitStatus.code_eq (x : VisitStatus) : bytesOf 1 x.number = codeOf [.noVisit, .openVisit, .suspended] 0 x := by cases x <;> rfl

theorem Regime.code_eq (x : Regime) : bytesOf 1 x.number = codeOf [.idle, .quota, .manual, .frost] 0 x := by cases x <;> rfl

theorem RunState.code_eq (x : RunState) : bytesOf 1 x.number = codeOf [.running, .paused, .stopped] 0 x := by cases x <;> rfl

theorem EntryState.code_eq (x : EntryState) : bytesOf 1 x.number = codeOf [.waiting, .running, .done, .skipped] 0 x := by cases x <;> rfl

theorem FrostState.code_eq (x : FrostState) : bytesOf 1 x.number = codeOf [.disarmed, .armedAuto, .armedManual] 0 x := by cases x <;> rfl

theorem Declaration.code_eq (x : Declaration) : bytesOf 1 x.number = codeOf [.none, .declared, .lapsed] 0 x := by cases x <;> rfl

theorem Direction.code_eq (x : Direction) : bytesOf 1 x.number = codeOf [.low, .high, .stray] 1 x := by cases x <;> rfl

theorem portNumber_code_eq (x : Port) : bytesOf 1 x.number = codeOf [.a, .b, .c] 0 x := by cases x <;> rfl

/-! ### Completions -/

section
variable {s : State} {p : Port} {d : Directive}

theorem State.complete_reading {read : State → List Byte} {bs : List Byte} (h : s.completing p d) (hbs : read s = bs) :
    s.complete p d (fun t => (t, .result (read t))) = s.answer p d .done false bs := by
  rw [← hbs]
  exact State.complete_unchanged (a := .result (read s)) h rfl (by simp [Answer.result])

/-- A reading of one record answers for a record of the part, and is refused for a number above the last (R179). -/
theorem State.complete_record {n v : Nat} {read : State → Fin n → List Byte} {record : Fin n → List Byte} (h : s.completing p d)
    (hrecord : ∀ i, read s i = record i) :
    s.complete p d (fun t => withIndex n v t fun i => (t, .result (read t i))) =
      if hv : v < n then s.answer p d .done false (record ⟨v, hv⟩) else s.answer p d .range false [0x00#8] := by
  by_cases hv : v < n
  · rw [dif_pos hv, ← hrecord]
    exact State.complete_unchanged (a := .result (read s ⟨v, hv⟩)) h (withIndex_val (⟨v, hv⟩ : Fin n) s _) (by simp [Answer.result])
  · rw [dif_neg hv]
    refine State.complete_named h (n := 0) ?_ (by decide)
    simp [withIndex, indexOf, hv]

end

/-! ### Records -/

theorem Clock.nextBoundary_eq (c : Clock) :
    c.nextBoundary =
      if c.valid = false then none
      else if c.second < c.startMinute * 60 then some ((c.day + (c.periodLength - c.daysInto - 1)) % 65536, c.startMinute)
      else some ((c.day + (c.periodLength - c.daysInto)) % 65536, c.startMinute) := by
  unfold Clock.nextBoundary
  cases c.valid with
  | false => rfl
  | true => by_cases hsecond : c.second < c.startMinute * 60 <;> simp [hsecond, wrapAdd, Config.countTop]

theorem State.quotaSum_eq (s : State) :
    s.quotaSum = sumOver (zoneIds.filter fun z => decide (z ∈ s.ring) && (s.zone z).programme.any (·.enabled))
      fun z => ((s.zone z).programme.map (·.quota)).getD 0 := by
  have hset : s.inQuotaSet = fun z => decide (z ∈ s.ring) && (s.zone z).programme.any (·.enabled) := by
    funext z
    exact Bool.and_comm _ _
  unfold State.quotaSum
  rw [hset]
  rfl

theorem Zone.timeLeft_eq (x : Zone) : x.timeLeft = if x.fillTimer = none then x.closeTimer else x.fillTimer := by
  unfold Zone.timeLeft
  cases x.fillTimer <;> rfl

theorem Programme.bytes_eq (v : Programme) :
    v.bytes =
      bytesOf 1 v.header.val ++ bytesOf 1 v.group.val ++ markOf v.enabled ++ bytesOf 2 v.flow ++ bytesOf 2 v.fill ++ bytesOf 1 v.closing ++
        bytesOf 3 v.quota ++ bytesOf 1 v.cycles ++ bytesOf 2 v.soak ++ markOf v.frostMember ++ bytesOf 1 v.frostRank ++ bytesOf 2 v.dwell ++
        bytesOf 2 v.maxDry := by
  simp only [Programme.bytes, editWidths, joinWidths, natBytes_eq, bytesOf_flag, List.append_assoc, List.append_nil]

theorem pendingBytes_none : pendingBytes none = [0x00#8] := rfl

theorem pendingBytes_clear : pendingBytes (some .clear) = [0x01#8] := rfl

theorem pendingBytes_edit (v : Programme) : pendingBytes (some (.edit v)) = 0x02#8 :: v.bytes := rfl

theorem Zone.bytes_eq (x : Zone) :
    x.bytes =
      itemOf x.programme Programme.bytes ++ pendingBytes x.pendingEdit ++ codeOf [.shut, .opening, .wet, .closing] 0 x.valve ++
        itemOf x.useTag (codeOf [.quota, .manual, .frost] 1) ++ itemOf x.lockout (codeOf [.driveFault, .noFlow, .burst] 1) ++
        bytesOf 2 x.timeInState ++ itemOf (if x.fillTimer = none then x.closeTimer else x.fillTimer) (bytesOf 2) ++ bytesOf 6 x.quotaVolume ++
        bytesOf 6 x.manualVolume ++ bytesOf 6 x.frostVolume ++ bytesOf 6 x.lastPeriodVolume ++ bytesOf 3 x.effectiveQuota ++
        codeOf [.noVisit, .openVisit, .suspended] 0 x.visit ++ itemOf x.visitTarget (bytesOf 4) ++ bytesOf 6 x.visitVolume ++
        itemOf x.guardTimer (bytesOf 2) ++ bytesOf 1 x.cyclesRemaining ++ bytesOf 2 x.soakTimer ++ markOf x.admitted ++
        itemOf x.requiredFlow (bytesOf 2) ++ bytesOf 2 x.dryClock ++ markOf x.overdue ++ markOf x.frostVisit ++
        itemOf x.dwellRemaining (bytesOf 2) := by
  unfold Zone.bytes
  simp only [Zone.timeLeft_eq, natBytes_eq, optional_eq_itemOf, yesNo_eq_markOf, Valve.code_eq, UseTag.code_eq, Lockout.code_eq, VisitStatus.code_eq]

end Sys2Proof.Machine

open Sys2Proof Sys2Proof.Machine

/-- Settles O19: each reading by `State.complete_reading` or `State.complete_record`, its items by the lemmas on items and codes. -/
theorem readingsAnswerTheirItemsAlone : Obligations.ReadingsAnswerTheirItemsAlone := by
  refine ⟨fun s p => ⟨fun h => ?_, fun h port entry frame hport hentry hframe => ?_, fun h slot hslot => ?_, fun h k boundary hk hboundary => ?_,
    fun h entry row hentry hrow => ?_⟩, fun s p n => ⟨fun h fields record hfields hrecord => ?_, fun h => ?_, fun h x record hx hrecord => ?_⟩⟩
  · refine congrArg Host.Outcome.next (State.complete_reading (read := State.ringBytes) h ?_)
    have hzone : zoneByte = fun z => bytesOf 1 z.val := funext zoneByte_eq
    simp only [State.ringBytes, hzone, listed_eq_listOf, natBytes_eq, yesNo_eq_markOf]
  · refine congrArg Host.Outcome.next (State.complete_reading (read := State.engineBytes) h ?_)
    have hentries : Entry.bytes = entry := by
      rw [hentry]
      funext e
      simp only [Entry.bytes, zoneByte_eq, natBytes_eq, EntryState.code_eq]
    have hframes : Frame.bytes = frame := by
      rw [hframe]
      funext f
      cases f <;> simp [Frame.bytes, hentries, listed_eq_listOf, natBytes_eq, bytesOf_one, bytesOf_two]
    have hcause : StopCause.bytes = fun c => match c with
        | .shutdown q => 0x01#8 :: itemOf (some q) port
        | .stopLine => 0x02#8 :: itemOf none port := by
      funext c
      cases c with
      | shutdown q => simp [StopCause.bytes, hport, optional_eq_itemOf, natBytes_eq, bytesOf_one, portNumber_code_eq]
      | stopLine => rfl
    simp only [State.engineBytes, hentries, hframes, hcause, natBytes_eq, optional_eq_itemOf, listed_eq_listOf, yesNo_eq_markOf,
      Regime.code_eq, RunState.code_eq] <;> rfl
  · refine congrArg Host.Outcome.next (State.complete_reading (read := State.climateBytes) h ?_)
    have hslots : ∀ x, optional x Slot.bytes = slot x := fun x => by
      have hitems : Slot.bytes = fun y => signedBytesOf 2 y.temperature ++ bytesOf 2 y.age ++ markOf y.fresh := by
        funext y
        simp only [Slot.bytes, natBytes_eq, intBytes_eq, yesNo_eq_markOf]
      rw [hslot, optional_eq_itemOf, hitems]
    have hheaders : headerIds = [0, 1, 2, 3] := rfl
    simp only [State.climateBytes, hslots, hheaders, allPorts, State.admittedSet, natBytes_eq, intBytes_eq,
      optional_eq_itemOf, yesNo_eq_markOf, FrostState.code_eq, List.map_cons, List.map_nil, List.flatten_cons, List.flatten_nil, List.append_assoc,
      List.append_nil]
    rfl
  · refine congrArg Host.Outcome.next (State.complete_reading (read := State.clockBytes) h ?_)
    have hnext : s.clock.nextBoundary = boundary := by rw [Clock.nextBoundary_eq, hboundary, hk]
    simp only [State.clockBytes, hnext, State.quotaSum_eq, natBytes_eq, optional_eq_itemOf, yesNo_eq_markOf]
  · refine congrArg Host.Outcome.next (State.complete_reading (read := State.holdsBytes) h ?_)
    have hentries : Hold.bytes = entry := by
      rw [hentry]
      funext x
      cases x with
      | free => rfl
      | held q => simp [Hold.bytes, optional_eq_itemOf, natBytes_eq, bytesOf_one, portNumber_code_eq]
      | releasing q => simp [Hold.bytes, optional_eq_itemOf, natBytes_eq, bytesOf_two, portNumber_code_eq]
    have hgroups : groupIds = [0, 1, 2, 3, 4, 5, 6, 7] := rfl
    simp only [State.holdsBytes, hrow, hgroups, hentries, State.deferredCount, natBytes_eq, List.map_cons, List.map_nil, List.flatten_cons,
      List.flatten_nil, List.append_assoc, List.append_nil]
  · have hvalues : Programme.bytes = fields := by
      rw [hfields]
      exact funext Programme.bytes_eq
    refine congrArg Host.Outcome.next (State.complete_record (read := fun t z => (t.zone z).bytes)
      (record := fun z => record (s.zone z)) h fun z => ?_)
    rw [hrecord, Zone.bytes_eq, hvalues]
    rcases he : (s.zone z).pendingEdit with _ | v | _
    · simp only [he, pendingBytes_none]
    · simp only [he, pendingBytes_edit, hvalues]
    · simp only [he, pendingBytes_clear]
  · refine congrArg Host.Outcome.next (State.complete_record
      (read := fun t g => natBytes 2 (t.group g).start ++ natBytes 2 (t.group g).finish ++ yesNo (t.group g).windowOpen)
      (record := fun g => bytesOf 2 (s.group g).start ++ bytesOf 2 (s.group g).finish ++ markOf (s.group g).windowOpen) h fun g => ?_)
    simp only [natBytes_eq, yesNo_eq_markOf]
  · refine congrArg Host.Outcome.next (State.complete_record (record := fun i => record i (s.meter i)) h fun i => ?_)
    have hlength : (if (s.meter i).run.isSome then 1 else 0) = if (s.meter i).run = none then 0 else 1 := by cases (s.meter i).run <;> rfl
    rw [hrecord, hx]
    simp only [Meter.bytes, Supply.bytes, hlength, natBytes_eq, optional_eq_itemOf, yesNo_eq_markOf, Direction.code_eq, Declaration.code_eq,
      List.append_assoc]

end

section
/-! How channels move, as a rule of induction beside `KeptByBlocks`: what keeps the valve states, the two orders and the ceilings as they stand, what closes, opens and
sheds, and what a selection then keeps (R37 to R40, R85, R124). -/

namespace Sys2Proof.Machine

/-! ### Nothing moves -/

/-- The parts of a zone record that say how its channel stands and whether it may open (R37, R38). -/
structure Zone.StandsAs (x y : Zone) : Prop where
  programme : y.programme = x.programme
  valve : y.valve = x.valve
  lockout : y.lockout = x.lockout
  opened : y.opened = x.opened

theorem Zone.StandsAs.refl (x : Zone) : x.StandsAs x := ⟨rfl, rfl, rfl, rfl⟩

theorem Zone.StandsAs.isOpen {x y : Zone} (h : x.StandsAs y) : y.isOpen = x.isOpen := by
  unfold Zone.isOpen
  rw [h.valve]

theorem Zone.StandsAs.onHeader {x y : Zone} (h : x.StandsAs y) : y.onHeader = x.onHeader := by
  funext i
  unfold Zone.onHeader
  rw [h.opened]

theorem Zone.StandsAs.openedFlow {x y : Zone} (h : x.StandsAs y) : y.openedFlow = x.openedFlow := by
  unfold Zone.openedFlow
  rw [h.opened]

/-- From `s` to `t` every channel stands as it stood, in the same orders, under the same run state; the ceilings may have changed. -/
structure Standing (s t : State) : Prop where
  zone : ∀ z, (s.zone z).StandsAs (t.zone z)
  energising : t.energising = s.energising
  wetOrder : t.wetOrder = s.wetOrder
  runState : t.engine.runState = s.engine.runState

/-- The same, with the ceilings in force as they were. -/
structure Steady (s t : State) : Prop extends Standing s t where
  inForce : t.supply.inForce = s.supply.inForce

/-- A change of neither zone records nor orders nor run state. -/
theorem Standing.of_tables {s t : State} (hz : t.zones = s.zones) (he : t.energising = s.energising) (hw : t.wetOrder = s.wetOrder)
    (hr : t.engine.runState = s.engine.runState) : Standing s t where
  zone := fun z => by
    have hsame : t.zone z = s.zone z := by unfold State.zone; rw [hz]
    rw [hsame]
    exact .refl _
  energising := he
  wetOrder := hw
  runState := hr

theorem State.updZone_steady (s : State) (z : ZoneId) (f : Zone → Zone) (hf : (s.zone z).StandsAs (f (s.zone z))) : Steady s (s.updZone z f) where
  zone := fun z' => by
    rw [State.zone_updZone]
    split
    · subst_vars; exact hf
    · exact .refl _
  energising := rfl
  wetOrder := rfl
  runState := rfl
  inForce := rfl

theorem State.mapZones_steady (s : State) (f : ZoneId → Zone → Zone) (hf : ∀ z (x : Zone), x.StandsAs (f z x)) : Steady s (s.mapZones f) where
  zone := fun z => by
    rw [State.zone_mapZones]
    exact hf z _
  energising := rfl
  wetOrder := rfl
  runState := rfl
  inForce := rfl

theorem State.post_steady (s : State) (n : NoticeKind) (z : Option ZoneId) (i : Option HeaderId) (p : Option Port) (v : Option Int) :
    Steady s (s.post n z i p v) where
  toStanding := .of_tables (by simp) (by simp) (by simp) (by simp)
  inForce := by simp

/-- A run of triage moves no channel (R158). -/
theorem Judged.steady {s t : State} (j : Judged s t) : Steady s t where
  zone := fun z => by
    rw [j.zone z]
    exact ⟨rfl, rfl, rfl, rfl⟩
  energising := by rw [j.rest]
  wetOrder := by rw [j.rest]
  runState := by rw [j.rest]
  inForce := by rw [j.rest]

/-! ### The rule -/

/-- A predicate that steady steps keep, and closing, and the shed walk after a change of the ceilings. -/
structure KeptByClosing (P : State → Prop) : Prop where
  steady : ∀ {s t}, Steady s t → P s → P t
  close : ∀ (s : State) (z : ZoneId) (e : Ending), P s → P (s.closeChannel z e)
  ceilings : ∀ (s t : State) (port : Option Port), Standing s t → P s → P (t.shedWalk port)

/-- A predicate that the turn of a selection keeps: visits set up, pointer, run list and regime moved under one run state, supply events taken at its points, and
open commands (R87, R124). -/
structure KeptInTurn (P : State → Prop) : Prop where
  still : ∀ {s t}, Steady s t → Quiet s t → P s → P t
  engine : ∀ (s : State) (e : Engine) (pl : Planner), e.runState = s.engine.runState → e.stopCause = s.engine.stopCause → P s →
    P { s with engine := e, planner := pl }
  point : ∀ {s : State}, P s → P s.passPoint
  openZone : ∀ (s : State) (z : ZoneId) (tag : UseTag), P s → P (s.openChannel z tag)

/-- What closing and steady steps keep, with an open command while RUNNING, which every open command of a selection is (R124). -/
structure KeptByMoves (P : State → Prop) : Prop extends KeptByClosing P where
  openZone : ∀ (s : State) (z : ZoneId) (tag : UseTag), s.engine.runState = .running → P s → P (s.openChannel z tag)

namespace KeptByClosing
variable {P : State → Prop}

/-- A change of neither zone records nor orders nor ceilings nor run state. -/
theorem tables (k : KeptByClosing P) {s t : State} (h : P s) (hz : t.zones = s.zones) (he : t.energising = s.energising)
    (hw : t.wetOrder = s.wetOrder) (hr : t.engine.runState = s.engine.runState) (hi : t.supply.inForce = s.supply.inForce) : P t :=
  k.steady (s := s) { toStanding := .of_tables hz he hw hr, inForce := hi } h

theorem updZone (k : KeptByClosing P) {s : State} {z : ZoneId} {f : Zone → Zone} (h : P s) (hf : ∀ x : Zone, x.StandsAs (f x)) : P (s.updZone z f) :=
  k.steady (s.updZone_steady z f (hf _)) h

theorem mapZones (k : KeptByClosing P) {s : State} {f : ZoneId → Zone → Zone} (h : P s) (hf : ∀ z (x : Zone), x.StandsAs (f z x)) : P (s.mapZones f) :=
  k.steady (s.mapZones_steady f hf) h

theorem post (k : KeptByClosing P) {s : State} {n : NoticeKind} {z : Option ZoneId} {i : Option HeaderId} {p : Option Port} {v : Option Int}
    (h : P s) : P (s.post n z i p v) := k.steady (s.post_steady n z i p v) h

theorem judged (k : KeptByClosing P) {s t : State} (j : Judged s t) (h : P s) : P t := k.steady j.steady h

theorem retriage (k : KeptByClosing P) {s : State} (h : P s) : P s.retriage := k.judged s.retriage_judged h

theorem updPort (k : KeptByClosing P) {s : State} {p : Port} {f : PortState → PortState} (h : P s) : P (s.updPort p f) :=
  k.tables h rfl rfl rfl rfl rfl

theorem updMeter (k : KeptByClosing P) {s : State} {i : HeaderId} {f : Meter → Meter} (h : P s) : P (s.updMeter i f) :=
  k.tables h rfl rfl rfl rfl rfl

theorem complete (k : KeptByClosing P) {s : State} {p : Port} {d : Directive} {run : State → State × Answer} (h : P s) (hrun : P (run s).1) :
    P (s.complete p d run) := State.complete_keeps (fun _ _ _ => k.updPort) h hrun

/-! ### Supply events -/

/-- A change of the ceilings in force, with the shed walk that it brings (R84, R85). -/
theorem ceilingChange (k : KeptByClosing P) {s t : State} {port : Option Port} (q : Standing s t) (h : P s) :
    P (t.ceilingChange s.supply.inForce port) := by
  unfold State.ceilingChange
  split
  · rename_i hi
    exact k.steady { toStanding := q, inForce := hi } h
  · exact k.tables (k.ceilings s t port q h) rfl rfl rfl rfl rfl

theorem declare (k : KeptByClosing P) {s : State} {p : Port} {flows : Flows} {validity : Nat} (h : P s) : P (s.declare p flows validity) :=
  k.ceilingChange (s := s) (.of_tables (by simp) (by simp) (by simp) (by simp)) h

theorem replaceFallback (k : KeptByClosing P) {s : State} {p : Port} {flows : Flows} (h : P s) : P (s.replaceFallback p flows) := by
  unfold State.replaceFallback
  split
  · exact k.tables h rfl rfl rfl rfl rfl
  · exact k.ceilingChange (s := s) (.of_tables rfl rfl rfl rfl) h

theorem lapse (k : KeptByClosing P) {s : State} (h : P s) : P s.lapse := by
  unfold State.lapse
  split
  · exact k.ceilingChange (s := s) (.of_tables (by simp) (by simp) (by simp) (by simp)) h
  · exact h

theorem runDeclare (k : KeptByClosing P) {s : State} {p : Port} {flows : FlowFields} {validity : Nat} (h : P s) :
    P (s.runDeclare p flows validity).1 := Checked.orRange_keeps _ h fun _ _ => k.declare h

theorem runSetFallback (k : KeptByClosing P) {s : State} {p : Port} {flows : FlowFields} (h : P s) : P (s.runSetFallback p flows).1 :=
  Checked.orRange_keeps _ h fun _ _ => k.replaceFallback h

theorem takeUp (k : KeptByClosing P) {s : State} (h : P s) : P s.takeUp := by
  rcases s.takeUp_cases with he | ⟨p, d, -, -, he⟩
  · rw [he]; exact h
  · rw [he]; exact k.tables h rfl rfl rfl rfl rfl

theorem takeSupplyEvent (k : KeptByClosing P) {s : State} (ev : SupplyEvent) (h : P s) : P (s.takeSupplyEvent ev) := by
  unfold State.takeSupplyEvent
  cases ev with
  | declare p flows validity => exact k.complete h (k.runDeclare h)
  | fallback p flows => exact k.complete h (k.runSetFallback h)
  | lapse => exact k.lapse h

theorem takeAtPoint (k : KeptByClosing P) {s : State} (ev : SupplyEvent) (h : P s) : P (s.takeAtPoint ev) := by
  unfold State.takeAtPoint
  cases ev with
  | declare p flows validity => exact k.takeSupplyEvent _ (k.takeUp h)
  | fallback p flows => exact k.takeSupplyEvent _ (k.takeUp h)
  | lapse => exact k.takeSupplyEvent _ h

theorem passPoint (k : KeptByClosing P) {s : State} (h : P s) : P s.passPoint := by
  unfold State.passPoint
  exact List.foldlRecOn _ _ (k.tables h rfl rfl rfl rfl rfl) fun t ht e _ => k.takeAtPoint e.event ht

theorem sendInto (k : KeptByClosing P) {s : State} {ev : SupplyEvent} {n : Nat} {due : Bool} (h : P s) : P (s.sendInto ev n due) := by
  rcases s.sendInto_cases ev n due with he | he
  · rw [he]; exact h
  · rw [he]; exact k.tables h rfl rfl rfl rfl rfl

/-! ### The regime -/

theorem restore (k : KeptByClosing P) {s : State} {port : Option Port} (h : P s) : P (s.restore port) := by
  refine k.post ?_
  split <;> exact k.tables h rfl rfl rfl rfl rfl

theorem pop (k : KeptByClosing P) {s : State} {port : Option Port} (h : P s) : P (s.pop port) := by
  unfold State.pop
  dsimp only
  split
  · exact k.restore (k.restore h)
  · exact k.restore h

end KeptByClosing

/-! ### Selections -/

namespace KeptInTurn
variable {P : State → Prop}

theorem visit (k : KeptInTurn P) {s : State} {z : ZoneId} {f : Zone → Zone} (h : P s) (hf : ∀ x : Zone, x.StandsAs (f x))
    (hs : ∀ x : Zone, x.SettledAs (f x)) : P (s.updZone z f) := k.still (s.updZone_steady z f (hf _)) (s.updZone_quiet z f (hs _)) h

theorem post (k : KeptInTurn P) {s : State} {n : NoticeKind} {z : Option ZoneId} {i : Option HeaderId} {p : Option Port} {v : Option Int}
    (h : P s) : P (s.post n z i p v) := k.still (s.post_steady n z i p v) (s.post_quiet n z i p v) h

theorem ifFits (k : KeptInTurn P) {x : Programme} {f g : State → State} (hf : ∀ t, P t → P (f t)) (hg : ∀ t, P t → P (g t)) {s : State}
    (h : P s) : P (s.ifFits x f g).state := by
  unfold State.ifFits
  dsimp only
  split
  · exact hf _ (k.point (k.point h))
  · exact hg _ (k.point h)

theorem startVisit (k : KeptInTurn P) {s : State} {z : ZoneId} {x : Programme} {target volume : Zone → Nat} (h : P s) :
    P (s.updZone z fun y => y.startVisit x (target y) (volume y)) :=
  k.visit h (fun _ => ⟨rfl, rfl, rfl, rfl⟩) fun _ => ⟨rfl, rfl, rfl, rfl, rfl, rfl, rfl, rfl, rfl, rfl, rfl⟩

theorem continueVisit (k : KeptInTurn P) {s : State} {z : ZoneId} {x : Programme} (h : P s) : P (s.continueVisit z x) :=
  k.openZone _ z _ (k.engine _ _ _ rfl rfl (k.startVisit h))

theorem newVisit (k : KeptInTurn P) {s : State} {z : ZoneId} {x : Programme} (h : P s) : P (s.newVisit z x) := k.openZone _ z _ (k.startVisit h)

theorem frostVisit (k : KeptInTurn P) {s : State} {z : ZoneId} {x : Programme} (h : P s) : P (s.frostVisit z x) :=
  k.openZone _ z _ (k.visit h (fun _ => ⟨rfl, rfl, rfl, rfl⟩) fun _ => ⟨rfl, rfl, rfl, rfl, rfl, rfl, rfl, rfl, rfl, rfl, rfl⟩)

theorem movePointer (k : KeptInTurn P) {s : State} (n : Nat) (passed : Bool) (h : P s) : P (s.movePointer n passed) :=
  k.engine s s.engine _ rfl rfl h

theorem setEntry (k : KeptInTurn P) {s : State} {i : Nat} {e : EntryState} (h : P s) : P (s.setEntry i e) := k.engine s _ s.planner rfl rfl h

theorem skipEntry (k : KeptInTurn P) {s : State} {i : Nat} {z : ZoneId} {v : Int} (h : P s) : P (s.skipEntry i z v) := k.post (k.setEntry h)

theorem restore (k : KeptInTurn P) {s : State} {port : Option Port} (h : P s) : P (s.restore port) := by
  refine k.post ?_
  split
  · exact k.engine s _ s.planner rfl rfl h
  · exact k.engine s _ _ rfl rfl h
  · exact k.engine s _ s.planner rfl rfl h

theorem pop (k : KeptInTurn P) {s : State} {port : Option Port} (h : P s) : P (s.pop port) := by
  unfold State.pop
  dsimp only
  split
  · exact k.restore (k.restore h)
  · exact k.restore h

theorem suspendedStep (k : KeptInTurn P) (z : ZoneId) (s : State) (h : P s) : P (s.suspendedStep z).state := by
  unfold State.suspendedStep
  split
  · split
    · exact k.ifFits (fun _ => k.continueVisit) (fun _ => id) h
    · exact h
  · exact h

theorem ringStep (k : KeptInTurn P) (i : Nat) (s : State) (h : P s) : P (s.ringStep i).state := by
  unfold State.ringStep
  split
  · exact h
  · split
    · exact h
    · split
      · exact k.ifFits (fun _ ht => k.newVisit (k.movePointer _ _ ht)) (fun _ => k.movePointer _ _) h
      · exact h

theorem quotaSelect (k : KeptInTurn P) {s : State} (h : P s) : P s.quotaSelect := by
  have first := Progress.through_keeps State.suspendedStep k.suspendedStep s.planner.suspended s h
  unfold State.quotaSelect
  dsimp only
  split
  · exact first
  · exact Progress.through_keeps State.ringStep k.ringStep _ _ first

theorem frostSelect (k : KeptInTurn P) {s : State} (h : P s) : P s.frostSelect :=
  Progress.through_keeps State.frostStep (fun _ _ ht => k.ifFits (fun _ => k.frostVisit) (fun _ => id) ht) _ s h

theorem walkStep (k : KeptInTurn P) (i : Nat) (s : State) (h : P s) : P (s.walkStep i).state := by
  unfold State.walkStep
  split
  · exact h
  · split
    · split
      · exact k.skipEntry h
      · split
        · exact k.skipEntry h
        · split
          · exact h
          · exact k.ifFits (fun _ ht => k.openZone _ _ _ (k.setEntry ht)) (fun _ => id) h
    · exact h

theorem walk (k : KeptInTurn P) {s : State} (h : P s) : P s.walk := Progress.through_keeps State.walkStep k.walkStep _ s h

/-- A turn of a selection acts only while RUNNING (R124). -/
theorem selectTurns (k : KeptInTurn fun s => P s ∧ s.engine.runState = .running) (n : Nat) {s : State} (h : P s) : P (s.selectTurns n) := by
  induction n generalizing s with
  | zero => exact h
  | succ n ih =>
    unfold State.selectTurns
    split
    · rename_i hrun
      split
      · exact h
      · exact (k.quotaSelect ⟨h, hrun⟩).1
      · exact (k.frostSelect ⟨h, hrun⟩).1
      · have hwalk := k.walk ⟨h, hrun⟩
        dsimp only
        split
        · exact ih (k.pop hwalk).1
        · exact hwalk.1
    · exact h

theorem selectOnce (k : KeptInTurn fun s => P s ∧ s.engine.runState = .running) {s : State} (h : P s) : P s.selectOnce := k.selectTurns _ h

/-- A selection with the reports that follow it, where such a report keeps the predicate up to its own selection (R84, R124). -/
theorem select (k : KeptInTurn fun s => P s ∧ s.engine.runState = .running)
    (hreport : ∀ {s}, P s → P (State.retriage { s with ceilingReportOwed := false })) {s : State} (h : P s) : P s.select := by
  have hturns : ∀ n s, P s → P (s.reportTurns n) := fun n => by
    induction n with
    | zero => exact fun _ h => h
    | succ n ih =>
      intro s h
      unfold State.reportTurns
      split
      · exact ih _ (k.selectOnce (hreport h))
      · exact h
  exact hturns _ _ (k.selectOnce h)

end KeptInTurn

namespace KeptByMoves
variable {P : State → Prop}

/-- What moves keep, they keep while RUNNING, and they keep the part RUNNING. -/
theorem whileRunning (k : KeptByMoves P) : KeptInTurn fun s => P s ∧ s.engine.runState = .running :=
  have closing : KeptByClosing fun s => P s ∧ s.engine.runState = .running :=
    { steady := fun q h => ⟨k.steady q h.1, q.runState.trans h.2⟩
      close := fun s z e h => ⟨k.close s z e h.1, by rw [(s.closeChannel_quiet z e).engine]; exact h.2⟩
      ceilings := fun s t port q h => ⟨k.ceilings s t port q h.1, by rw [(t.shedWalk_quiet port).engine]; exact q.runState.trans h.2⟩ }
  { still := fun q _ h => closing.steady q h
    engine := fun _ _ _ hr _ h => closing.tables h rfl rfl rfl hr rfl
    point := closing.passPoint
    openZone := fun s z tag h => ⟨k.openZone s z tag h.2 h.1, by rw [(s.openChannel_quiet z tag).engine]; exact h.2⟩ }

/-- What moves keep, a selection keeps, with the reports that follow it (R84, R124). -/
theorem select (k : KeptByMoves P) {s : State} (h : P s) : P s.select :=
  k.whileRunning.select (fun h => k.retriage (k.tables h rfl rfl rfl rfl rfl)) h

theorem selectIf (k : KeptByMoves P) {s : State} {due : Bool} (h : P s) : P (s.selectIf due) := by
  cases due
  · exact h
  · exact k.select h

theorem reportCeilings (k : KeptByMoves P) {s : State} (h : P s) : P s.reportCeilings := by
  unfold State.reportCeilings
  split
  · exact k.select (k.retriage (k.tables h rfl rfl rfl rfl rfl))
  · exact h

end KeptByMoves

end Sys2Proof.Machine
end

section
/-! The rule of `KeptByMoves` carried through the blocks' operations, in the order of the model's files: each operation that moves no channel, or closes some, once. -/

namespace Sys2Proof.Machine

/-- A check of groups goes on or changes nothing (R13, R27). -/
theorem State.requireGroups_keeps {P : State → Prop} {s : State} {p : Port} {gs : List GroupId} {run : State × Answer} (h : P s) (hrun : P run.1) :
    P (s.requireGroups p gs run).1 := by
  rcases s.requireGroups_cases p gs run with ⟨hgo, -⟩ | ⟨_, -, -, hrefused⟩
  · rw [hgo]; exact hrun
  · rw [hrefused]; exact h

namespace KeptByClosing
variable {P : State → Prop}

/-! ### Channels -/

theorem closeTagged (k : KeptByClosing P) {s : State} {tag : UseTag} {e : Ending} (h : P s) : P (s.closeTagged tag e) :=
  State.forZones_keeps _ (fun z t ht => by
    split
    · exact k.close t z e ht
    · exact ht) _ s h

theorem closeVisits (k : KeptByClosing P) {s : State} {sel : Zone → Bool} {e : Ending} (h : P s) : P (s.closeVisits sel e) :=
  State.forZones_keeps _ (fun z t ht => by
    split
    · exact k.close t z e ht
    · exact ht) _ s h

theorem endVisit (k : KeptByClosing P) {s : State} {z : ZoneId} {o : VisitOutcome} (h : P s) : P (s.endVisit z o) := by
  have hdropped : P (s.updZone z Zone.noVisit) := k.updZone h fun _ => ⟨rfl, rfl, rfl, rfl⟩
  have hspent : P (s.updZone z fun x => { x.noVisit with cyclesRemaining := x.cyclesRemaining - 1 }) := k.updZone h fun _ => ⟨rfl, rfl, rfl, rfl⟩
  cases o with
  | complete => exact hspent
  | dropped => exact hdropped
  | suspended =>
    have hkept : P (s.updZone z fun x => { x with visit := .suspended, guardTimer := none }) := k.updZone h fun _ => ⟨rfl, rfl, rfl, rfl⟩
    unfold State.endVisit
    dsimp only
    split
    · exact k.tables hkept rfl rfl rfl rfl rfl
    · exact hdropped

theorem endOpenVisit (k : KeptByClosing P) {s : State} {z : ZoneId} {o : VisitOutcome} (h : P s) : P (s.endOpenVisit z o) := by
  unfold State.endOpenVisit
  split
  · exact k.endVisit h
  · exact h

theorem endFrostVisit (k : KeptByClosing P) {s : State} {z : ZoneId} (h : P s) : P (s.endFrostVisit z) := k.updZone h fun _ => ⟨rfl, rfl, rfl, rfl⟩

theorem markSettling (k : KeptByClosing P) {s : State} {i : Option HeaderId} (h : P s) : P (s.markSettling i) := by
  unfold State.markSettling
  cases i
  · exact h
  · exact k.updMeter h

theorem startDryClock (k : KeptByClosing P) {s : State} {z : ZoneId} {wetEnded : Bool} (h : P s) : P (s.startDryClock z wetEnded) := by
  unfold State.startDryClock
  split
  · exact k.updZone h fun _ => ⟨rfl, rfl, rfl, rfl⟩
  · exact h

theorem lowerCommitted (k : KeptByClosing P) {s : State} {o : Option Opened} (h : P s) : P (s.lowerCommitted o) := by
  cases o
  · exact h
  · exact k.tables h rfl rfl rfl rfl rfl

/-! ### Quotas and visits -/

theorem recomputeQuotas (k : KeptByClosing P) {s : State} (h : P s) : P s.recomputeQuotas := k.mapZones h fun _ _ => ⟨rfl, rfl, rfl, rfl⟩

theorem pruneSuspended (k : KeptByClosing P) {s : State} {sel : ZoneId → Bool} (h : P s) : P (s.pruneSuspended sel) := by
  have hzones : P (s.mapZones fun z x => if decide (z ∈ s.planner.suspended) && sel z then x.noVisit else x) :=
    k.mapZones h fun z x => by split <;> exact ⟨rfl, rfl, rfl, rfl⟩
  exact k.tables hzones rfl rfl rfl rfl rfl

theorem testAllotment (k : KeptByClosing P) {s : State} {port : Option Port} (h : P s) : P (s.testAllotment port) := by
  unfold State.testAllotment
  split
  · split
    · exact h
    · exact k.closeVisits (k.post (k.tables h rfl rfl rfl rfl rfl))
  · exact k.tables h rfl rfl rfl rfl rfl

theorem reportProgress (k : KeptByClosing P) {s : State} {r : Option (List ZoneId)} (h : P s) : P (s.reportProgress r) := by
  cases r with
  | none => exact h
  | some zs =>
    refine k.testAllotment (State.forZones_keeps _ (fun z t ht => ?_) zs s h)
    split
    · exact k.close t z _ ht
    · exact ht

/-! ### SHUT reports -/

theorem finishEntry (k : KeptByClosing P) {s : State} {z : ZoneId} {e : Ending} (h : P s) : P (s.finishEntry z e) := by
  unfold State.finishEntry
  split
  · dsimp only
    split
    · exact k.post (k.tables h rfl rfl rfl rfl rfl)
    · exact k.tables h rfl rfl rfl rfl rfl
  · exact h

theorem takeShut (k : KeptByClosing P) {s : State} {z : ZoneId} {r : ShutReport} (h : P s) : P (s.takeShut z r) := by
  unfold State.takeShut
  split
  · exact k.updZone (k.endOpenVisit h) fun _ => ⟨rfl, rfl, rfl, rfl⟩
  · exact k.finishEntry h
  · split
    · exact k.endFrostVisit h
    · exact h
  · exact h

theorem triageAtShut (k : KeptByClosing P) {s : State} {before : Zone} (h : P s) : P (s.triageAtShut before) := by
  unfold State.triageAtShut
  split
  · exact k.retriage h
  · exact h

/-! ### Windows and periods -/

theorem evaluateWindows (k : KeptByClosing P) {s : State} {gs : List GroupId} (h : P s) : P (s.evaluateWindows gs).1 := by
  have hstore : P (gs.foldl State.storeWindow s) :=
    List.foldlRecOn gs _ h fun t ht g _ => k.tables (t := t.storeWindow g) ht rfl rfl rfl rfl rfl
  unfold State.evaluateWindows
  dsimp only
  split
  · exact hstore
  · exact k.closeVisits hstore

theorem takeRoll (k : KeptByClosing P) {s : State} (h : P s) : P s.takeRoll := by
  have hrenew : ∀ t, P t → P
      { t.mapZones (fun _ x => { x with cyclesRemaining := (x.programme.map (·.cycles)).getD 0 }) with
        planner := { t.planner with allotmentReached := false } } := fun t ht => by
    have hcycles : P (t.mapZones fun _ x => { x with cyclesRemaining := (x.programme.map (·.cycles)).getD 0 }) :=
      k.mapZones ht fun _ _ => ⟨rfl, rfl, rfl, rfl⟩
    exact k.tables hcycles rfl rfl rfl rfl rfl
  exact hrenew _ (k.pruneSuspended (k.closeVisits h))

theorem rollPeriod (k : KeptByClosing P) {s : State} {cause : Int} {port : Option Port} (h : P s) : P (s.rollPeriod cause port) :=
  k.takeRoll (k.post (k.recomputeQuotas (k.mapZones h fun _ _ => ⟨rfl, rfl, rfl, rfl⟩)))

theorem takePass (k : KeptByClosing P) {s : State} (h : P s) : P s.takePass.1 := by
  unfold State.takePass
  split
  · split
    · exact k.tables h rfl rfl rfl rfl rfl
    · exact k.rollPeriod (k.tables h rfl rfl rfl rfl rfl)
  · exact k.tables h rfl rfl rfl rfl rfl

theorem countSecond (k : KeptByClosing P) {s : State} (h : P s) : P s.countSecond := by
  have hzones : P (s.mapZones fun _ x => x.countSecond s.armed) := k.mapZones h fun _ _ => ⟨rfl, rfl, rfl, rfl⟩
  exact k.tables hzones rfl rfl rfl rfl rfl

/-! ### Meters -/

theorem apportion (k : KeptByClosing P) {s : State} {i : HeaderId} (h : P s) : P (s.apportion i) := by
  have hcredit : ∀ (x : Zone) (a : Nat), x.StandsAs (x.credit a) := fun x a => by
    unfold Zone.credit
    split <;> exact ⟨rfl, rfl, rfl, rfl⟩
  unfold State.apportion
  exact k.updMeter (List.foldlRecOn _ _ h fun t ht (e : ZoneId × Nat) _ => k.updZone ht fun x => hcredit x e.2)

theorem beginInterval (k : KeptByClosing P) {s : State} {i : HeaderId} (h : P s) : P (s.beginInterval i) := k.updMeter h

theorem rawPulse (k : KeptByClosing P) {s : State} {i : HeaderId} (h : P s) : P (s.rawPulse i) := by
  unfold State.rawPulse State.dividedPulse
  split
  · exact k.updMeter h
  · split
    · exact k.updMeter (k.updMeter h)
    · split
      · exact k.updMeter h
      · exact k.post (k.updMeter (k.updMeter h))

theorem postFlow (k : KeptByClosing P) {s : State} {i : HeaderId} {called : Option Direction} {only : Option ZoneId} {flow : Nat} (h : P s) :
    P (s.postFlow i called only flow) := by
  cases called
  · exact h
  · exact k.post h

theorem replaceMeter (k : KeptByClosing P) {s : State} {i : HeaderId} {v : MeterSettings} (h : P s) : P (s.replaceMeter i v) :=
  k.beginInterval (k.updMeter (k.reportProgress (k.apportion h)))

/-! ### Regimes -/

theorem enterRegime (k : KeptByClosing P) {s : State} {r : Regime} {manual : Option (List Entry)} {stack : List Frame} {port : Option Port}
    (h : P s) : P (s.enterRegime r manual stack port) := k.post (k.tables h rfl rfl rfl rfl rfl)

theorem reportFramed (k : KeptByClosing P) {s : State} {es : List Entry} (h : P s) : P (s.reportFramed es) := by
  refine List.foldlRecOn es _ h fun t ht e _ => ?_
  split
  · exact k.post ht
  · exact ht

theorem pushFrost (k : KeptByClosing P) {s : State} (h : P s) : P s.pushFrost := by
  unfold State.pushFrost
  split
  · exact k.enterRegime h
  · exact k.enterRegime (k.closeTagged h)
  · exact k.enterRegime (k.closeTagged (k.reportFramed h))
  · exact h

theorem clearAdmitted (k : KeptByClosing P) {s : State} (h : P s) : P s.clearAdmitted := by
  have hcleared : P (s.mapZones fun _ x => { x with admitted := false, requiredFlow := none, overdue := false }) :=
    k.mapZones h fun _ _ => ⟨rfl, rfl, rfl, rfl⟩
  exact k.tables hcleared rfl rfl rfl rfl rfl

theorem judgeStale (k : KeptByClosing P) {s : State} {wasFresh : Bool} (h : P s) : P (s.judgeStale wasFresh) := by
  unfold State.judgeStale
  split
  · exact k.post h
  · exact h

/-! ### Holds -/

theorem setHold (k : KeptByClosing P) {s : State} {e : EntryId} {x : Hold} (h : P s) : P (s.setHold e x) := k.tables h rfl rfl rfl rfl rfl

theorem landEdits (k : KeptByClosing P) {s : State} {before : Zone} (h : P s) : P (s.landEdits before) := by
  obtain ⟨hrest, -, -⟩ := s.landEdits_eq before
  rw [hrest]
  exact k.tables h rfl rfl rfl rfl rfl

theorem handOff (k : KeptByClosing P) {s : State} {z : ZoneId} {before : Zone} (h : P s) : P (s.handOff z before) := by
  refine k.judged (s.handOff_judged z before) ?_
  unfold State.handOffQuotas
  split
  · exact k.recomputeQuotas h
  · exact h

theorem runTakeHold (k : KeptByClosing P) {s : State} {p : Port} {e : EntryId} (h : P s) : P (s.runTakeHold p e).1 := by
  unfold State.runTakeHold
  split
  · exact k.setHold h
  · split <;> exact h
  · split
    · exact k.setHold h
    · exact h

theorem runReleaseHold (k : KeptByClosing P) {s : State} {p : Port} {e : EntryId} (h : P s) : P (s.runReleaseHold p e).1 := by
  unfold State.runReleaseHold
  split
  · split <;> exact k.setHold h
  · exact h

theorem runBreakHold (k : KeptByClosing P) {s : State} {e : EntryId} (h : P s) : P (s.runBreakHold e).1 := by
  unfold State.runBreakHold State.breakEntry
  split
  · exact k.post (k.setHold h)
  · exact k.post (k.setHold h)
  · exact h

theorem portsOnly (k : KeptByClosing P) {s t : State} (q : PortsOnly s t) (h : P s) : P t := by
  rw [q]
  exact k.tables h rfl rfl rfl rfl rfl

end KeptByClosing

/-! ### The rule for every event -/

/-- A predicate on how channels stand that every event keeps: selections and closings keep it, and the events that move a channel or change what holds it: an edit's
application, entry to WET, arrival at SHUT, a drive fault, a lockout and its removal, a stop and its end, and a part in which every channel is SHUT. -/
structure ChannelLaw (P : State → Prop) : Prop extends KeptByMoves P where
  edit : ∀ (s : State) (z : ZoneId) (e : PendingEdit), P s → P (s.applyEdit z e)
  wet : ∀ (s : State) (z : ZoneId), (s.zone z).valve = .opening → P s → P (s.enterWet z)
  arrive : ∀ (s : State) (z : ZoneId), (s.zone z).isOpen = false → P s → P (s.updZone z Zone.shut)
  fault : ∀ (s : State) (z : ZoneId), (s.zone z).isOpen = true → P s → P ((s.updZone z Zone.shut).leaveOrders z)
  lock : ∀ (s : State) (z : ZoneId) (l : Lockout), (s.zone z).isOpen = false → P s → P (s.setLockout z l)
  lockOpen : ∀ (s : State) (z : ZoneId) (l : Lockout), (s.zone z).isOpen = true → P s → P ((s.setLockout z l).closeChannel z .lockout)
  unlock : ∀ (s : State) (z : ZoneId), P s → P (s.updZone z fun x => { x with lockout := none })
  stop : ∀ (s : State) (c : Option StopCause), P s →
    P (State.closeAll { s with engine := { s.engine with runState := .stopped, stopCause := c } } .stop)
  resume : ∀ (s : State) (r : RunState) (c : Option StopCause), r ≠ .stopped → P s →
    P { s with engine := { s.engine with runState := r, stopCause := c } }
  cleared : ∀ s : State, (∀ z, (s.zone z).valve = .shut) → s.energising = [] → s.wetOrder = [] → P s

namespace ChannelLaw
variable {P : State → Prop}

/-! ### Arrival at SHUT and lockouts -/

theorem applyNow (k : ChannelLaw P) {s : State} {z : ZoneId} {e : PendingEdit} (h : P s) : P (s.applyNow z e) := k.handOff (k.edit s z e h)

theorem applyPending (k : ChannelLaw P) {s : State} {z : ZoneId} (h : P s) : P (s.applyPending z) := by
  unfold State.applyPending
  split
  · exact k.landEdits (k.applyNow h)
  · exact h

theorem shutReports (k : ChannelLaw P) {s : State} {z : ZoneId} {r : ShutReport} (h : P s) : P (s.shutReports z r) := by
  have hsettled : ∀ (c : Bool) (t : State) (i : Option HeaderId), P t → P (if c then t.markSettling i else t) := fun c t i ht => by
    cases c
    · exact ht
    · exact k.markSettling ht
  have happlied := k.applyPending (z := z) (hsettled (r.direct && r.wetEnded) _ (s.zone z).openedHeader (k.lowerCommitted (o := (s.zone z).opened) h))
  exact k.select (k.triageAtShut (k.startDryClock (k.takeShut happlied)))

theorem driveFault (k : ChannelLaw P) {s : State} {z : ZoneId} (h : P s) : P (s.driveFault z) := by
  unfold State.driveFault
  dsimp only
  split
  · rename_i ho
    refine k.shutReports (k.lock _ z _ ?_ (k.fault s z ho h))
    rw [State.leaveOrders_zone, State.zone_updZone_same]
    rfl
  · exact h

theorem lockoutWhileShut (k : ChannelLaw P) {s : State} {z : ZoneId} (h : P s) : P (s.lockoutWhileShut z) := by
  have hjudge : P (if (s.zone z).frostMember then s.retriage else s) := by
    split
    · exact k.retriage h
    · exact h
  unfold State.lockoutWhileShut
  extract_lets t
  split
  · exact hjudge
  · exact k.select hjudge

theorem requestLockout (k : ChannelLaw P) {s : State} {z : ZoneId} {l : Lockout} (h : P s) : P (s.requestLockout z l) := by
  unfold State.requestLockout
  dsimp only
  split
  · split
    · rename_i hv
      exact k.lockOpen s z l (by simp [Zone.isOpen, hv]) h
    · rename_i hv
      exact k.lockOpen s z l (by simp [Zone.isOpen, hv]) h
    · rename_i hv
      exact k.lock s z l (by simp [Zone.isOpen, hv]) h
    · rename_i hv
      exact k.lockoutWhileShut (k.lock s z l (by simp [Zone.isOpen, hv]) h)
  · exact h

theorem sendLockout (k : ChannelLaw P) {s : State} {called : Option Direction} {only : Option ZoneId} {later : Bool} (h : P s) :
    P (s.sendLockout called only later) := by
  unfold State.sendLockout
  split
  · split
    · exact k.tables h rfl rfl rfl rfl rfl
    · exact k.requestLockout h
  · exact h

theorem expireInterval (k : ChannelLaw P) {s : State} {i : HeaderId} {order : ExpiryOrder} (h : P s) : P (s.expireInterval i order) := by
  have hcredit : ∀ f, P ((s.apportion i).updMeter i f) := fun f => k.updMeter (k.apportion h)
  refine k.beginInterval ?_
  cases order with
  | progressFirst => exact k.sendLockout (k.postFlow (k.reportProgress (hcredit _)))
  | noticeFirst => exact k.sendLockout (k.reportProgress (k.postFlow (hcredit _)))
  | lockoutFirst => exact k.reportProgress (k.sendLockout (k.postFlow (hcredit _)))
  | lockoutLater => exact k.sendLockout (k.postFlow (k.reportProgress (hcredit _)))
  | noticeFirstLockoutLater => exact k.sendLockout (k.reportProgress (k.postFlow (hcredit _)))

theorem removeLockout (k : ChannelLaw P) {s : State} {z : ZoneId} (h : P s) : P (s.removeLockout z) := by
  have hclear := k.unlock s z h
  refine k.select ?_
  split
  · exact k.retriage hclear
  · exact hclear

/-! ### The clock -/

theorem minuteChange (k : ChannelLaw P) {s : State} (h : P s) : P s.minuteChange := by
  refine k.selectIf ?_
  split
  · exact k.takePass (k.evaluateWindows h)
  · exact k.evaluateWindows h

theorem advanceClock (k : ChannelLaw P) {s : State} (h : P s) : P s.advanceClock := by
  have htick : P { s with clock := s.clock.advance } := k.tables h rfl rfl rfl rfl rfl
  unfold State.advanceClock
  dsimp only
  split
  · exact k.minuteChange htick
  · exact htick

theorem replacePeriod (k : ChannelLaw P) {s : State} {p : Port} {v : PeriodSettings} (h : P s) : P (s.replacePeriod p v) := by
  have hset : P { s with clock := s.clock.withSettings v } := k.tables h rfl rfl rfl rfl rfl
  unfold State.replacePeriod
  dsimp only
  split
  · exact hset
  · exact k.select (k.testAllotment (k.recomputeQuotas hset))

theorem replaceWindow (k : ChannelLaw P) {s : State} {g : GroupId} {start finish : Nat} (h : P s) : P (s.replaceWindow g start finish) :=
  k.selectIf (k.evaluateWindows (k.tables h rfl rfl rfl rfl rfl))

theorem replaceRing (k : ChannelLaw P) {s : State} {ring : List ZoneId} (h : P s) : P (s.replaceRing ring) :=
  k.select (k.recomputeQuotas (k.pruneSuspended (k.tables h rfl rfl rfl rfl rfl)))

/-! ### Frost and stops -/

theorem armingChanges (k : ChannelLaw P) {s : State} (h : P s) : P s.armingChanges := by
  have hcleared : P (s.mapZones fun _ x => { x with dryClock := 0, overdue := false }) := k.mapZones h fun _ _ => ⟨rfl, rfl, rfl, rfl⟩
  refine k.judged (State.triage_judged _) ?_
  split
  · exact k.resume _ .running s.engine.stopCause (by decide) hcleared
  · exact k.tables hcleared rfl rfl rfl rfl rfl

theorem armFrost (k : ChannelLaw P) {s : State} {target : FrostState} {inhibit : Bool} {port : Option Port} {value : Int} (h : P s) :
    P (s.armFrost target inhibit port value) := k.select (k.armingChanges (k.pushFrost (k.post (k.tables h rfl rfl rfl rfl rfl))))

theorem disarmFrost (k : ChannelLaw P) {s : State} {inhibit : Bool} {port : Option Port} {value : Int} (h : P s) :
    P (s.disarmFrost inhibit port value) := k.select (k.pop (k.clearAdmitted (k.post (k.tables h rfl rfl rfl rfl rfl))))

theorem judgeFrost (k : ChannelLaw P) {s : State} {port : Option Port} (h : P s) : P (s.judgeFrost port) := by
  unfold State.judgeFrost
  dsimp only
  split
  · split
    · exact k.armFrost h
    · exact h
  · split
    · split
      · exact k.disarmFrost h
      · exact h
    · exact k.tables h rfl rfl rfl rfl rfl
  · exact h

theorem evaluateClimate (k : ChannelLaw P) {s : State} {isReport : Bool} {port : Option Port} (h : P s) :
    P (s.evaluateClimate isReport port) := k.judgeStale (k.judgeFrost (k.tables h rfl rfl rfl rfl rfl))

theorem expireSlot (k : ChannelLaw P) {s : State} {p : Port} (h : P s) : P (s.expireSlot p) := by
  unfold State.expireSlot
  split
  · split
    · exact k.evaluateClimate (k.tables h rfl rfl rfl rfl rfl)
    · exact h
  · exact h

theorem stopEngine (k : ChannelLaw P) {s : State} {cause : StopCause} {port : Option Port} {value : Int} (h : P s) :
    P (s.stopEngine cause port value) := k.post (k.stop s (some cause) h)

theorem takeStop (k : ChannelLaw P) {s : State} (h : P s) : P s.takeStop := by
  unfold State.takeStop
  split
  · exact k.stopEngine h
  · exact k.stopEngine h
  · split
    · exact h
    · exact k.post (k.tables h rfl rfl rfl rfl rfl)

theorem reinitialise (k : ChannelLaw P) {s : State} {p : Port} {x : Straps} (h : P s) : P (s.reinitialise p x) := by
  have hclimate := k.evaluateClimate (isReport := false) (port := none)
    (k.tables (t := (s.updPort p fun q => q.reinitialised x (decide (s.hold planEntry = .held p))).setSlot p none) h rfl rfl rfl rfl rfl)
  exact k.tables hclimate rfl rfl rfl rfl rfl

/-- The release of the RESET line finds every channel SHUT (R54). -/
theorem releaseReset (k : ChannelLaw P) (s : State) (a b c : Straps) : P (s.releaseReset a b c) := by
  have hblocks : P (s.releaseBlocks a b c) := k.cleared _ (fun z => by rw [State.releaseBlocks_zone]; rfl) rfl rfl
  have hrestarted : P (s.restarted a b c) := by
    unfold State.restarted State.applyAllPending
    split
    · exact hblocks
    · refine k.recomputeQuotas (State.forZones_keeps _ (fun z t ht => ?_) _ _ hblocks)
      unfold State.applyAtRelease
      split
      · exact k.edit t z _ ht
      · exact ht
  rw [State.releaseReset_eq]
  split
  · exact k.rollPeriod (k.tables hrestarted rfl rfl rfl rfl rfl)
  · exact hrestarted

/-! ### The effects of directives -/

theorem carryOutEdit (k : ChannelLaw P) {s : State} {z : ZoneId} {e : PendingEdit} {clamped : Bool} (h : P s) :
    P (s.carryOutEdit z e clamped).1 := by
  unfold State.carryOutEdit
  split
  · exact k.select (k.applyNow h)
  · have hpending : P (s.updZone z fun x => { x with pendingEdit := some e }) := k.updZone h fun _ => ⟨rfl, rfl, rfl, rfl⟩
    exact hpending

theorem runEditZone (k : ChannelLaw P) {s : State} {p : Port} {zone : Nat} {f : ZoneFields} (h : P s) : P (s.runEditZone p zone f).1 :=
  KeptInEvents.withIndex P h fun _ => Checked.orRange_keeps _ h fun _ _ => State.requireGroups_keeps h (k.carryOutEdit h)

theorem runClearZone (k : ChannelLaw P) {s : State} {p : Port} {zone : Nat} (h : P s) : P (s.runClearZone p zone).1 := by
  refine KeptInEvents.withIndex P h fun _ => ?_
  split
  · exact h
  · exact State.requireGroups_keeps h (k.carryOutEdit h)

theorem runSetRing (k : ChannelLaw P) {s : State} {p : Port} {zones : List Nat} (h : P s) : P (s.runSetRing p zones).1 := by
  unfold State.runSetRing
  split
  · exact h
  · split
    · exact h
    · rw [State.requirePlan_eq]
      split
      · exact k.replaceRing h
      · exact h

theorem runSetWindow (k : ChannelLaw P) {s : State} {p : Port} {group start finish : Nat} (h : P s) :
    P (s.runSetWindow p group start finish).1 :=
  KeptInEvents.withIndex P h fun _ => Checked.orRange_keeps _ h fun _ _ => State.requireGroups_keeps h (k.replaceWindow h)

theorem runStartQuota (k : ChannelLaw P) {s : State} {p : Port} (h : P s) : P (s.runStartQuota p).1 := by
  have hinsert : P s.insertQuotaFrame := k.tables h rfl rfl rfl rfl rfl
  unfold State.runStartQuota
  split
  · exact h
  · exact k.select (k.enterRegime h)
  · split
    · exact h
    · exact hinsert
  · split
    · exact h
    · exact hinsert

theorem runStopQuota (k : ChannelLaw P) {s : State} {p : Port} (h : P s) : P (s.runStopQuota p).1 := by
  have hremove : P s.removeQuotaFrame := k.tables h rfl rfl rfl rfl rfl
  unfold State.runStopQuota
  split
  · dsimp only
    exact k.select (k.pop (k.pruneSuspended (k.closeTagged h)))
  · split
    · exact k.pruneSuspended hremove
    · exact h

theorem startManual (k : ChannelLaw P) {s : State} {p : Port} {entries : List Entry} (h : P s) : P (s.startManual p entries) := by
  refine k.select (k.enterRegime ?_)
  split
  · exact k.closeTagged h
  · exact h

theorem runRunManual (k : ChannelLaw P) {s : State} {p : Port} {entries : List (Nat × Nat)} (h : P s) : P (s.runRunManual p entries).1 := by
  have htake : ∀ zones times clamped, P (s.takeRunManual p zones times clamped).1 := fun zones times clamped => by
    unfold State.takeRunManual
    split
    · exact h
    · split
      · exact k.startManual h
      · exact k.startManual h
      · exact h
      · exact h
  unfold State.runRunManual
  split
  · exact h
  · split
    · exact h
    · exact Checked.orRange_keeps _ h fun times clamped => htake _ times clamped

theorem runCancelManual (k : ChannelLaw P) {s : State} {p : Port} (h : P s) : P (s.runCancelManual p).1 := by
  have hdiscard : ∀ t, P t → P t.discardManual := fun t ht => k.tables ht rfl rfl rfl rfl rfl
  have hremove : P s.removeManualFrame := k.tables h rfl rfl rfl rfl rfl
  unfold State.runCancelManual
  split
  · dsimp only
    exact k.select (k.pop (hdiscard _ (k.closeTagged h)))
  · split
    · exact hremove
    · exact h

theorem runPause (k : ChannelLaw P) {s : State} (h : P s) : P s.runPause.1 := by
  unfold State.runPause
  split
  · exact h
  · split
    · exact k.resume s .paused s.engine.stopCause (by decide) h
    · exact h

theorem runResume (k : ChannelLaw P) {s : State} (h : P s) : P s.runResume.1 := by
  unfold State.runResume
  split
  · exact h
  · split
    · exact h
    · exact k.select (k.resume s .running none (by decide) h)

theorem runShutdown (k : ChannelLaw P) {s : State} {p : Port} (h : P s) : P (s.runShutdown p).1 := by
  unfold State.runShutdown
  split
  · exact h
  · dsimp only
    exact k.stopEngine h

theorem runArmFrost (k : ChannelLaw P) {s : State} {p : Port} (h : P s) : P (s.runArmFrost p).1 := by
  have hconvert : P { s with climate := { s.climate with frost := .armedManual, thawTimer := 0 } } := k.tables h rfl rfl rfl rfl rfl
  unfold State.runArmFrost
  split
  · dsimp only
    exact k.armFrost h
  · exact k.post hconvert
  · exact h

theorem runDisarmFrost (k : ChannelLaw P) {s : State} {p : Port} (h : P s) : P (s.runDisarmFrost p).1 := by
  unfold State.runDisarmFrost
  split
  · dsimp only
    exact k.disarmFrost h
  · split
    · exact h
    · exact k.tables h rfl rfl rfl rfl rfl

theorem runCloseZone (k : ChannelLaw P) {s : State} {z : ZoneId} (h : P s) : P (s.runCloseZone z).1 := by
  unfold State.runCloseZone
  split
  · exact k.close s z .closeZone h
  · exact h

theorem runClearLockout (k : ChannelLaw P) {s : State} {z : ZoneId} (h : P s) : P (s.runClearLockout z).1 := by
  unfold State.runClearLockout
  split
  · exact h
  · split
    · exact h
    · exact k.removeLockout h

theorem runNewPeriod (k : ChannelLaw P) {s : State} {p : Port} (h : P s) : P (s.runNewPeriod p).1 := by
  have hrolled : P (State.rollPeriod { s with clock := { s.clock with daysInto := 0 } } 2 (some p)) :=
    k.rollPeriod (k.tables h rfl rfl rfl rfl rfl)
  unfold State.runNewPeriod
  dsimp only
  exact k.select hrolled

/-- What events keep, the effect of every directive keeps (R172). -/
theorem run (k : ChannelLaw P) (p : Port) (d : Directive) {s : State} (h : P s) : P (d.run p s).1 := by
  have hport : ∀ (f : PortState → PortState) (a : Answer), P (s.updPort p f, a).1 := fun f _ => k.updPort h
  cases d with
  | readZone z => exact KeptInEvents.withIndex P h fun _ => h
  | readGroup g => exact KeptInEvents.withIndex P h fun _ => h
  | readRing => exact h
  | readHeader i => exact KeptInEvents.withIndex P h fun _ => h
  | readEngine => exact h
  | readClimate => exact h
  | readClock => exact h
  | readHolds => exact h
  | readPort => exact hport _ _
  | selectZones f t => exact KeptInEvents.runSelectZones P h
  | fetchNotice =>
    change P (s.runFetchNotice p).1
    unfold State.runFetchNotice
    split
    · exact hport _ _
    · exact h
  | takeHold e => exact KeptInEvents.withIndex P h fun _ => k.runTakeHold h
  | releaseHold e => exact KeptInEvents.withIndex P h fun _ => k.runReleaseHold h
  | editZone z f => exact k.runEditZone h
  | clearZone z => exact k.runClearZone h
  | setWindow g a b => exact k.runSetWindow h
  | setRing zs => exact k.runSetRing h
  | setPeriod l m a => exact Checked.orRange_keeps _ h fun _ _ => KeptInEvents.requirePlanOverBreak P h (k.replacePeriod h)
  | setMeter i f =>
    exact KeptInEvents.withIndex P h fun _ =>
      Checked.orRange_keeps _ h fun _ _ => KeptInEvents.requirePlanOverBreak P h (k.replaceMeter h)
  | declareSupply f v => exact k.runDeclare h
  | setFallback f => exact k.runSetFallback h
  | reportTemperature t => exact Checked.orRange_keeps _ h fun _ _ => k.evaluateClimate (k.tables h rfl rfl rfl rfl rfl)
  | armFrost => exact k.runArmFrost h
  | disarmFrost => exact k.runDisarmFrost h
  | setFrostLimits a d i t => exact Checked.orRange_keeps _ h fun _ _ => k.evaluateClimate (k.tables h rfl rfl rfl rfl rfl)
  | startQuota => exact k.runStartQuota h
  | stopQuota => exact k.runStopQuota h
  | runManual es => exact k.runRunManual h
  | cancelManual => exact k.runCancelManual h
  | pause => exact k.runPause h
  | resume => exact k.runResume h
  | shutdown => exact k.runShutdown h
  | closeZone z => exact KeptInEvents.withIndex P h fun _ => k.runCloseZone h
  | clearLockout z => exact KeptInEvents.withIndex P h fun _ => k.runClearLockout h
  | breakHold e => exact KeptInEvents.withIndex P h fun _ => k.runBreakHold h
  | setClock d t => exact Checked.orRange_keeps _ h fun _ _ => k.selectIf (k.evaluateWindows (k.tables h rfl rfl rfl rfl rfl))
  | newPeriod => exact k.runNewPeriod h
  | setOptions m f t r n => exact Checked.orRange_keeps _ h fun _ _ => hport _ _
  | narrowRights a b c d => exact hport _ _

/-! ### Every step -/

/-- A command whose next state is known. -/
theorem of_next {r t : State} (he : (Host.Outcome.next r : Host.Outcome State Fault Refusal) = .next t) (h : P r) : P t := by
  cases he
  exact h

theorem execDirective (k : ChannelLaw P) {c : Instr} {p : Port} {d : Directive} (hc : c.directive = some (p, d)) {s t : State} (h : P s)
    (he : exec c s = .next t) : P t := by
  have hcompleted : P (s.complete p d (d.run p)) := k.complete h (k.run p d h)
  cases hd : d.isSupply with
  | false =>
    rw [exec_directive hc hd] at he
    exact of_next he hcompleted
  | true =>
    rcases exec_supplyDirective hc hd s with hx | ⟨ev, n, -, hx⟩
    · rw [hx] at he
      exact of_next he (k.reportCeilings hcompleted)
    · rw [hx] at he
      exact of_next he (k.sendInto h)

theorem execEvent (k : ChannelLaw P) {c : Instr} (hc : c.directive = none) {s t : State} (h : P s) (he : exec c s = .next t) : P t := by
  cases c with
  | powerOn a b c => exact of_next he (k.cleared _ (fun z => by rw [State.powerOn_zone]; rfl) rfl rfl)
  | resetAsserted =>
    have hsilenced : P (s.mapZones fun _ x => x.silenced) := k.mapZones h fun _ _ => ⟨rfl, rfl, rfl, rfl⟩
    refine of_next he ?_
    split
    · exact h
    · exact k.tables (t := s.assertReset) hsilenced rfl rfl rfl rfl rfl
  | resetReleased a b c =>
    refine of_next he ?_
    split
    · exact k.releaseReset s a b c
    · exact h
  | stopAsserted =>
    have hlow : P { s with stopLow := true } := k.tables h rfl rfl rfl rfl rfl
    refine of_next he ?_
    split
    · exact h
    · exact State.live_keeps hlow (k.takeStop hlow)
  | stopReleased => exact of_next he (k.tables h rfl rfl rfl rfl rfl)
  | rawPulse i => exact of_next he (State.live_keeps h (k.rawPulse h))
  | driveSenseFall z =>
    refine of_next he (State.live_keeps h ?_)
    split
    · exact k.driveFault h
    · exact h
  | senseTimerExpiry z high =>
    have hsampled : P (s.updZone z fun x => { x with sensePhase := .watching, senseTimer := none }) :=
      k.updZone h fun _ => ⟨rfl, rfl, rfl, rfl⟩
    refine of_next he (State.live_keeps h ?_)
    split
    · cases high
      · exact k.driveFault hsampled
      · exact hsampled
    · exact h
  | fillTimerExpiry z =>
    refine of_next he (State.live_keeps h ?_)
    split
    · rename_i hdue
      exact k.wet s z hdue.1 h
    · exact h
  | closeTimerExpiry z =>
    refine of_next he (State.live_keeps h ?_)
    split
    · rename_i hdue
      exact k.shutReports (k.arrive s z (by simp [Zone.isOpen, hdue.1]) h)
    · exact h
  | intervalTimerExpiry i order =>
    refine of_next he (State.live_keeps h ?_)
    split
    · exact k.expireInterval h
    · exact h
  | validityTimerExpiry taking =>
    refine of_next he (State.live_keeps h ?_)
    cases taking with
    | atOnce => exact k.reportCeilings (k.lapse h)
    | inSelection n => exact k.sendInto h
  | secondAdvance => exact of_next he (k.advanceClock (State.live_keeps h (k.countSecond h)))
  | slotExpiry p => exact of_next he (State.live_keeps h (k.expireSlot h))
  | thawHoldExpiry =>
    refine of_next he (State.live_keeps h ?_)
    split
    · exact k.disarmFrost h
    · exact h
  | guardTimerExpiry z =>
    refine of_next he (State.live_keeps h ?_)
    split
    · exact k.post (k.close s z .guardExpired h)
    · exact h
  | soakReached z =>
    refine of_next he (State.live_keeps h ?_)
    split
    · exact k.select h
    · exact h
  | dwellEnd z =>
    refine of_next he (State.live_keeps h ?_)
    split
    · exact k.close s z .dwellEnd h
    · exact h
  | runTimeSpent z =>
    refine of_next he (State.live_keeps h ?_)
    split
    · exact k.close s z .runTimeSpent h
    · exact h
  | overdue z =>
    refine of_next he (State.live_keeps h ?_)
    split
    · exact k.judged (s.markOverdue_judged z) h
    · exact h
  | frameComplete p frame =>
    refine of_next he ?_
    split
    · exact List.foldlRecOn _ _ h fun t ht b _ => k.portsOnly (t.takeByte_portsOnly p b) ht
    · exact h
  | silence p => exact of_next he (State.live_keeps h (k.portsOnly (s.takeSilence_portsOnly p) h))
  | lineBreak p straps =>
    have hlow : P (s.updPort p fun q => { q with lineLow := true }) := k.updPort h
    refine of_next he ?_
    split
    · exact h
    · exact State.live_keeps hlow (k.reinitialise hlow)
  | takeUp => exact of_next he (State.live_keeps h (k.takeUp h))
  | replySent p => exact of_next he (State.live_keeps h (k.updPort h))
  | withdraw p =>
    refine of_next he ?_
    split
    · exact k.portsOnly (s.takeWithdraw_portsOnly p) h
    · exact h
  | characterReceived p data parity stop =>
    refine of_next he ?_
    split
    · split
      · exact k.portsOnly (s.takeByte_portsOnly p data) h
      · exact k.portsOnly (s.takeBadCharacter_portsOnly p) h
    · exact h
  | receiveLineReturnsHigh p => exact of_next he (k.updPort h)
  | _ => cases hc

/-- What every event keeps, a step keeps: a lockout request on its way, or a command on the queue's rest. -/
theorem step (k : ChannelLaw P) {s t : State} (h : P s) (he : step s = .next t) : P t := by
  cases hp : s.pending with
  | nil =>
    rw [step_nil hp] at he
    refine of_next he ?_
    rcases s.takeLockoutRequest_cases with hkeep | ⟨r, rest, -, -, htaken⟩
    · rw [hkeep]
      exact h
    · rw [htaken]
      exact k.requestLockout (k.tables h rfl rfl rfl rfl rfl)
  | cons c rest =>
    rw [step_cons hp] at he
    have hrest : P { s with pending := rest } := k.tables h rfl rfl rfl rfl rfl
    cases hc : c.directive with
    | none => exact k.execEvent hc hrest he
    | some pd => exact k.execDirective hc hrest he

end ChannelLaw

end Sys2Proof.Machine
end

section
/-! What a close command does, exactly: the zone record, the orders, the settling mark and the suspended list, in the terms of `State.channelsClosed` (R40, R58, R133,
R159, R162). -/

namespace Sys2Proof.Machine

/-! ### The record of the channel -/

section
variable (s : State) (z : ZoneId)

theorem State.armed_iff : s.armed = true ↔ s.climate.frost ≠ .disarmed := by simp [State.armed]

/-- The dry clock of the zone after the report that a WET spell has ended, or has not (R159). -/
theorem State.startDryClock_zone_same (w : Bool) :
    (s.startDryClock z w).zone z =
      { s.zone z with dryClock := if w = true ∧ s.climate.frost ≠ .disarmed then 0 else (s.zone z).dryClock } := by
  have hcond : (w && s.armed) = true ↔ w = true ∧ s.climate.frost ≠ .disarmed := by rw [Bool.and_eq_true, State.armed_iff]
  unfold State.startDryClock
  by_cases h : (w && s.armed) = true
  · rw [if_pos h, if_pos (hcond.mp h), State.zone_updZone_same]
  · rw [if_neg h, if_neg (hcond.not.mp h)]

theorem State.startDryClock_eq (w : Bool) : s.startDryClock z w = { s with zones := (s.startDryClock z w).zones } := by
  unfold State.startDryClock
  split <;> rfl

/-- The suspended list after the end of a visit (R133). -/
def State.suspendedBy (o : VisitOutcome) : List ZoneId := if o = .suspended ∧ z ∈ s.ring then s.planner.suspended ++ [z] else s.planner.suspended

theorem State.endVisit_eq (o : VisitOutcome) :
    s.endVisit z o = { s with zones := (s.endVisit z o).zones, planner := { s.planner with suspended := s.suspendedBy z o } } := by
  unfold State.suspendedBy
  cases o with
  | complete => rfl
  | dropped => rfl
  | suspended =>
    unfold State.endVisit
    by_cases h : z ∈ s.ring
    · simp only [h, if_true, and_self]
      rfl
    · simp only [h, if_false, and_false]
      rfl

/-- The record of a zone whose visit has ended (R133, R135). -/
theorem State.endVisit_zone_same (o : VisitOutcome) :
    (s.endVisit z o).zone z =
      match o with
      | .complete => { (s.zone z).noVisit with cyclesRemaining := (s.zone z).cyclesRemaining - 1 }
      | .dropped => (s.zone z).noVisit
      | .suspended => if z ∈ s.ring then { s.zone z with visit := .suspended, guardTimer := none } else (s.zone z).noVisit := by
  cases o with
  | complete => exact s.zone_updZone_same z _
  | dropped => exact s.zone_updZone_same z _
  | suspended =>
    unfold State.endVisit
    dsimp only
    split
    · exact s.zone_updZone_same z fun x => { x with visit := .suspended, guardTimer := none }
    · exact s.zone_updZone_same z _

/-- The suspended list after a CLOSING report (R133). -/
def State.suspendedAtClosing (tag : Option UseTag) (e : Ending) : List ZoneId :=
  if tag = some .quota ∧ (s.zone z).visit = .openVisit then s.suspendedBy z e.visitOutcome else s.planner.suspended

/-- The CLOSING report changes zone records and the suspended list, and nothing else. -/
theorem State.takeClosing_eq (tag : Option UseTag) (e : Ending) (w : Bool) :
    s.takeClosing z tag e w =
      { s with
        zones := (s.takeClosing z tag e w).zones
        planner := { s.planner with suspended := s.suspendedAtClosing z tag e } } := by
  unfold State.takeClosing State.suspendedAtClosing
  rw [State.startDryClock_eq]
  rcases tag with _ | (_ | _ | _)
  · rfl
  · dsimp only
    unfold State.endOpenVisit
    by_cases h : (s.zone z).visit = .openVisit
    · have hvisit := s.endVisit_eq z e.visitOutcome
      rw [if_pos h, if_pos ⟨rfl, h⟩]
      generalize s.endVisit z e.visitOutcome = u at hvisit ⊢
      rw [hvisit]
    · rw [if_neg h, if_neg fun k => h k.2]
  · rfl
  · rfl

/-- The zone record after the CLOSING report of a channel that stands in CLOSING (R49, R133, R159, R162). -/
theorem State.takeClosing_zone_same (tag : Option UseTag) (e : Ending) (w : Bool) :
    (s.takeClosing z tag e w).zone z =
      (let y : Zone := { s.zone z with dryClock := if w = true ∧ s.climate.frost ≠ .disarmed then 0 else (s.zone z).dryClock }
       match tag with
       | some .frost => { y with frostVisit := false, dwellRemaining := none }
       | some .quota =>
         if (s.zone z).visit = .openVisit then
           match e.visitOutcome with
           | .complete => { y.noVisit with cyclesRemaining := (s.zone z).cyclesRemaining - 1 }
           | .dropped => y.noVisit
           | .suspended => if z ∈ s.ring then { y with visit := .suspended, guardTimer := none } else y.noVisit
         else y
       | some .manual => y
       | none => y) := by
  unfold State.takeClosing
  rw [State.startDryClock_zone_same]
  rcases tag with _ | (_ | _ | _)
  · rfl
  · dsimp only
    unfold State.endOpenVisit
    by_cases h : (s.zone z).visit = .openVisit
    · have hclimate : (s.endVisit z e.visitOutcome).climate = s.climate := (s.endVisit_quiet z _).climate
      rw [if_pos h, if_pos h, hclimate, State.endVisit_zone_same]
      cases e.visitOutcome with
      | complete => rfl
      | dropped => rfl
      | suspended =>
        dsimp only
        split <;> rfl
    · rw [if_neg h, if_neg h]
  · rfl
  · dsimp only
    unfold State.endFrostVisit
    rw [State.zone_updZone_same]
    rfl

end

/-! ### The close command -/

section
variable (s : State) {z : ZoneId} (e : Ending)

/-- The state at the CLOSING report: the channel in CLOSING, out of the orders, its header's interval settling (R40, R58). -/
def State.atClosing (z : ZoneId) : State := ((s.updZone z fun x => x.closing e).leaveOrders z).markSettling (s.zone z).openedHeader

theorem State.closeChannel_open (h : (s.zone z).isOpen = true) :
    s.closeChannel z e = (s.atClosing e z).takeClosing z (s.zone z).useTag e (decide ((s.zone z).valve = .wet)) := by
  unfold State.closeChannel
  dsimp only
  rw [if_pos h]
  rfl

theorem State.atClosing_zone_same : (s.atClosing e z).zone z = (s.zone z).closing e := by
  unfold State.atClosing
  rw [State.markSettling_zone, State.leaveOrders_zone]
  exact s.zone_updZone_same z _

theorem State.atClosing_eq :
    s.atClosing e z =
      { s with
        zones := (s.atClosing e z).zones
        meters := (s.atClosing e z).meters
        energising := s.energising.filter fun i => decide (i ≠ z)
        wetOrder := s.wetOrder.filter fun i => decide (i ≠ z) } := by
  unfold State.atClosing State.markSettling
  cases (s.zone z).openedHeader <;> rfl

theorem Zone.onHeader_iff (x : Zone) (i : HeaderId) : x.onHeader i = true ↔ x.openedHeader = some i := by
  unfold Zone.onHeader Zone.openedHeader
  cases x.opened <;> simp

theorem State.atClosing_meter (i : HeaderId) :
    (s.atClosing e z).meter i = { s.meter i with settling := (s.meter i).settling || (s.zone z).onHeader i } := by
  have hon := (s.zone z).onHeader_iff i
  unfold State.atClosing State.markSettling
  cases ho : (s.zone z).openedHeader with
  | none =>
    have hoff : (s.zone z).onHeader i = false := by simpa [ho] using hon
    rw [hoff, Bool.or_false]
    rfl
  | some j =>
    dsimp only
    rw [State.meter_updMeter]
    by_cases hi : i = j
    · have hin : (s.zone z).onHeader i = true := by rw [hon, ho, hi]
      rw [if_pos hi, hin, Bool.or_true, hi]
      rfl
    · have hoff : (s.zone z).onHeader i = false := by
        rw [ho] at hon
        exact Bool.eq_false_iff.mpr fun k => hi (Option.some.inj (hon.mp k)).symm
      rw [if_neg hi, hoff, Bool.or_false]
      rfl

/-- The close time of a zone, in the statements' form (R40; log entry 21). -/
theorem Zone.closeSeconds_eq (x : Zone) : x.closeSeconds = match x.programme with | some v => v.closing | none => 0 := by
  unfold Zone.closeSeconds
  cases x.programme <;> rfl

/-- What the use tag and the cause make of the record, in the statements' form (R133). -/
theorem State.closeChannel_zone (h : (s.zone z).isOpen = true) : (s.closeChannel z e).zone z = s.closedZone z e := by
  have hring : (s.atClosing e z).ring = s.ring := by rw [State.atClosing_eq]
  have hclimate : (s.atClosing e z).climate = s.climate := by rw [State.atClosing_eq]
  rw [State.closeChannel_open s e h, State.takeClosing_zone_same, State.atClosing_zone_same, hring, hclimate]
  unfold State.closedZone Zone.closing
  simp only [decide_eq_true_eq, Zone.closeSeconds_eq]
  rcases (s.zone z).useTag with _ | (_ | _ | _)
  · rfl
  · by_cases hv : (s.zone z).visit = .openVisit
    · simp only [hv, if_true]
      cases e <;> rfl
    · exact (if_neg hv).trans (if_neg hv).symm
  · rfl
  · rfl

/-- The record of every zone after a close command on a channel. -/
theorem State.closeChannel_zones (y : ZoneId) :
    (s.closeChannel z e).zone y = if y = z ∧ (s.zone z).isOpen = true then s.closedZone z e else s.zone y := by
  by_cases hy : y = z
  · subst hy
    by_cases h : (s.zone y).isOpen = true
    · rw [if_pos ⟨rfl, h⟩, State.closeChannel_zone s e h]
    · rw [if_neg fun k => h k.2, State.closeChannel_shut s e (by simpa using h)]
  · rw [if_neg fun k => hy k.1, State.closeChannel_zone_other s e hy]

theorem Ending.visitOutcome_suspended_iff : e.visitOutcome = .suspended ↔ e ∈ [Ending.windowClosed, .shed, .stop, .preemption] := by
  cases e <;> decide

/-- A list of zones by number that holds at most one zone. -/
theorem filter_zoneIds_single (z : ZoneId) (q : ZoneId → Bool) : (zoneIds.filter fun y => decide (y = z) && q y) = if q z then [z] else [] := by
  have hpick : (fun y => decide (y = z) && q y) = fun y => q z && decide (y = z) := by
    funext y
    by_cases hy : y = z <;> simp [hy]
  have hone : zoneIds.filter (fun y => decide (y = z)) = [z] := by
    have hcount : zoneIds.count z = 1 := List.count_eq_one_of_mem (List.nodup_finRange 32) (List.mem_finRange z)
    have hfilter := List.filter_eq (l := zoneIds) z
    rw [hcount] at hfilter
    rw [← List.replicate_one, ← hfilter]
  rw [hpick]
  cases hq : q z
  · simp
  · simpa using hone

/-- A close command is the closing of that channel alone, as the statements put it (R40). -/
theorem State.closeChannel_channelsClosed (z : ZoneId) : s.channelsClosed (fun y => decide (y = z)) e (s.closeChannel z e) := by
  by_cases h : (s.zone z).isOpen = true
  · have hpick : ∀ y, (decide (y = z) && (s.zone y).isOpen) = decide (y = z) := fun y => by
      by_cases hy : y = z
      · rw [hy, h, Bool.and_true]
      · simp [hy]
    have hmeters : (s.closeChannel z e).meters = (s.atClosing e z).meters := by
      rw [State.closeChannel_open s e h, State.takeClosing_eq]
    unfold State.channelsClosed
    simp only [hpick]
    refine ⟨fun y => ?_, fun i => ?_, ?_⟩
    · rw [State.closeChannel_zones]
      by_cases hy : y = z
      · subst hy; simp [h]
      · simp [hy]
    · have hsettled : (zoneIds.any fun y => decide (y = z) && (s.zone y).onHeader i) = (s.zone z).onHeader i := by
        rw [Bool.eq_iff_iff]
        simp [zoneIds]
      have hmeter : (s.closeChannel z e).meter i = (s.atClosing e z).meter i := by unfold State.meter; rw [hmeters]
      rw [hsettled, hmeter, State.atClosing_meter]
    · have hvisit : ((s.atClosing e z).zone z).visit = (s.zone z).visit := by rw [State.atClosing_zone_same]; rfl
      have hsuspended : (s.atClosing e z).suspendedAtClosing z (s.zone z).useTag e =
          s.planner.suspended ++ zoneIds.filter fun y => decide (y = z) &&
            decide ((s.zone y).useTag = some .quota ∧ (s.zone y).visit = .openVisit ∧ y ∈ s.ring ∧
              e ∈ [Ending.windowClosed, .shed, .stop, .preemption]) := by
        have hplanner : (s.atClosing e z).planner = s.planner := by rw [State.atClosing_eq]
        have hring : (s.atClosing e z).ring = s.ring := by rw [State.atClosing_eq]
        rw [filter_zoneIds_single]
        unfold State.suspendedAtClosing State.suspendedBy
        rw [hvisit, hplanner, hring]
        simp only [← Ending.visitOutcome_suspended_iff]
        by_cases ht : (s.zone z).useTag = some .quota ∧ (s.zone z).visit = .openVisit
        · by_cases ho : e.visitOutcome = .suspended ∧ z ∈ s.ring
          · simp [ht, ho]
          · rw [if_pos ht, if_neg ho, if_neg (by simp [ht]; tauto), List.append_nil]
        · rw [if_neg ht, if_neg (by simp; tauto), List.append_nil]
      have hclosed := (s.atClosing e z).takeClosing_eq z (s.zone z).useTag e (decide ((s.zone z).valve = .wet))
      rw [← State.closeChannel_open s e h, hsuspended] at hclosed
      have hat := s.atClosing_eq (z := z) e
      generalize s.closeChannel z e = u at hclosed ⊢
      generalize s.atClosing e z = t at hclosed hat
      rw [hclosed, hat]
      simp
  · have h : (s.zone z).isOpen = false := by simpa using h
    have hpick : ∀ y, (decide (y = z) && (s.zone y).isOpen) = false := fun y => by
      by_cases hy : y = z
      · rw [hy, h, Bool.and_false]
      · simp [hy]
    rw [State.closeChannel_shut s e h]
    unfold State.channelsClosed
    simp only [hpick]
    refine ⟨fun y => rfl, fun i => ?_, ?_⟩
    · have hnone : (zoneIds.any fun y => false && (s.zone y).onHeader i) = false := List.any_eq_false.mpr fun _ _ => by simp
      rw [hnone, Bool.or_false]
    · simp

/-- The parts of the record that a close command leaves, beside those of `Zone.SettledAs`. -/
theorem State.closedZone_keeps (z : ZoneId) :
    (s.closedZone z e).valve = .closing ∧ (s.closedZone z e).opened = (s.zone z).opened ∧ (s.closedZone z e).programme = (s.zone z).programme ∧
      (s.closedZone z e).lockout = (s.zone z).lockout := by
  unfold State.closedZone
  dsimp only
  repeat' split
  all_goals exact ⟨rfl, rfl, rfl, rfl⟩

end

end Sys2Proof.Machine
end

section
/-! R44 and R120 through every step: what opens is SHUT and without a lockout, while RUNNING; what is locked or stopped closes in the same event. -/

namespace Sys2Proof.Machine

/-! ### Closing and opening, by zone -/

section
variable (s : State) {z : ZoneId}

theorem State.closeChannel_isOpen (e : Ending) (y : ZoneId) :
    ((s.closeChannel z e).zone y).isOpen = (decide (y ≠ z) && (s.zone y).isOpen) := by
  by_cases hy : y = z
  · subst hy
    by_cases h : (s.zone y).isOpen = true
    · simp [Zone.isOpen, State.closeChannel_channel e h]
    · rw [State.closeChannel_shut s e (by simpa using h)]
      simpa using h
  · rw [State.closeChannel_zone_other s e hy]
    simp [hy]

theorem State.closeAll_isOpen (e : Ending) (y : ZoneId) : ((s.closeAll e).zone y).isOpen = false := by
  have hwalk : ∀ (zs : List ZoneId) (t : State),
      ((t.forZones zs fun z t => t.closeChannel z e).zone y).isOpen = (decide (y ∉ zs) && (t.zone y).isOpen) := fun zs => by
    induction zs with
    | nil => intro t; simp [State.forZones]
    | cons z rest ih =>
      intro t
      have hrest := ih (t.closeChannel z e)
      rw [State.closeChannel_isOpen] at hrest
      refine hrest.trans ?_
      by_cases hy : y = z <;> simp [hy]
  unfold State.closeAll
  rw [hwalk]
  simp [zoneIds]

end

/-- A closing of every open channel is a walk of close commands (R120). -/
theorem KeptByClosing.closeAll {P : State → Prop} (k : KeptByClosing P) {s : State} {e : Ending} (h : P s) : P (s.closeAll e) :=
  State.forZones_keeps _ (fun z t ht => k.close t z e ht) _ s h

/-- What keeps the shed walk without regard to the ceilings: closings and posts (R85). -/
theorem State.shedWalk_keeps {P : State → Prop} (hclose : ∀ (s : State) (z : ZoneId) (e : Ending), P s → P (s.closeChannel z e))
    (hsteady : ∀ {s t : State}, Steady s t → P s → P t) {s : State} (port : Option Port) (h : P s) : P (s.shedWalk port) :=
  State.forZones_keeps _ (fun z t ht => by
    unfold State.shedStep
    split
    · exact hsteady (State.post_steady _ _ _ _ _ _) (hclose t z .shed ht)
    · exact ht) _ s h

/-- The channel at its OPENING report: energised, with its timers and its use tag, last in the order of energising (R37, R38). -/
def State.energise (s : State) (z : ZoneId) (x : Programme) (tag : UseTag) : State :=
  { s.updZone z (fun y => y.opening x tag) with energising := s.energising ++ [z] }

theorem State.energise_zone (s : State) (z : ZoneId) (x : Programme) (tag : UseTag) (y : ZoneId) :
    (s.energise z x tag).zone y = if y = z then (s.zone z).opening x tag else s.zone y := s.zone_updZone z y fun v => v.opening x tag

/-- An undefined or locked zone, or a channel that is not SHUT, refuses the open command (R38). -/
theorem State.openChannel_refused {s : State} {z : ZoneId} (h : (s.zone z).programme = none ∨ (s.zone z).lockout ≠ none ∨ (s.zone z).valve ≠ .shut)
    (tag : UseTag) : s.openChannel z tag = s := by
  unfold State.openChannel
  cases hp : (s.zone z).programme with
  | none => rfl
  | some x =>
    have hno : ¬((s.zone z).valve = .shut ∧ (s.zone z).lockout = none) := by
      rintro ⟨hv, hl⟩
      simp [hp, hv, hl] at h
    exact if_neg hno

/-- An open command that is taken: the OPENING reports, then entry to WET where the fill time is 0 and the channel was not shed (R38, R39). -/
theorem State.openChannel_taken {s : State} {z : ZoneId} {x : Programme} (hp : (s.zone z).programme = some x) (hv : (s.zone z).valve = .shut)
    (hl : (s.zone z).lockout = none) (tag : UseTag) :
    s.openChannel z tag =
      if x.fill = 0 ∧ (((s.energise z x tag).openingReports x).zone z).valve = .opening
      then ((s.energise z x tag).openingReports x).enterWet z else (s.energise z x tag).openingReports x := by
  unfold State.openChannel
  rw [hp]
  exact if_pos ⟨hv, hl⟩

theorem State.enterWet_zone (s : State) (z y : ZoneId) :
    (s.enterWet z).zone y =
      if y = z then
        { s.zone z with valve := .wet, fillTimer := none, timeInState := 0, overdue := false,
                        dryClock := if s.climate.frost ≠ .disarmed then 0 else (s.zone z).dryClock }
      else s.zone y := by
  have hz := s.zone_updZone z y fun x =>
    { x with valve := .wet, fillTimer := none, timeInState := 0, overdue := false, dryClock := if s.armed then 0 else x.dryClock }
  refine hz.trans ?_
  simp only [State.armed_iff]

/-- What an opening keeps: its OPENING reports, and the entry to WET that may follow. -/
theorem State.openChannel_keeps {P : State → Prop} {s : State} {z : ZoneId} {tag : UseTag}
    (hopening : ∀ x, (s.zone z).programme = some x → (s.zone z).valve = .shut → (s.zone z).lockout = none →
      P ((s.energise z x tag).openingReports x))
    (hwet : ∀ t : State, (t.zone z).valve = .opening → P t → P (t.enterWet z)) (h : P s) : P (s.openChannel z tag) := by
  by_cases hr : (s.zone z).programme = none ∨ (s.zone z).lockout ≠ none ∨ (s.zone z).valve ≠ .shut
  · rw [State.openChannel_refused hr]
    exact h
  · simp only [not_or, not_not] at hr
    obtain ⟨hp, hl, hv⟩ := hr
    obtain ⟨x, hx⟩ := Option.ne_none_iff_exists'.mp hp
    have hreports := hopening x hx hv hl
    rw [State.openChannel_taken hx hv hl]
    split
    · rename_i hdue
      exact hwet _ hdue.2 hreports
    · exact hreports

/-- The OPENING reports raise the committed flow, walk the shed order, and mark the interval (R50, R76, R87). -/
theorem KeptByClosing.openingReports {P : State → Prop} (k : KeptByClosing P) {s : State} {x : Programme} (h : P s) : P (s.openingReports x) := by
  unfold State.openingReports State.markOpening
  exact k.updMeter (k.ceilings s (s.raiseCommitted ⟨x.header, x.flow⟩) none (.of_tables rfl rfl rfl rfl) h)

theorem State.setLockout_zone (s : State) (z : ZoneId) (l : Lockout) (y : ZoneId) :
    (s.setLockout z l).zone y =
      if y = z ∧ (s.zone z).lockout = none then { s.zone z with lockout := some l, lockedSinceOpen := true } else s.zone y := by
  unfold State.setLockout
  dsimp only
  by_cases hl : (s.zone z).lockout = none
  · rw [if_pos hl, State.post_zone, State.zone_updZone]
    simp [hl]
  · simp [hl]

theorem State.setLockout_isOpen (s : State) (z : ZoneId) (l : Lockout) (y : ZoneId) : ((s.setLockout z l).zone y).isOpen = (s.zone y).isOpen := by
  rw [State.setLockout_zone]
  split
  · rename_i h
    rw [h.1]
    rfl
  · rfl

theorem State.setLockout_engine (s : State) (z : ZoneId) (l : Lockout) : (s.setLockout z l).engine = s.engine := by
  unfold State.setLockout
  dsimp only
  split
  · simp
  · rfl

/-- An application leaves the channel as it stands (R17, R18). -/
theorem State.applyEdit_channel (s : State) (z : ZoneId) (e : PendingEdit) (y : ZoneId) :
    ((s.applyEdit z e).zone y).valve = (s.zone y).valve ∧ ((s.applyEdit z e).zone y).lockout = (s.zone y).lockout ∧
      ((s.applyEdit z e).zone y).opened = (s.zone y).opened := by
  rw [State.applyEdit_zone]
  split
  · rename_i hy
    rw [hy]
    split <;> (cases e <;> exact ⟨rfl, rfl, rfl⟩)
  · exact ⟨rfl, rfl, rfl⟩

theorem Zone.isOpen_congr {x y : Zone} (h : y.valve = x.valve) : y.isOpen = x.isOpen := by
  unfold Zone.isOpen
  rw [h]

/-! ### A lockout holds a channel closed -/

/-- What opens no channel and locks none keeps R44. -/
theorem State.lockedNeverOpen_of {s t : State} (h : s.lockedNeverOpen)
    (hz : ∀ z, (t.zone z).lockout ≠ none → (t.zone z).isOpen = true → (s.zone z).lockout ≠ none ∧ (s.zone z).isOpen = true) : t.lockedNeverOpen := by
  intro z hl
  by_contra ho
  obtain ⟨hl', ho'⟩ := hz z hl (by simpa using ho)
  simp [h z hl'] at ho'

theorem Standing.lockedNeverOpen {s t : State} (q : Standing s t) (h : s.lockedNeverOpen) : t.lockedNeverOpen :=
  State.lockedNeverOpen_of h fun z hl ho => ⟨by rwa [(q.zone z).lockout] at hl, by rwa [(q.zone z).isOpen] at ho⟩

theorem State.closeChannel_lockedNeverOpen (s : State) (z : ZoneId) (e : Ending) (h : s.lockedNeverOpen) : (s.closeChannel z e).lockedNeverOpen :=
  State.lockedNeverOpen_of h fun y hl ho => by
    rw [State.closeChannel_isOpen, Bool.and_eq_true] at ho
    rw [((s.closeChannel_quiet z e).zone y).lockout] at hl
    exact ⟨hl, ho.2⟩

theorem keptByClosing_lockedNeverOpen : KeptByClosing State.lockedNeverOpen where
  steady := fun q h => q.toStanding.lockedNeverOpen h
  close := State.closeChannel_lockedNeverOpen
  ceilings := fun _ _ port q h =>
    State.shedWalk_keeps State.closeChannel_lockedNeverOpen (fun q h => q.toStanding.lockedNeverOpen h) port (q.lockedNeverOpen h)

theorem State.enterWet_lockedNeverOpen {s : State} {z : ZoneId} (hv : (s.zone z).valve = .opening) (h : s.lockedNeverOpen) :
    (s.enterWet z).lockedNeverOpen :=
  State.lockedNeverOpen_of h fun y hl ho => by
    rw [State.enterWet_zone] at hl ho
    split at hl
    · rename_i hy
      rw [hy]
      exact ⟨hl, by simp [Zone.isOpen, hv]⟩
    · rename_i hy
      rw [if_neg hy] at ho
      exact ⟨hl, ho⟩

theorem State.openChannel_lockedNeverOpen {s : State} {z : ZoneId} {tag : UseTag} (h : s.lockedNeverOpen) : (s.openChannel z tag).lockedNeverOpen := by
  refine State.openChannel_keeps (fun x _ _ hl => keptByClosing_lockedNeverOpen.openingReports ?_) (fun _ => State.enterWet_lockedNeverOpen) h
  refine State.lockedNeverOpen_of h fun y hy ho => ?_
  rw [State.energise_zone] at hy ho
  split at hy
  · exact absurd hl hy
  · rename_i hne
    rw [if_neg hne] at ho
    exact ⟨hy, ho⟩

/-- R44: the open command asks for no lockout (R38), and a lockout closes an open channel (R45). -/
theorem channelLaw_lockedNeverOpen : ChannelLaw State.lockedNeverOpen where
  toKeptByClosing := keptByClosing_lockedNeverOpen
  openZone := fun _ _ _ _ => State.openChannel_lockedNeverOpen
  edit := fun s z e h => State.lockedNeverOpen_of h fun y hl ho => by
    obtain ⟨hv, hlock, -⟩ := s.applyEdit_channel z e y
    rw [hlock] at hl
    rw [Zone.isOpen_congr hv] at ho
    exact ⟨hl, ho⟩
  wet := fun _ _ => State.enterWet_lockedNeverOpen
  arrive := fun s z _ h => State.lockedNeverOpen_of h fun y hl ho => by
    rw [State.zone_updZone] at hl ho
    split at ho
    · cases ho
    · rename_i hy
      rw [if_neg hy] at hl
      exact ⟨hl, ho⟩
  fault := fun s z _ h => State.lockedNeverOpen_of h fun y hl ho => by
    rw [State.leaveOrders_zone, State.zone_updZone] at hl ho
    split at ho
    · cases ho
    · rename_i hy
      rw [if_neg hy] at hl
      exact ⟨hl, ho⟩
  lock := fun s z l hclosed h => State.lockedNeverOpen_of h fun y hl ho => by
    rw [State.setLockout_isOpen] at ho
    rw [State.setLockout_zone] at hl
    split at hl
    · rename_i hy
      rw [hy.1, hclosed] at ho
      cases ho
    · exact ⟨hl, ho⟩
  lockOpen := fun s z l _ h => State.lockedNeverOpen_of h fun y hl ho => by
    rw [State.closeChannel_isOpen, Bool.and_eq_true, decide_eq_true_eq, State.setLockout_isOpen] at ho
    rw [((State.closeChannel_quiet _ z .lockout).zone y).lockout, State.setLockout_zone, if_neg fun k => ho.1 k.1] at hl
    exact ⟨hl, ho.2⟩
  unlock := fun s z h => State.lockedNeverOpen_of h fun y hl ho => by
    rw [State.zone_updZone] at hl ho
    split at hl
    · exact absurd rfl hl
    · rename_i hy
      rw [if_neg hy] at ho
      exact ⟨hl, ho⟩
  stop := fun s c h => keptByClosing_lockedNeverOpen.closeAll h
  resume := fun _ _ _ _ h => h
  cleared := fun s hshut _ _ z _ => by simp [Zone.isOpen, hshut z]

/-! ### A stop holds every channel closed -/

/-- What opens no channel and does not stop the engine keeps R120. -/
theorem State.stoppedNoneOpen_of {s t : State} (h : s.stoppedNoneOpen) (hr : t.engine.runState = s.engine.runState)
    (hz : ∀ z, (t.zone z).isOpen = true → (s.zone z).isOpen = true) : t.stoppedNoneOpen := by
  intro hstop z
  by_contra ho
  have hwas := hz z (by simpa using ho)
  simp [h (hr.symm.trans hstop) z] at hwas

theorem Standing.stoppedNoneOpen {s t : State} (q : Standing s t) (h : s.stoppedNoneOpen) : t.stoppedNoneOpen :=
  State.stoppedNoneOpen_of h q.runState fun z ho => by rwa [(q.zone z).isOpen] at ho

theorem State.closeChannel_stoppedNoneOpen (s : State) (z : ZoneId) (e : Ending) (h : s.stoppedNoneOpen) : (s.closeChannel z e).stoppedNoneOpen :=
  State.stoppedNoneOpen_of h (by rw [(s.closeChannel_quiet z e).engine]) fun y ho => by
    rw [State.closeChannel_isOpen, Bool.and_eq_true] at ho
    exact ho.2

/-- While the engine is not STOPPED, R120 asks nothing. -/
theorem State.stoppedNoneOpen_of_ne {s : State} (h : s.engine.runState ≠ .stopped) : s.stoppedNoneOpen := fun hstop => absurd hstop h

theorem keptByClosing_stoppedNoneOpen : KeptByClosing State.stoppedNoneOpen where
  steady := fun q h => q.toStanding.stoppedNoneOpen h
  close := State.closeChannel_stoppedNoneOpen
  ceilings := fun _ _ port q h =>
    State.shedWalk_keeps State.closeChannel_stoppedNoneOpen (fun q h => q.toStanding.stoppedNoneOpen h) port (q.stoppedNoneOpen h)

/-- R120: a channel opens only while RUNNING (R124), and a stop closes every channel. -/
theorem channelLaw_stoppedNoneOpen : ChannelLaw State.stoppedNoneOpen where
  toKeptByClosing := keptByClosing_stoppedNoneOpen
  openZone := fun s z tag hrun _ => State.stoppedNoneOpen_of_ne (by rw [(s.openChannel_quiet z tag).engine, hrun]; decide)
  edit := fun s z e h => State.stoppedNoneOpen_of h (by rw [State.applyEdit_eq]) fun y ho => by
    rwa [Zone.isOpen_congr (s.applyEdit_channel z e y).1] at ho
  wet := fun s z hv h => State.stoppedNoneOpen_of h rfl fun y ho => by
    rw [State.enterWet_zone] at ho
    split at ho
    · rename_i hy
      rw [hy]
      simp [Zone.isOpen, hv]
    · exact ho
  arrive := fun s z _ h => State.stoppedNoneOpen_of h rfl fun y ho => by
    rw [State.zone_updZone] at ho
    split at ho
    · cases ho
    · exact ho
  fault := fun s z _ h => State.stoppedNoneOpen_of h rfl fun y ho => by
    rw [State.leaveOrders_zone, State.zone_updZone] at ho
    split at ho
    · cases ho
    · exact ho
  lock := fun s z l _ h => State.stoppedNoneOpen_of h (by rw [State.setLockout_engine]) fun y ho => by rwa [State.setLockout_isOpen] at ho
  lockOpen := fun s z l _ h => State.closeChannel_stoppedNoneOpen _ z .lockout
    (State.stoppedNoneOpen_of h (by rw [State.setLockout_engine]) fun y ho => by rwa [State.setLockout_isOpen] at ho)
  unlock := fun s z h => State.stoppedNoneOpen_of h rfl fun y ho => by
    rw [State.zone_updZone] at ho
    split at ho
    · rename_i hy
      rw [hy]
      exact ho
    · exact ho
  stop := fun s c _ _ z => State.closeAll_isOpen _ .stop z
  resume := fun _ _ _ hr _ => State.stoppedNoneOpen_of_ne hr
  cleared := fun s hshut _ _ _ z => by simp [Zone.isOpen, hshut z]

end Sys2Proof.Machine

open Sys2Proof Sys2Proof.Machine

/-- Settles O7: both laws are kept by every event that moves a channel (`ChannelLaw.step`). -/
theorem everyStepKeepsLockedAndStoppedZonesClosed : Obligations.EveryStepKeepsLockedAndStoppedZonesClosed :=
  ⟨fun _ _ h he => channelLaw_lockedNeverOpen.step h he, fun _ _ h he => channelLaw_stoppedNoneOpen.step h he⟩

end

section
/-! R37 and R78 through every step: the orders list the open channels, and the shed walk, which goes through them, leaves no flow above its ceiling. -/

namespace Sys2Proof.Machine

/-! ### The orders -/

/-- What leaves valve states and orders as they stand keeps the law of R37. -/
theorem State.ordersMatch_of {s t : State} (h : s.ordersMatch) (hv : ∀ z, (t.zone z).valve = (s.zone z).valve)
    (he : t.energising = s.energising) (hw : t.wetOrder = s.wetOrder) : t.ordersMatch := by
  unfold State.ordersMatch
  simp only [hv, he, hw]
  exact h

theorem Standing.ordersMatch {s t : State} (q : Standing s t) (h : s.ordersMatch) : t.ordersMatch :=
  State.ordersMatch_of h (fun z => (q.zone z).valve) q.energising q.wetOrder

theorem filter_ne_of_notMem {z : ZoneId} {l : List ZoneId} (h : z ∉ l) : l.filter (fun i => decide (i ≠ z)) = l :=
  List.filter_eq_self.mpr fun _ hi => decide_eq_true fun he => h (he ▸ hi)

/-- A channel that has left OPENING and WET, and the orders with it, keeps the law. -/
theorem State.ordersMatch_leave {s t : State} (z : ZoneId) (h : s.ordersMatch) (hclosed : (t.zone z).isOpen = false)
    (hother : ∀ y, y ≠ z → (t.zone y).valve = (s.zone y).valve)
    (he : t.energising = s.energising.filter fun i => decide (i ≠ z)) (hw : t.wetOrder = s.wetOrder.filter fun i => decide (i ≠ z)) :
    t.ordersMatch := by
  obtain ⟨hopening, hwet, hne, hnw⟩ := h
  obtain ⟨hno, hnw'⟩ : (t.zone z).valve ≠ .opening ∧ (t.zone z).valve ≠ .wet := by simpa [Zone.isOpen] using hclosed
  refine ⟨fun y => ?_, fun y => ?_, by rw [he]; exact hne.filter _, by rw [hw]; exact hnw.filter _⟩
  · by_cases hy : y = z
    · simp [he, hy, hno]
    · simp [he, hy, hopening, hother y hy]
  · by_cases hy : y = z
    · simp [hw, hy, hnw']
    · simp [hw, hy, hwet, hother y hy]

theorem State.closeChannel_ordersMatch (s : State) (z : ZoneId) (e : Ending) (h : s.ordersMatch) : (s.closeChannel z e).ordersMatch := by
  by_cases ho : (s.zone z).isOpen = true
  · obtain ⟨hv, -, -, -, -, he, hw⟩ := State.closeChannel_channel (s := s) e ho
    refine State.ordersMatch_leave z h (by simp [Zone.isOpen, hv]) (fun y hy => ?_) he hw
    rw [State.closeChannel_zone_other s e hy]
  · rw [State.closeChannel_shut s e (by simpa using ho)]
    exact h

theorem State.shedWalk_ordersMatch {s : State} (port : Option Port) (h : s.ordersMatch) : (s.shedWalk port).ordersMatch :=
  State.shedWalk_keeps State.closeChannel_ordersMatch (fun q h => q.toStanding.ordersMatch h) port h

/-- The channel of a SHUT zone joins the order of energising at its OPENING report (R37). -/
theorem State.energise_ordersMatch {s : State} {z : ZoneId} (x : Programme) (tag : UseTag) (hv : (s.zone z).valve = .shut) (h : s.ordersMatch) :
    (s.energise z x tag).ordersMatch := by
  obtain ⟨hopening, hwet, hne, hnw⟩ := h
  have hnot : z ∉ s.energising := fun hz => by simp [(hopening z).mp hz] at hv
  have horder : (s.energise z x tag).energising = s.energising ++ [z] := rfl
  refine ⟨fun y => ?_, fun y => ?_, ?_, hnw⟩
  · rw [State.energise_zone, horder]
    by_cases hy : y = z
    · simp [hy, Zone.opening]
    · simp [hy, hopening]
  · rw [State.energise_zone]
    change y ∈ s.wetOrder ↔ _
    rw [hwet]
    by_cases hy : y = z
    · simp [hy, Zone.opening, hv]
    · simp [hy]
  · rw [horder]
    exact List.nodup_append'.mpr ⟨hne, List.nodup_singleton z, by simpa using hnot⟩

/-- An OPENING channel moves from one order to the end of the other at its entry to WET (R37, R39). -/
theorem State.enterWet_ordersMatch {s : State} {z : ZoneId} (hv : (s.zone z).valve = .opening) (h : s.ordersMatch) : (s.enterWet z).ordersMatch := by
  obtain ⟨hopening, hwet, hne, hnw⟩ := h
  have hnot : z ∉ s.wetOrder := fun hz => by simp [(hwet z).mp hz] at hv
  have he : (s.enterWet z).energising = s.energising.filter fun i => decide (i ≠ z) := rfl
  have hw : (s.enterWet z).wetOrder = s.wetOrder ++ [z] := rfl
  refine ⟨fun y => ?_, fun y => ?_, by rw [he]; exact hne.filter _, ?_⟩
  · rw [State.enterWet_zone, he]
    by_cases hy : y = z <;> simp [hy, hopening]
  · rw [State.enterWet_zone, hw]
    by_cases hy : y = z <;> simp [hy, hwet]
  · rw [hw]
    exact List.nodup_append'.mpr ⟨hnw, List.nodup_singleton z, by simpa using hnot⟩

/-- With the orders matching, a channel stands in one of them exactly while it is open. -/
theorem State.ordersMatch.mem_openChannels {s : State} (h : s.ordersMatch) (z : ZoneId) : z ∈ s.openChannels ↔ (s.zone z).isOpen = true := by
  obtain ⟨hopening, hwet, -, -⟩ := h
  simp [State.openChannels, hopening, hwet, Zone.isOpen]

/-! ### The open flow -/

/-- From `s` to `t` channels have left the orders at most, under the same ceilings, each opened with the programme it was opened with. -/
structure Shrunk (s t : State) : Prop where
  energising : t.energising.Sublist s.energising
  wetOrder : t.wetOrder.Sublist s.wetOrder
  opened : ∀ z, (t.zone z).opened = (s.zone z).opened
  inForce : t.supply.inForce = s.supply.inForce

theorem Shrunk.refl (s : State) : Shrunk s s := ⟨List.Sublist.refl _, List.Sublist.refl _, fun _ => rfl, rfl⟩

theorem Shrunk.trans {s t u : State} (h : Shrunk s t) (k : Shrunk t u) : Shrunk s u :=
  ⟨k.energising.trans h.energising, k.wetOrder.trans h.wetOrder, fun z => (k.opened z).trans (h.opened z), k.inForce.trans h.inForce⟩

theorem Steady.shrunk {s t : State} (q : Steady s t) : Shrunk s t :=
  ⟨by rw [q.energising], by rw [q.wetOrder], fun z => (q.zone z).opened, q.inForce⟩

theorem Shrunk.openChannels {s t : State} (q : Shrunk s t) : t.openChannels.Sublist s.openChannels := q.energising.append q.wetOrder

theorem Shrunk.onHeader {s t : State} (q : Shrunk s t) (z : ZoneId) : (t.zone z).onHeader = (s.zone z).onHeader := by
  funext i
  unfold Zone.onHeader
  rw [q.opened]

theorem Shrunk.openedFlow {s t : State} (q : Shrunk s t) (z : ZoneId) : (t.zone z).openedFlow = (s.zone z).openedFlow := by
  unfold Zone.openedFlow
  rw [q.opened]

theorem sumOver_sublist {α : Type} {l m : List α} (h : l.Sublist m) (f : α → Nat) : sumOver l f ≤ sumOver m f :=
  (h.map f).sum_le_sum fun _ _ => Nat.zero_le _

theorem Shrunk.openFlow_le {s t : State} (q : Shrunk s t) (i : HeaderId) : t.openFlow i ≤ s.openFlow i := by
  unfold State.openFlow
  simp only [q.onHeader, q.openedFlow]
  exact sumOver_sublist (q.openChannels.filter _) _

theorem Shrunk.totalOpenFlow_le {s t : State} (q : Shrunk s t) : t.totalOpenFlow ≤ s.totalOpenFlow := by
  unfold State.totalOpenFlow
  simp only [q.openedFlow]
  exact sumOver_sublist q.openChannels _

/-- Where channels leave the orders at most, the open flow stays within the ceilings (R78). -/
theorem Shrunk.openWithin {s t : State} (q : Shrunk s t) (h : s.openWithin) : t.openWithin := by
  obtain ⟨hheader, htotal⟩ := h
  unfold State.openWithin
  rw [q.inForce]
  exact ⟨fun i => (q.openFlow_le i).trans (hheader i), q.totalOpenFlow_le.trans htotal⟩

theorem State.closeChannel_shrunk (s : State) (z : ZoneId) (e : Ending) : Shrunk s (s.closeChannel z e) := by
  by_cases ho : (s.zone z).isOpen = true
  · obtain ⟨-, -, -, -, -, he, hw⟩ := State.closeChannel_channel (s := s) e ho
    refine ⟨by rw [he]; exact List.filter_sublist, by rw [hw]; exact List.filter_sublist, fun y => ?_, ?_⟩
    · rw [State.closeChannel_zones]
      split
      · rename_i hy
        rw [hy.1, (s.closedZone_keeps e z).2.1]
      · rfl
    · rw [(s.closeChannel_quiet z e).supply]
  · rw [State.closeChannel_shut s e (by simpa using ho)]
    exact .refl s

/-! ### The shed walk -/

theorem State.shed_shrunk (s : State) (port : Option Port) (z : ZoneId) : Shrunk s (s.shed port z) :=
  (s.closeChannel_shrunk z .shed).trans (State.post_steady _ _ _ _ _ _).shrunk

theorem State.shedStep_shrunk (s : State) (port : Option Port) (z : ZoneId) : Shrunk s (s.shedStep port z) := by
  unfold State.shedStep
  split
  · exact s.shed_shrunk port z
  · exact .refl s

/-- A flow that exceeds its ceiling after channels have left exceeded it before (R85). -/
theorem Shrunk.channelOver {s t : State} (q : Shrunk s t) {z : ZoneId} (h : t.channelOver z = true) : s.channelOver z = true := by
  have htotal : t.totalOver = true → s.totalOver = true := fun h => by
    unfold State.totalOver at h ⊢
    rw [q.inForce] at h
    exact decide_eq_true ((of_decide_eq_true h).trans_le q.totalOpenFlow_le)
  have hheader : ∀ i, t.headerOver i = true → s.headerOver i = true := fun i h => by
    unfold State.headerOver at h ⊢
    rw [q.inForce] at h
    exact decide_eq_true ((of_decide_eq_true h).trans_le (q.openFlow_le i))
  have hopened : (t.zone z).openedHeader = (s.zone z).openedHeader := by unfold Zone.openedHeader; rw [q.opened]
  unfold State.channelOver at h ⊢
  rw [hopened] at h
  rw [Bool.or_eq_true] at h ⊢
  refine h.imp htotal fun h => ?_
  cases hi : (s.zone z).openedHeader with
  | none => simp [hi] at h
  | some i =>
    rw [hi] at h
    exact hheader i h

/-- A channel that is over makes some flow exceed its ceiling. -/
theorem State.anyOver_of_channelOver {s : State} {z : ZoneId} (h : s.channelOver z = true) : s.anyOver = true := by
  unfold State.channelOver at h
  unfold State.anyOver
  rw [Bool.or_eq_true] at h ⊢
  refine h.imp id fun h => ?_
  cases hi : (s.zone z).openedHeader with
  | none => simp [hi] at h
  | some i =>
    rw [hi] at h
    exact List.any_eq_true.mpr ⟨i, List.mem_finRange i, h⟩

/-- A turn of the walk leaves its channel out of the orders, or not over (R85). -/
theorem State.shedStep_settles {s : State} (h : s.ordersMatch) (port : Option Port) (z : ZoneId) :
    z ∉ (s.shedStep port z).openChannels ∨ (s.shedStep port z).channelOver z = false := by
  unfold State.shedStep
  by_cases ho : s.channelOver z = true
  · rw [ho, State.anyOver_of_channelOver ho]
    have hmatch : (s.shed port z).ordersMatch :=
      (State.post_steady _ _ _ _ _ _).toStanding.ordersMatch (s.closeChannel_ordersMatch z .shed h)
    refine .inl fun hz => ?_
    have hopen := (hmatch.mem_openChannels z).mp hz
    unfold State.shed at hopen
    dsimp only at hopen
    rw [State.post_zone, State.closeChannel_isOpen] at hopen
    simp at hopen
  · have ho : s.channelOver z = false := by simpa using ho
    rw [ho, Bool.and_false]
    exact .inr ho

/-- Along a walk every channel that had its turn is out of the orders, or not over (R85). -/
theorem State.shedSteps_settle (port : Option Port) (zs : List ZoneId) {s : State} (h : s.ordersMatch) :
    let t := s.forZones zs fun z t => t.shedStep port z
    Shrunk s t ∧ ∀ z ∈ zs, z ∉ t.openChannels ∨ t.channelOver z = false := by
  induction zs generalizing s with
  | nil => exact ⟨.refl s, fun z hz => by cases hz⟩
  | cons z rest ih =>
    have hmatch : (s.shedStep port z).ordersMatch := by
      unfold State.shedStep
      split
      · exact (State.post_steady _ _ _ _ _ _).toStanding.ordersMatch (s.closeChannel_ordersMatch z .shed h)
      · exact h
    obtain ⟨hshrunk, hrest⟩ := ih hmatch
    refine ⟨(s.shedStep_shrunk port z).trans hshrunk, fun y hy => ?_⟩
    rcases List.mem_cons.mp hy with rfl | hy
    · rcases State.shedStep_settles h port y with hout | hunder
      · exact .inl fun k => hout (hshrunk.openChannels.subset k)
      · exact .inr (Bool.eq_false_iff.mpr fun k => by simp [hshrunk.channelOver k] at hunder)
    · exact hrest y hy

theorem sumOver_pos {α : Type} {l : List α} {f : α → Nat} (h : 0 < sumOver l f) : ∃ a, a ∈ l := by
  cases l with
  | nil => cases h
  | cons a _ => exact ⟨a, List.mem_cons_self ..⟩

/-- Where no open channel is over, the open flows are within the ceilings (R78). -/
theorem State.openWithin_of_noneOver {s : State} (h : ∀ z ∈ s.openChannels, s.channelOver z = false) : s.openWithin := by
  refine ⟨fun i => ?_, ?_⟩
  · by_contra hi
    obtain ⟨z, hz⟩ := sumOver_pos (Nat.zero_lt_of_lt (Nat.lt_of_not_le hi))
    obtain ⟨hz, hon⟩ := List.mem_filter.mp hz
    have hover : s.headerOver i = true := decide_eq_true (Nat.lt_of_not_le hi)
    have hunder := h z hz
    rw [State.channelOver, ((s.zone z).onHeader_iff i).mp hon] at hunder
    simp [hover] at hunder
  · by_contra hi
    obtain ⟨z, hz⟩ := sumOver_pos (Nat.zero_lt_of_lt (Nat.lt_of_not_le hi))
    have hover : s.totalOver = true := decide_eq_true (Nat.lt_of_not_le hi)
    have hunder := h z hz
    simp [State.channelOver, hover] at hunder

/-- The shed walk ends with every open flow within its ceiling (R85). -/
theorem State.shedWalk_openWithin {s : State} (port : Option Port) (h : s.ordersMatch) : (s.shedWalk port).openWithin := by
  obtain ⟨hshrunk, hsettled⟩ := State.shedSteps_settle port s.shedOrder h
  refine State.openWithin_of_noneOver fun z hz => ?_
  have hin : z ∈ s.shedOrder := by
    have := hshrunk.openChannels.subset hz
    simpa [State.shedOrder, State.openChannels] using this
  exact (hsettled z hin).resolve_left fun k => k hz

/-! ### The law -/

/-- The law of R37 and R78 together. -/
def State.flowsOrdered (s : State) : Prop := s.ordersMatch ∧ s.openWithin

theorem keptByClosing_flowsOrdered : KeptByClosing State.flowsOrdered where
  steady := fun q h => ⟨q.toStanding.ordersMatch h.1, q.shrunk.openWithin h.2⟩
  close := fun s z e h => ⟨s.closeChannel_ordersMatch z e h.1, (s.closeChannel_shrunk z e).openWithin h.2⟩
  ceilings := fun _ _ port q h =>
    have hmatch := q.ordersMatch h.1
    ⟨State.shedWalk_ordersMatch port hmatch, State.shedWalk_openWithin port hmatch⟩

/-- Entry to WET moves a channel from one order to the other, so that the open flow is as it was. -/
theorem State.enterWet_flowsOrdered {s : State} {z : ZoneId} (hv : (s.zone z).valve = .opening) (h : s.flowsOrdered) :
    (s.enterWet z).flowsOrdered := by
  obtain ⟨hmatch, hheader, htotal⟩ := h
  have hz : z ∈ s.energising := (hmatch.1 z).mpr hv
  have hopened : ∀ y, ((s.enterWet z).zone y).opened = (s.zone y).opened := fun y => by
    rw [State.enterWet_zone]
    split
    · rename_i hy
      rw [hy]
    · rfl
  have hon : ∀ y, ((s.enterWet z).zone y).onHeader = (s.zone y).onHeader := fun y => by
    funext i
    unfold Zone.onHeader
    rw [hopened]
  have hflow : ∀ y, ((s.enterWet z).zone y).openedFlow = (s.zone y).openedFlow := fun y => by
    unfold Zone.openedFlow
    rw [hopened]
  have hperm : (s.enterWet z).openChannels.Perm s.openChannels := by
    have hcut : s.energising.Perm (z :: s.energising.filter fun i => decide (i ≠ z)) := by
      have herase := hmatch.2.2.1.erase_eq_filter z
      have hsame : (s.energising.filter fun i => decide (i ≠ z)) = s.energising.filter (· != z) := by
        congr 1
        funext i
        simp [bne, BEq.beq]
      rw [hsame, ← herase]
      exact List.perm_cons_erase hz
    change (s.energising.filter (fun i => decide (i ≠ z)) ++ (s.wetOrder ++ [z])).Perm (s.energising ++ s.wetOrder)
    refine List.Perm.trans ?_ (hcut.symm.append_right s.wetOrder)
    rw [← List.append_assoc]
    exact List.perm_append_singleton z _
  refine ⟨State.enterWet_ordersMatch hv hmatch, fun i => ?_, ?_⟩
  · have hsum : (s.enterWet z).openFlow i = s.openFlow i := by
      unfold State.openFlow sumOver
      simp only [hon, hflow]
      exact ((hperm.filter _).map _).sum_eq
    rw [hsum]
    exact hheader i
  · have hsum : (s.enterWet z).totalOpenFlow = s.totalOpenFlow := by
      unfold State.totalOpenFlow sumOver
      simp only [hflow]
      exact (hperm.map _).sum_eq
    rw [hsum]
    exact htotal

/-- The shed walk at the OPENING report brings the open flow within the ceilings again (R87). -/
theorem State.openChannel_flowsOrdered {s : State} {z : ZoneId} {tag : UseTag} (h : s.flowsOrdered) : (s.openChannel z tag).flowsOrdered := by
  refine State.openChannel_keeps (fun x _ hv _ => ?_) (fun _ => State.enterWet_flowsOrdered) h
  have hmatch : ((s.energise z x tag).raiseCommitted ⟨x.header, x.flow⟩).ordersMatch := State.energise_ordersMatch x tag hv h.1
  exact keptByClosing_flowsOrdered.updMeter
    ⟨State.shedWalk_ordersMatch none hmatch, State.shedWalk_openWithin none hmatch⟩

/-- A change of valves and orders that leaves ceilings and opened programmes keeps the law where it keeps the orders and no channel joins one. -/
theorem Shrunk.flowsOrdered {s t : State} (q : Shrunk s t) (h : s.flowsOrdered) (hmatch : t.ordersMatch) : t.flowsOrdered :=
  ⟨hmatch, q.openWithin h.2⟩

theorem State.setLockout_flowsOrdered {s : State} (z : ZoneId) (l : Lockout) (h : s.flowsOrdered) : (s.setLockout z l).flowsOrdered := by
  have hzone : ∀ y, ((s.setLockout z l).zone y).valve = (s.zone y).valve ∧ ((s.setLockout z l).zone y).opened = (s.zone y).opened := fun y => by
    rw [State.setLockout_zone]
    split
    · rename_i hy
      rw [hy.1]
      exact ⟨rfl, rfl⟩
    · exact ⟨rfl, rfl⟩
  obtain ⟨he, hw, hi⟩ : (s.setLockout z l).energising = s.energising ∧ (s.setLockout z l).wetOrder = s.wetOrder ∧
      (s.setLockout z l).supply = s.supply := by
    unfold State.setLockout
    dsimp only
    split <;> simp
  exact Shrunk.flowsOrdered ⟨by rw [he], by rw [hw], fun y => (hzone y).2, by rw [hi]⟩ h (State.ordersMatch_of h.1 (fun y => (hzone y).1) he hw)

/-- R37 and R78: an opening and a change of the ceilings are followed by the shed walk, and everything else lets channels leave the orders at most. -/
theorem channelLaw_flowsOrdered : ChannelLaw State.flowsOrdered where
  toKeptByClosing := keptByClosing_flowsOrdered
  openZone := fun _ _ _ _ => State.openChannel_flowsOrdered
  edit := fun s z e h => by
    have he : (s.applyEdit z e).energising = s.energising := by rw [State.applyEdit_eq]
    have hw : (s.applyEdit z e).wetOrder = s.wetOrder := by rw [State.applyEdit_eq]
    have hi : (s.applyEdit z e).supply.inForce = s.supply.inForce := by rw [State.applyEdit_eq]
    exact Shrunk.flowsOrdered ⟨by rw [he], by rw [hw], fun y => (s.applyEdit_channel z e y).2.2, hi⟩ h
      (State.ordersMatch_of h.1 (fun y => (s.applyEdit_channel z e y).1) he hw)
  wet := fun _ _ => State.enterWet_flowsOrdered
  arrive := fun s z hclosed h => by
    have hopened : ∀ y, ((s.updZone z Zone.shut).zone y).opened = (s.zone y).opened := fun y => by
      rw [State.zone_updZone]
      split
      · rename_i hy; rw [hy]; rfl
      · rfl
    have hout : z ∉ s.energising ∧ z ∉ s.wetOrder := by
      have hz := (h.1.mem_openChannels z).not.mpr (by simp [hclosed])
      simpa [State.openChannels] using hz
    have hshrunk : Shrunk s (s.updZone z Zone.shut) := ⟨List.Sublist.refl _, List.Sublist.refl _, hopened, rfl⟩
    refine hshrunk.flowsOrdered h
      (State.ordersMatch_leave z h.1 (by rw [State.zone_updZone_same]; rfl) (fun y hy => ?_) (filter_ne_of_notMem hout.1).symm (filter_ne_of_notMem hout.2).symm)
    rw [State.zone_updZone_other _ _ hy]
  fault := fun s z _ h => by
    have hzone : ∀ y, ((s.updZone z Zone.shut).leaveOrders z).zone y = if y = z then (s.zone z).shut else s.zone y := fun y => by
      rw [State.leaveOrders_zone, State.zone_updZone]
    have hopened : ∀ y, (((s.updZone z Zone.shut).leaveOrders z).zone y).opened = (s.zone y).opened := fun y => by
      rw [hzone]
      split
      · rename_i hy; rw [hy]; rfl
      · rfl
    have hshrunk : Shrunk s ((s.updZone z Zone.shut).leaveOrders z) := ⟨List.filter_sublist, List.filter_sublist, hopened, rfl⟩
    exact hshrunk.flowsOrdered h
      (State.ordersMatch_leave z h.1 (by rw [hzone, if_pos rfl]; rfl) (fun y hy => by rw [hzone, if_neg hy]) rfl rfl)
  lock := fun s z l _ h => State.setLockout_flowsOrdered z l h
  lockOpen := fun s z l _ h => keptByClosing_flowsOrdered.close _ z .lockout (State.setLockout_flowsOrdered z l h)
  unlock := fun s z h => by
    have hzone : ∀ y, ((s.updZone z fun x => { x with lockout := none }).zone y).valve = (s.zone y).valve ∧
        ((s.updZone z fun x => { x with lockout := none }).zone y).opened = (s.zone y).opened := fun y => by
      rw [State.zone_updZone]
      split
      · rename_i hy; rw [hy]; exact ⟨rfl, rfl⟩
      · exact ⟨rfl, rfl⟩
    have hshrunk : Shrunk s (s.updZone z fun x => { x with lockout := none }) :=
      ⟨List.Sublist.refl _, List.Sublist.refl _, fun y => (hzone y).2, rfl⟩
    exact hshrunk.flowsOrdered h (State.ordersMatch_of h.1 (fun y => (hzone y).1) rfl rfl)
  stop := fun s c h => keptByClosing_flowsOrdered.closeAll h
  resume := fun _ _ _ _ h => h
  cleared := fun s hshut he hw => by
    have hnone : s.openChannels = [] := by unfold State.openChannels; rw [he, hw]; rfl
    exact ⟨by simp [State.ordersMatch, hshut, he, hw], State.openWithin_of_noneOver fun z hz => by simp [hnone] at hz⟩

end Sys2Proof.Machine

open Sys2Proof Sys2Proof.Machine

/-- Settles O11: the two laws together are kept by every event that moves a channel (`ChannelLaw.step`). -/
theorem everyStepKeepsOpenFlowWithinCeilings : Obligations.EveryStepKeepsOpenFlowWithinCeilings :=
  fun _ _ h he => channelLaw_flowsOrdered.step h he

end

section
/-! Lockout requests, CLOSE-ZONE and CLEAR-LOCKOUT: one close command or one run of triage, with all that they leave (R44 to R48). -/

namespace Sys2Proof.Machine

variable (s : State) (z : ZoneId)

/-! ### A close command of an open channel -/

/-- A close command of an open channel changes zone records, meters, the orders and, where it suspends a visit, the suspended list (R40, R133). -/
theorem State.closeChannel_eq (e : Ending) (ho : (s.zone z).isOpen = true) :
    s.closeChannel z e =
      { s with
        zones := (s.closeChannel z e).zones
        meters := (s.closeChannel z e).meters
        energising := s.energising.filter fun i => decide (i ≠ z)
        wetOrder := s.wetOrder.filter fun i => decide (i ≠ z)
        planner := { s.planner with
          suspended := s.planner.suspended ++
            if (s.zone z).useTag = some .quota ∧ (s.zone z).visit = .openVisit ∧ z ∈ s.ring ∧ e ∈ [Ending.windowClosed, .shed, .stop, .preemption]
            then [z] else [] } } := by
  obtain ⟨-, -, hframe⟩ := s.closeChannel_channelsClosed e z
  have hpick : ∀ y, (decide (y = z) && (s.zone y).isOpen) = decide (y = z) := fun y => by
    by_cases hy : y = z
    · simp [hy, ho]
    · simp [hy]
  have hout : ∀ y, (!decide (y = z)) = decide (y ≠ z) := fun y => by simp
  simp only [hpick, hout, filter_zoneIds_single, decide_eq_true_eq] at hframe
  exact hframe

/-- The same with a cause that suspends no visit. -/
theorem State.closeChannel_frame (e : Ending) (ho : (s.zone z).isOpen = true) (he : e ∉ [Ending.windowClosed, .shed, .stop, .preemption]) :
    s.closeChannel z e =
      { s with
        zones := (s.closeChannel z e).zones
        meters := (s.closeChannel z e).meters
        energising := s.energising.filter fun i => decide (i ≠ z)
        wetOrder := s.wetOrder.filter fun i => decide (i ≠ z) } := by
  have hclosed := s.closeChannel_eq z e ho
  rw [if_neg fun k => he k.2.2.2, List.append_nil] at hclosed
  exact hclosed

/-- The record after a close command, but for the parts of the dry clock and of the visits (R37, R40). -/
theorem State.closedZone_fixed (e : Ending) :
    ∃ (dry : Nat) (v : VisitStatus) (target guard dwell : Option Nat) (volume cycles : Nat) (frost : Bool),
      s.closedZone z e =
        { (s.zone z).closing e with
          dryClock := dry, visit := v, visitTarget := target, visitVolume := volume, guardTimer := guard, cyclesRemaining := cycles
          frostVisit := frost, dwellRemaining := dwell } := by
  unfold State.closedZone Zone.closing
  rw [Zone.closeSeconds_eq]
  dsimp only
  rcases (s.zone z).useTag with _ | (_ | _ | _)
  · exact ⟨_, _, _, _, _, _, _, _, rfl⟩
  · by_cases hv : (s.zone z).visit = .openVisit
    · simp only [hv, if_true]
      by_cases hz : z ∈ s.ring
      · simp only [hz, if_true]
        cases e <;> exact ⟨_, _, _, _, _, _, _, _, rfl⟩
      · simp only [hz, if_false]
        cases e <;> exact ⟨_, _, _, _, _, _, _, _, rfl⟩
    · simp only [hv, if_false]
      exact ⟨_, _, _, _, _, _, _, _, rfl⟩
  · exact ⟨_, _, _, _, _, _, _, _, rfl⟩
  · exact ⟨_, _, _, _, _, _, _, _, rfl⟩

/-- An OPEN visit on a QUOTA channel that CLOSE-ZONE or a lockout ends is dropped and costs no cycle (R133, R136). -/
theorem State.closedZone_dropped {e : Ending} (he : e = .closeZone ∨ e = .lockout) (ht : (s.zone z).useTag = some .quota)
    (hv : (s.zone z).visit = .openVisit) :
    (s.closedZone z e).visit = .noVisit ∧ (s.closedZone z e).visitTarget = none ∧ (s.closedZone z e).visitVolume = 0 := by
  unfold State.closedZone
  simp only [ht, hv, if_true]
  rcases he with rfl | rfl <;> exact ⟨rfl, rfl, rfl⟩

/-- An OPEN visit on a QUOTA channel of the ring that is shed is suspended, with its target and volume (R133, R135). -/
theorem State.closedZone_shed (ht : (s.zone z).useTag = some .quota) (hv : (s.zone z).visit = .openVisit) (hz : z ∈ s.ring) :
    (s.closedZone z .shed).visit = .suspended ∧ (s.closedZone z .shed).visitTarget = (s.zone z).visitTarget ∧
      (s.closedZone z .shed).visitVolume = (s.zone z).visitVolume := by
  simp [State.closedZone, ht, hv, hz]

/-- CLOSE-ZONE and a lockout leave the remaining cycles, whatever the use tag is (R133, R136). -/
theorem State.closedZone_cyclesRemaining {e : Ending} (he : e = .closeZone ∨ e = .lockout) :
    (s.closedZone z e).cyclesRemaining = (s.zone z).cyclesRemaining := by
  unfold State.closedZone
  dsimp only
  rcases (s.zone z).useTag with _ | (_ | _ | _)
  · rfl
  · by_cases hv : (s.zone z).visit = .openVisit
    · simp only [hv, if_true]
      rcases he with rfl | rfl <;> rfl
    · simp only [hv, if_false]
  · rfl
  · rfl

/-- A frost visit ends with its channel (R162). -/
theorem State.closedZone_frost (e : Ending) (ht : (s.zone z).useTag = some .frost) :
    (s.closedZone z e).frostVisit = false ∧ (s.closedZone z e).dwellRemaining = none := by
  simp [State.closedZone, ht]

/-! ### Triage at a lockout and at its removal -/

/-- The statement's frost candidate but for a lockout (R154). -/
theorem Zone.frostMember_iff (x : Zone) : x.frostMember = true ↔ ∃ v, x.programme = some v ∧ v.enabled = true ∧ v.frostMember = true := by
  unfold Zone.frostMember
  cases x.programme <;> simp

/-- Triage reruns while frost is armed, where a condition on the zone holds (R158). -/
theorem State.retriage_if {b : Bool} {c : Prop} [Decidable c] (hc : b = true ↔ c) :
    (if b then s.retriage else s) = if s.climate.frost ≠ .disarmed ∧ c then s.triage else s := by
  unfold State.retriage
  by_cases h : c
  · rw [if_pos (hc.mpr h)]
    by_cases ha : s.armed = true
    · rw [if_pos ha, if_pos ⟨s.armed_iff.mp ha, h⟩]
    · rw [if_neg ha, if_neg fun k => ha (s.armed_iff.mpr k.1)]
  · rw [if_neg (hc.not.mpr h), if_neg fun k => h k.2]

/-- The admitted sets of two states agree where every zone is admitted in both or in neither. -/
theorem State.admittedSet_eq_iff (s t : State) : t.admittedSet = s.admittedSet ↔ ∀ y, (t.zone y).admitted = (s.zone y).admitted := by
  unfold State.admittedSet
  refine ⟨fun h y => Bool.eq_iff_iff.mpr ?_, fun h => by simp only [h]⟩
  have hmem : y ∈ zoneIds.filter (fun z => (t.zone z).admitted) ↔ y ∈ zoneIds.filter (fun z => (s.zone z).admitted) := by rw [h]
  simpa [zoneIds] using hmem

/-! ### Lockout requests -/

/-- The lockout set on a zone without one, in the statement's form (R44). -/
theorem State.setLockout_fresh (k : Lockout) (h : (s.zone z).lockout = none) :
    s.setLockout z k =
      State.post (s.updZone z fun x => { x with lockout := some k, lockedSinceOpen := true }) .zoneLocked (some z)
        ((s.zone z).opened.map (·.header)) none (some (match k with | .driveFault => 1 | .noFlow => 2 | .burst => 3)) := by
  unfold State.setLockout
  dsimp only
  rw [if_pos h]
  cases k <;> rfl

/-- What a lockout request does to a zone without a lockout, by its valve state (R45). -/
theorem State.requestLockout_fresh (k : Lockout) (h : (s.zone z).lockout = none) :
    s.requestLockout z k =
      if (s.zone z).isOpen then (s.setLockout z k).closeChannel z .lockout
      else if (s.zone z).valve = .closing then s.setLockout z k
      else (s.setLockout z k).lockoutWhileShut z := by
  unfold State.requestLockout Zone.isOpen
  dsimp only
  rw [if_pos h]
  cases (s.zone z).valve <;> rfl

/-! ### CLOSE-ZONE and CLEAR-LOCKOUT -/

variable {s z} in
/-- CLOSE-ZONE of a zone completes with the answer of its run. -/
theorem exec_closeZone_answered {p : Port} {t : State} {a : Answer} (h : s.completing p (.closeZone z)) (hrun : s.runCloseZone z = (t, a))
    (hk : t.inHand p (.closeZone z) none (s.port p).replies) (hc : a.code ≠ .lineError) :
    exec (.closeZone p z) s = .next (t.answer p (.closeZone z) a.code a.clamped a.payload) :=
  congrArg Host.Outcome.next
    (State.complete_answered (run := fun t => withIndex 32 z t fun z => t.runCloseZone z) h ((withIndex_val z s _).trans hrun) hk hc)

variable {s z} in
/-- CLEAR-LOCKOUT of a zone completes with the answer of its run. -/
theorem exec_clearLockout_answered {p : Port} {t : State} {a : Answer} (h : s.completing p (.clearLockout z)) (hrun : s.runClearLockout z = (t, a))
    (hk : t.inHand p (.clearLockout z) none (s.port p).replies) (hc : a.code ≠ .lineError) :
    exec (.clearLockout p z) s = .next (t.answer p (.clearLockout z) a.code a.clamped a.payload) :=
  congrArg Host.Outcome.next
    (State.complete_answered (run := fun t => withIndex 32 z t fun z => t.runClearLockout z) h ((withIndex_val z s _).trans hrun) hk hc)

theorem State.runCloseZone_open (h : (s.zone z).isOpen = true) {tag : UseTag} (ht : (s.zone z).useTag = some tag) :
    s.runCloseZone z = (s.closeChannel z .closeZone, .result [BitVec.ofNat 8 tag.number]) := by
  unfold State.runCloseZone
  rw [if_pos h, ht]
  rfl

theorem State.runCloseZone_shut (h : (s.zone z).isOpen = false) : s.runCloseZone z = (s, .plain .already) := by
  simp [State.runCloseZone, h]

theorem State.runClearLockout_busy (h : (s.zone z).valve ≠ .shut) : s.runClearLockout z = (s, .plain .busy) := by
  simp [State.runClearLockout, h]

theorem State.runClearLockout_already (h : (s.zone z).valve = .shut) (hl : (s.zone z).lockout = none) :
    s.runClearLockout z = (s, .plain .already) := by
  simp [State.runClearLockout, h, hl]

theorem State.runClearLockout_done (h : (s.zone z).valve = .shut) {k : Lockout} (hl : (s.zone z).lockout = some k) :
    s.runClearLockout z = (s.removeLockout z, .result [BitVec.ofNat 8 k.number]) := by
  simp [State.runClearLockout, h, hl, natBytes]

/-- The lockout removed, triage rerun where frost is armed and the zone is then a frost candidate, and a selection (R47, R158). -/
theorem State.removeLockout_eq :
    s.removeLockout z =
      let t := s.updZone z fun x => { x with lockout := none }
      if s.climate.frost ≠ .disarmed ∧ (∃ v, (s.zone z).programme = some v ∧ v.enabled = true ∧ v.frostMember = true) then t.triage.select
      else t.select := by
  have hcandidate : ((s.updZone z fun x => { x with lockout := none }).zone z).frostCandidate = true ↔
      ∃ v, (s.zone z).programme = some v ∧ v.enabled = true ∧ v.frostMember = true := by
    rw [Zone.frostCandidate_iff, State.zone_updZone_same]
    simp only [true_and]
  unfold State.removeLockout
  dsimp only
  rw [State.retriage_if _ hcandidate]
  exact apply_ite State.select _ _ _

/-- The removal of a lockout leaves the directive in hand. -/
theorem State.removeLockout_inHand {p : Port} {d : Directive} {m : Option Bool} {rs : List Reply} (hd : d.isSupply = false) (h : s.inHand p d m rs) :
    (s.removeLockout z).inHand p d m rs := by
  rw [State.removeLockout_eq]
  dsimp only
  split
  · exact State.select_inHand hd ((State.triage_judged _).inHand h)
  · exact State.select_inHand hd h

end Sys2Proof.Machine

open Sys2Proof Sys2Proof.Machine

/-- Settles O1: the queue's front decides, and an empty queue leaves the lockout requests, which the RESET line holds back. -/
theorem stepRunsTheFrontCommand : Obligations.StepRunsTheFrontCommand := by
  refine ⟨fun c s rest h => step_cons h, fun s h => ⟨fun hidle => ?_, fun z k rest hr hreset => ?_⟩⟩
  · rw [step_nil h]
    rcases s.takeLockoutRequest_cases with hsame | ⟨r, rest, hreset, hr, -⟩
    · rw [hsame]
    · rcases hidle with hnone | hlow
      · simp [hnone] at hr
      · simp [hlow] at hreset
  · rw [step_nil h]
    simp [State.takeLockoutRequest, hr, State.live, hreset]

/-- Settles O59: the lockout is set, and then the valve state decides between a close command, nothing, and the rerun of triage. -/
theorem lockoutRequestActsOnTheZoneAsItFindsIt : Obligations.LockoutRequestActsOnTheZoneAsItFindsIt := by
  intro s z k
  refine ⟨fun h => State.requestLockout_locked h k, fun hfree t ht => ?_⟩
  replace ht : t = s.setLockout z k := ht.trans (State.setLockout_fresh s z k hfree).symm
  have hrequest := State.requestLockout_fresh s z k hfree
  have hzones : ∀ y, t.zone y = if y = z then { s.zone z with lockout := some k, lockedSinceOpen := true } else s.zone y := fun y => by
    rw [ht, State.setLockout_zone]
    simp only [hfree, and_true]
  have hzone := (hzones z).trans (if_pos rfl)
  have hclimate : t.climate = s.climate := by rw [ht, State.setLockout_fresh s z k hfree]; simp
  rw [← ht] at hrequest
  refine ⟨fun hv => ?_, fun hv => ?_, fun ho u hu => ?_⟩
  · rw [hrequest]
    simp [Zone.isOpen, hv]
  · have hmember : (t.zone z).frostMember = true ↔ ∃ v, (s.zone z).programme = some v ∧ v.enabled = true ∧ v.frostMember = true := by
      rw [Zone.frostMember_iff, hzone]
    have hadmitted : ∀ y, (t.zone y).admitted = (s.zone y).admitted := fun y => by
      rw [hzones]
      split
      · rename_i hy
        rw [hy]
      · rfl
    have hset : t.admittedSet = s.admittedSet := (State.admittedSet_eq_iff s t).mpr hadmitted
    have hshut : t.lockoutWhileShut z = s.requestLockout z k := by
      rw [hrequest]
      simp [Zone.isOpen, hv]
    rw [← hshut]
    unfold State.lockoutWhileShut
    dsimp only
    rw [State.retriage_if t hmember, hclimate]
    split
    · rw [hset]
      by_cases hsame : ∀ y, (t.triage.zone y).admitted = (s.zone y).admitted
      · rw [if_pos hsame, if_pos ((State.admittedSet_eq_iff s _).mpr hsame)]
      · rw [if_neg hsame, if_neg fun hk => hsame ((State.admittedSet_eq_iff s _).mp hk)]
    · exact if_pos rfl
  · have hopen : (t.zone z).isOpen = true := by
      rw [hzone]
      exact ho
    have hclosed : u = t.closeChannel z .lockout := by rw [hu, hrequest, if_pos ho]
    have hrecord : u.zone z = t.closedZone z .lockout := by rw [hclosed, State.closeChannel_zone t .lockout hopen]
    have hframe := t.closeChannel_frame z .lockout hopen (by decide)
    obtain ⟨henergising, hwet⟩ : t.energising = s.energising ∧ t.wetOrder = s.wetOrder := by
      rw [ht, State.setLockout_fresh s z k hfree]
      simp
    rw [← hclosed, henergising, hwet] at hframe
    refine ⟨hframe, fun y hy => ?_, hclosed ▸ t.closeChannel_channelsClosed .lockout z, ?_⟩
    · rw [hclosed, State.closeChannel_zone_other t .lockout hy, hzones, if_neg hy]
    · rw [hrecord]
      have hvisit := State.closedZone_dropped t z (.inr rfl)
      have hcycles := State.closedZone_cyclesRemaining t z (.inr rfl)
      have hfrost := t.closedZone_frost z .lockout
      obtain ⟨_, _, _, _, _, _, _, _, hfixed⟩ := t.closedZone_fixed z .lockout
      rw [hzone] at hvisit hcycles hfrost hfixed
      refine ⟨by rw [hfixed]; rfl, by rw [hfixed]; rfl, by rw [hfixed]; rfl, by rw [hfixed]; rfl, by rw [hfixed]; rfl, by rw [hfixed]; rfl, ?_, hcycles, ?_,
        hfrost⟩
      · rw [hfixed]
        exact congrArg some (Zone.closeSeconds_eq _)
      · intro htag hv
        obtain ⟨hnone, htarget, -⟩ := hvisit htag hv
        exact ⟨hnone, htarget⟩

/-- Settles O60: each directive answers by the valve state and the lockout, and what it does is one close command, or one removal with its selection. -/
theorem closeZoneAndClearLockoutAct : Obligations.CloseZoneAndClearLockoutAct := by
  refine fun s p => ⟨fun n hn => ⟨fun h => ?_, fun h => ?_⟩, fun z h => ⟨fun hshut => ?_, fun tag ho htag => ?_⟩,
    fun z h => ⟨fun hv => ?_, fun hv hl => ?_, fun k hv hl t ht => ?_⟩⟩
  · exact congrArg Host.Outcome.next
      (State.complete_named (run := fun t => withIndex 32 n t fun z => t.runCloseZone z) h (withIndex_above hn s _) (by decide))
  · exact congrArg Host.Outcome.next
      (State.complete_named (run := fun t => withIndex 32 n t fun z => t.runClearLockout z) h (withIndex_above hn s _) (by decide))
  · exact exec_closeZone_answered h (s.runCloseZone_shut z hshut) h.inHand (by decide)
  · refine ⟨s.closeChannel z .closeZone, exec_closeZone_answered h (s.runCloseZone_open z ho htag)
      ((s.closeChannel_quiet z .closeZone).inHand h.inHand) (by simp [Answer.result]), ?_⟩
    have hchannel := s.closeChannel_channelsClosed .closeZone z
    have hother := fun y hy => s.closeChannel_zone_other (z := z) .closeZone (z' := y) hy
    have hrecord := State.closeChannel_zone s .closeZone ho
    have hframe := s.closeChannel_frame z .closeZone ho (by decide)
    have hvisit := s.closedZone_dropped z (.inl rfl)
    have hcycles := s.closedZone_cyclesRemaining z (.inl rfl)
    have hfrost := s.closedZone_frost z .closeZone
    obtain ⟨_, _, _, _, _, _, _, _, hfixed⟩ := s.closedZone_fixed z .closeZone
    generalize s.closeChannel z .closeZone = u at *
    have htimer : (u.zone z).closeTimer = (s.zone z).programme.elim (some 0) (fun x => some x.closing) := by
      rw [hrecord, hfixed]
      refine (congrArg some (Zone.closeSeconds_eq _)).trans ?_
      cases (s.zone z).programme <;> rfl
    rw [hrecord] at htimer ⊢
    refine ⟨by rw [hfixed]; rfl, by rw [hfixed]; rfl, by rw [hfixed]; exact htag, htimer, by rw [hfixed]; rfl, by rw [hfixed]; rfl, ?_, ?_, ?_⟩
    · rintro rfl hv
      obtain ⟨hnone, htarget, hvolume⟩ := hvisit htag hv
      exact ⟨hnone, htarget, hvolume, hcycles⟩
    · rintro rfl
      exact hfrost htag
    · rw [hframe] at hchannel hother ⊢
      exact ⟨rfl, rfl, rfl, rfl, rfl, rfl, rfl, rfl, rfl, rfl, rfl, hchannel, hother⟩
  · exact exec_clearLockout_answered h (s.runClearLockout_busy z hv) h.inHand (by decide)
  · exact exec_clearLockout_answered h (s.runClearLockout_already z hv hl) h.inHand (by decide)
  · have hanswer := exec_clearLockout_answered h (s.runClearLockout_done z hv hl) (s.removeLockout_inHand z rfl h.inHand)
      (by simp [Answer.result])
    rw [State.removeLockout_eq] at hanswer
    subst ht
    exact hanswer

end

section
/-! What a second counts (R92; log entry 2). -/

namespace Sys2Proof.Machine

/-- Below the last second of the day the second of day rises (R92). -/
theorem Clock.advance_within {c : Clock} (h : c.second < 86399) : c.advance = { c with second := c.second + 1 } := if_pos h

/-- Past the last second of the day the day count rises, and wraps (R92). -/
theorem Clock.advance_midnight {c : Clock} (h : c.second = 86399) :
    c.advance = { c with second := 0, day := if c.day = 65535 then 0 else (c.day + 1) % 65536 } := by
  have hday : wrapAdd Config.countTop c.day 1 = if c.day = 65535 then 0 else (c.day + 1) % 65536 := by
    split
    · rename_i hd
      rw [hd]
      rfl
    · rfl
  unfold Clock.advance
  rw [if_neg (by simp [h, Config.lastSecond]), hday]

/-- A second that is no minute change moves the clock and does nothing else to it (R92). -/
theorem State.advanceClock_within_minute {s : State} (h : s.clock.advance.second % 60 ≠ 0) : s.advanceClock = { s with clock := s.clock.advance } :=
  if_neg h

/-- The record of every zone after a second, in the statement's form (R37, R52, R132, R138, R159, R162). -/
theorem State.countSecond_zone (s : State) (z : ZoneId) :
    s.countSecond.zone z =
      { s.zone z with
        fillTimer := (s.zone z).fillTimer.map (· - 1)
        closeTimer := (s.zone z).closeTimer.map (· - 1)
        senseTimer := (s.zone z).senseTimer.map (· - 1)
        guardTimer := (s.zone z).guardTimer.map (· - 1)
        timeInState := min 65535 ((s.zone z).timeInState + 1)
        soakTimer := min 65535 ((s.zone z).soakTimer + 1)
        dryClock :=
          if s.climate.frost ≠ .disarmed ∧ (s.zone z).valve ≠ .wet then min 65535 ((s.zone z).dryClock + 1) else (s.zone z).dryClock
        dwellRemaining := if (s.zone z).valve = .wet then (s.zone z).dwellRemaining.map (· - 1) else (s.zone z).dwellRemaining } := by
  have hmap : s.countSecond.zone z = (s.zone z).countSecond s.armed := s.zone_mapZones (fun _ x => x.countSecond s.armed) z
  have hdry : (s.armed && decide ((s.zone z).valve ≠ .wet)) = true ↔ s.climate.frost ≠ .disarmed ∧ (s.zone z).valve ≠ .wet := by
    rw [Bool.and_eq_true, State.armed_iff, decide_eq_true_iff]
  rw [hmap]
  unfold Zone.countSecond
  simp only [hdry]
  rfl

/-- Everything that a second counts beside the zones' counts and the clock (R59, R81, R117, R144, R148). -/
theorem State.countSecond_eq (s : State) :
    s.countSecond =
      { s with
        zones := s.countSecond.zones
        meters := s.meters.map fun m => { m with timer := m.timer - 1 }
        supply := { s.supply with validity := s.supply.validity.map (· - 1) }
        climate := { s.climate with
          slots := s.climate.slots.map fun x => x.map fun y => { y with age := min 65535 (y.age + 1) }
          thawTimer :=
            if s.climate.frost = .armedAuto ∧ s.climate.warm = true ∧ s.climate.thawTimer < s.climate.limits.thawHold then s.climate.thawTimer + 1
            else s.climate.thawTimer }
        engine := { s.engine with
          manual := s.engine.manual.map fun l => l.map fun e =>
            if e.state = .running ∧ (s.zone e.zone).valve = .wet then { e with remaining := e.remaining - 1 } else e } } := rfl

end Sys2Proof.Machine

open Sys2Proof Sys2Proof.Machine

/-- Settles O30: each count by the equation of `countSecond`, the clock by the two cases of its advance. -/
theorem secondAdvanceMovesEveryCount : Obligations.SecondAdvanceMovesEveryCount := by
  refine ⟨fun s => ⟨Clock.advance_within, Clock.advance_midnight, fun h => ⟨fun hr => ?_, fun hr => ?_⟩⟩, ?_⟩
  · have hlive : s.live State.countSecond = s := by simp [State.live, hr]
    change Host.Outcome.next (s.live State.countSecond).advanceClock = _
    rw [hlive, State.advanceClock_within_minute h]
  · have hlive : s.live State.countSecond = s.countSecond := by simp [State.live, hr]
    change Host.Outcome.next (s.live State.countSecond).advanceClock = _
    rw [hlive]
    exact congrArg Host.Outcome.next (State.advanceClock_within_minute h)
  · rintro s t rfl
    exact ⟨s.countSecond_eq, s.countSecond_zone⟩

end

section
/-! What a selection may open, and what it leaves wherever it goes (R124), by the rules of `KeptInTurn` and `KeptByMoves`. -/

namespace Sys2Proof.Machine

/-! ### Supply events at the points -/

/-- From `s` to `t` only the Supply Monitor's part, the ports and the arbiter's turn have changed. -/
def Served (s t : State) : Prop :=
  t = { s with supply := t.supply, ports := t.ports, lastServed := t.lastServed, ceilingReportOwed := t.ceilingReportOwed }

section
variable {P : State → Prop} (hquiet : ∀ {s t}, Quiet s t → P s → P t) (hserved : ∀ {s t}, Served s t → P s → P t)
include hquiet hserved

theorem State.ceilingChange_keeps {s : State} {before : Flows} {port : Option Port} (h : P s) : P (s.ceilingChange before port) := by
  unfold State.ceilingChange
  split
  · exact h
  · exact hserved rfl (hquiet (s.shedWalk_quiet port) h)

/-- A supply event taken at a point of a selection: notices, the shed walk, and the parts of `Served` (R87). -/
theorem State.takeAtPoint_keeps {s : State} (ev : SupplyEvent) (h : P s) : P (s.takeAtPoint ev) := by
  have hport : ∀ t p f, P t → P (t.updPort p f) := fun _ _ _ ht => hserved rfl ht
  have hchange : ∀ t before port, P t → P (t.ceilingChange before port) := fun _ _ _ => State.ceilingChange_keeps hquiet hserved
  have hpost : ∀ t n z i p v, P t → P (t.post n z i p v) := fun t n z i p v => hquiet (t.post_quiet n z i p v)
  have htaken : P s.takeUp := by
    rcases s.takeUp_cases with he | ⟨p, d, -, -, he⟩
    · rw [he]; exact h
    · rw [he]; exact hserved (s := s) rfl h
  unfold State.takeAtPoint State.takeSupplyEvent
  cases ev with
  | declare p flows validity =>
    exact State.complete_keeps hport htaken (Checked.orRange_keeps _ htaken fun _ _ => hchange _ _ _ (hpost _ _ _ _ _ _ (hserved rfl htaken)))
  | fallback p flows =>
    refine State.complete_keeps hport htaken (Checked.orRange_keeps _ htaken fun v _ => ?_)
    unfold State.replaceFallback
    split
    · exact hserved rfl htaken
    · exact hchange _ _ _ (hserved rfl htaken)
  | lapse =>
    change P s.lapse
    unfold State.lapse
    split
    · exact hchange _ _ _ (hpost _ _ _ _ _ _ (hserved rfl h))
    · exact h

theorem State.passPoint_keeps (hflight : ∀ (s : State) l, P s → P { s with supplyInFlight := l }) {s : State} (h : P s) : P s.passPoint :=
  List.foldlRecOn _ _ (hflight s _ h) fun _ ht e _ => State.takeAtPoint_keeps hquiet hserved e.event ht

end

/-! ### What a selection leaves -/

/-- The parts of the model that no selection touches (R124). -/
structure LeftBySelection (s t : State) : Prop where
  groups : t.groups = s.groups
  ring : t.ring = s.ring
  holds : t.holds = s.holds
  clock : t.clock = s.clock
  climate : t.climate = s.climate
  stopLow : t.stopLow = s.stopLow
  resetLow : t.resetLow = s.resetLow
  pending : t.pending = s.pending
  runState : t.engine.runState = s.engine.runState
  stopCause : t.engine.stopCause = s.engine.stopCause
  zone : ∀ z, (t.zone z).programme = (s.zone z).programme ∧ (t.zone z).pendingEdit = (s.zone z).pendingEdit ∧
    (t.zone z).lockout = (s.zone z).lockout ∧ (t.zone z).quotaVolume = (s.zone z).quotaVolume ∧
    (t.zone z).manualVolume = (s.zone z).manualVolume ∧ (t.zone z).frostVolume = (s.zone z).frostVolume

theorem LeftBySelection.refl (s : State) : LeftBySelection s s :=
  ⟨rfl, rfl, rfl, rfl, rfl, rfl, rfl, rfl, rfl, rfl, fun _ => ⟨rfl, rfl, rfl, rfl, rfl, rfl⟩⟩

theorem LeftBySelection.trans {s t u : State} (h : LeftBySelection s t) (k : LeftBySelection t u) : LeftBySelection s u where
  groups := k.groups.trans h.groups
  ring := k.ring.trans h.ring
  holds := k.holds.trans h.holds
  clock := k.clock.trans h.clock
  climate := k.climate.trans h.climate
  stopLow := k.stopLow.trans h.stopLow
  resetLow := k.resetLow.trans h.resetLow
  pending := k.pending.trans h.pending
  runState := k.runState.trans h.runState
  stopCause := k.stopCause.trans h.stopCause
  zone := fun z => by
    obtain ⟨hp, he, hl, hq, hm, hf⟩ := h.zone z
    obtain ⟨kp, ke, kl, kq, km, kf⟩ := k.zone z
    exact ⟨kp.trans hp, ke.trans he, kl.trans hl, kq.trans hq, km.trans hm, kf.trans hf⟩

theorem Quiet.left {s t : State} (q : Quiet s t) : LeftBySelection s t where
  groups := q.groups
  ring := q.ring
  holds := q.holds
  clock := q.clock
  climate := q.climate
  stopLow := q.stopLow
  resetLow := q.resetLow
  pending := q.pending
  runState := by rw [q.engine]
  stopCause := by rw [q.engine]
  zone := fun z =>
    have hz := q.zone z
    ⟨hz.programme, hz.pendingEdit, hz.lockout, hz.quotaVolume, hz.manualVolume, hz.frostVolume⟩

theorem Judged.left {s t : State} (j : Judged s t) : LeftBySelection s t where
  groups := by rw [j.rest]
  ring := by rw [j.rest]
  holds := by rw [j.rest]
  clock := by rw [j.rest]
  climate := by rw [j.rest]
  stopLow := by rw [j.rest]
  resetLow := by rw [j.rest]
  pending := by rw [j.rest]
  runState := by rw [j.rest]
  stopCause := by rw [j.rest]
  zone := fun z => by
    rw [j.zone z]
    exact ⟨rfl, rfl, rfl, rfl, rfl, rfl⟩

/-- What leaves the tables, the zone records, the run state and the inputs (R124). -/
theorem LeftBySelection.of_tables {s t : State} (h : t = { s with
      supply := t.supply, ports := t.ports, lastServed := t.lastServed, ceilingReportOwed := t.ceilingReportOwed, supplyInFlight := t.supplyInFlight
      planner := t.planner, engine := t.engine }) (hr : t.engine.runState = s.engine.runState) (hc : t.engine.stopCause = s.engine.stopCause) :
    LeftBySelection s t := by
  rw [h]
  exact ⟨rfl, rfl, rfl, rfl, rfl, rfl, rfl, rfl, hr, hc, fun _ => ⟨rfl, rfl, rfl, rfl, rfl, rfl⟩⟩

theorem State.select_left (s : State) : LeftBySelection s s.select := by
  have quiet : ∀ {t u}, Quiet t u → LeftBySelection s t → LeftBySelection s u := fun q h => h.trans q.left
  have k : KeptInTurn fun t => LeftBySelection s t ∧ t.engine.runState = .running :=
    { still := fun _ q h => ⟨quiet q h.1, by rw [q.engine]; exact h.2⟩
      engine := fun t _ _ hr hc h => ⟨h.1.trans (.of_tables (s := t) rfl hr hc), hr.trans h.2⟩
      point := fun h => State.passPoint_keeps (P := fun t => LeftBySelection s t ∧ t.engine.runState = .running)
        (fun q h => ⟨quiet q h.1, by rw [q.engine]; exact h.2⟩)
        (fun hs h => by
          rw [hs]
          exact ⟨h.1.trans (.of_tables rfl rfl rfl), h.2⟩)
        (fun _ _ h => ⟨h.1.trans (.of_tables rfl rfl rfl), h.2⟩) h
      openZone := fun t z tag h => ⟨quiet (t.openChannel_quiet z tag) h.1, by rw [(t.openChannel_quiet z tag).engine]; exact h.2⟩ }
  exact k.select (fun {t} h => (h.trans (.of_tables (t := { t with ceilingReportOwed := false }) rfl rfl rfl)).trans
    (State.retriage_judged _).left) (.refl s)

/-! ### A selection without supply events -/

/-- With no supply event on its way a selection leaves the arbiter's turn, and the one walk brings no report (R173; log entry 10). -/
theorem keptInTurn_untaken (last : Port) (owed : Bool → Prop) :
    KeptInTurn fun t => (t.supplyInFlight = [] ∧ t.lastServed = last ∧ owed t.ceilingReportOwed) ∧ t.engine.runState = .running := by
  have quiet : ∀ {t u}, Quiet t u → (t.supplyInFlight = [] ∧ t.lastServed = last ∧ owed t.ceilingReportOwed) ∧ t.engine.runState = .running →
      (u.supplyInFlight = [] ∧ u.lastServed = last ∧ owed u.ceilingReportOwed) ∧ u.engine.runState = .running := fun q h => by
    rw [q.supplyInFlight, q.lastServed, q.ceilingReportOwed, q.engine]
    exact h
  exact
    { still := fun _ => quiet
      engine := fun _ _ _ hr _ h => ⟨h.1, hr.trans h.2⟩
      point := fun h => by
        rw [State.passPoint_none h.1.1]
        exact h
      openZone := fun t z tag => quiet (t.openChannel_quiet z tag) }

/-! ### What a selection opens -/

/-- From `s` to `t` the zones are programmed and locked as they were, a CLOSING channel goes on closing, and a channel that has come to be open was SHUT, defined and
unlocked (R38, R124). -/
structure OpenedFrom (s t : State) : Prop where
  runState : t.engine.runState = s.engine.runState
  programme : ∀ z, (t.zone z).programme = (s.zone z).programme
  lockout : ∀ z, (t.zone z).lockout = (s.zone z).lockout
  closing : ∀ z, (s.zone z).valve = .closing → (t.zone z).valve = .closing
  opened : ∀ z, (s.zone z).isOpen = false → (t.zone z).isOpen = true →
    (s.zone z).valve = .shut ∧ (s.zone z).lockout = none ∧ (s.zone z).programme ≠ none ∧ s.engine.runState = .running

theorem OpenedFrom.refl (s : State) : OpenedFrom s s :=
  ⟨rfl, fun _ => rfl, fun _ => rfl, fun _ => id, fun z hc ho => by rw [hc] at ho; cases ho⟩

/-- What opens no channel and moves none that is CLOSING. -/
theorem OpenedFrom.trans_of {s t u : State} (h : OpenedFrom s t) (hr : u.engine.runState = t.engine.runState)
    (hp : ∀ z, (u.zone z).programme = (t.zone z).programme) (hl : ∀ z, (u.zone z).lockout = (t.zone z).lockout)
    (hc : ∀ z, (t.zone z).valve = .closing → (u.zone z).valve = .closing) (ho : ∀ z, (u.zone z).isOpen = true → (t.zone z).isOpen = true) :
    OpenedFrom s u where
  runState := hr.trans h.runState
  programme := fun z => (hp z).trans (h.programme z)
  lockout := fun z => (hl z).trans (h.lockout z)
  closing := fun z hz => hc z (h.closing z hz)
  opened := fun z hz hopen => h.opened z hz (ho z hopen)

theorem Standing.openedFrom {s t u : State} (q : Standing t u) (h : OpenedFrom s t) : OpenedFrom s u :=
  h.trans_of q.runState (fun z => (q.zone z).programme) (fun z => (q.zone z).lockout) (fun z hz => (q.zone z).valve.trans hz)
    fun z ho => (q.zone z).isOpen ▸ ho

theorem State.closeChannel_openedFrom {s t : State} (z : ZoneId) (e : Ending) (h : OpenedFrom s t) : OpenedFrom s (t.closeChannel z e) := by
  have q := t.closeChannel_quiet z e
  refine h.trans_of (by rw [q.engine]) (fun y => (q.zone y).programme) (fun y => (q.zone y).lockout) (fun y hy => ?_) fun y ho => ?_
  · rw [State.closeChannel_zones]
    split
    · exact (t.closedZone_keeps e z).1
    · exact hy
  · rw [State.closeChannel_isOpen, Bool.and_eq_true] at ho
    exact ho.2

theorem keptByClosing_openedFrom (s : State) : KeptByClosing (OpenedFrom s) where
  steady := fun q h => q.toStanding.openedFrom h
  close := fun _ z e h => State.closeChannel_openedFrom z e h
  ceilings := fun _ _ port q h =>
    State.shedWalk_keeps (fun _ z e h => State.closeChannel_openedFrom z e h) (fun q h => q.toStanding.openedFrom h) port (q.openedFrom h)

/-- A channel that is not open and not CLOSING is SHUT. -/
theorem Zone.shut_of_not_open {x : Zone} (ho : x.isOpen = false) (hc : x.valve ≠ .closing) : x.valve = .shut := by
  unfold Zone.isOpen at ho
  cases h : x.valve with
  | shut => rfl
  | closing => exact absurd h hc
  | opening => simp [h] at ho
  | wet => simp [h] at ho

theorem State.energise_openedFrom {s t : State} {z : ZoneId} {x : Programme} (tag : UseTag) (hrun : t.engine.runState = .running)
    (hx : (t.zone z).programme = some x) (hv : (t.zone z).valve = .shut) (hl : (t.zone z).lockout = none) (h : OpenedFrom s t) :
    OpenedFrom s (t.energise z x tag) := by
  have hclosing : (s.zone z).valve ≠ .closing := fun hc => by simp [h.closing z hc] at hv
  have hzone : ∀ y, y ≠ z → (t.energise z x tag).zone y = t.zone y := fun y hy => by rw [State.energise_zone, if_neg hy]
  have hsame : (t.energise z x tag).zone z = (t.zone z).opening x tag := by rw [State.energise_zone, if_pos rfl]
  refine ⟨h.runState, fun y => ?_, fun y => ?_, fun y hy => ?_, fun y hy ho => ?_⟩
  all_goals by_cases hyz : y = z
  · rw [hyz, hsame]
    exact h.programme z
  · rw [hzone y hyz]
    exact h.programme y
  · rw [hyz, hsame]
    exact h.lockout z
  · rw [hzone y hyz]
    exact h.lockout y
  · exact absurd (hyz ▸ hy) hclosing
  · rw [hzone y hyz]
    exact h.closing y hy
  · rw [hyz] at hy ⊢
    exact ⟨Zone.shut_of_not_open hy hclosing, (h.lockout z).symm.trans hl, by rw [← h.programme z, hx]; simp, h.runState.symm.trans hrun⟩
  · rw [hzone y hyz] at ho
    exact h.opened y hy ho

/-- An open command opens its channel from SHUT, defined and unlocked, and the entry to WET opens none. -/
theorem keptByMoves_openedFrom (s : State) : KeptByMoves (OpenedFrom s) where
  toKeptByClosing := keptByClosing_openedFrom s
  openZone := fun t z tag hrun h =>
    State.openChannel_keeps (fun _ hx hv hl => (keptByClosing_openedFrom s).openingReports (State.energise_openedFrom tag hrun hx hv hl h))
      (fun u hv h => by
        have hzone : ∀ y, ((u.enterWet z).zone y).programme = (u.zone y).programme ∧ ((u.enterWet z).zone y).lockout = (u.zone y).lockout ∧
            ((u.zone y).valve = .closing → ((u.enterWet z).zone y).valve = .closing) ∧
            (((u.enterWet z).zone y).isOpen = true → (u.zone y).isOpen = true) := fun y => by
          rw [State.enterWet_zone]
          split
          · rename_i hy
            rw [hy]
            exact ⟨rfl, rfl, fun hc => by simp [hv] at hc, fun _ => by simp [Zone.isOpen, hv]⟩
          · exact ⟨rfl, rfl, id, id⟩
        exact h.trans_of rfl (fun y => (hzone y).1) (fun y => (hzone y).2.1) (fun y => (hzone y).2.2.1) fun y => (hzone y).2.2.2) h

/-! ### A selection that does nothing -/

/-- A selection acts only while RUNNING and under a regime (R124). -/
theorem State.selectOnce_idle {s : State} (h : s.engine.runState ≠ .running ∨ s.engine.regime = .idle) : s.selectOnce = s := by
  unfold State.selectOnce State.selectTurns
  by_cases hrun : s.engine.runState = .running
  · have hidle : s.engine.regime = .idle := h.resolve_left fun k => k hrun
    rw [if_pos hrun, hidle]
  · rw [if_neg hrun]

end Sys2Proof.Machine

open Sys2Proof Sys2Proof.Machine

/-- Settles O49: what a selection leaves and what it opens are two inductions over its turns; without supply events its one walk leaves no report owed. -/
theorem selectionOpensOnlyWhatItMay : Obligations.SelectionOpensOnlyWhatItMay := by
  intro s
  refine ⟨State.selectOnce_idle, fun hnone => ⟨?_, fun howed => ?_⟩, ?_, fun z => ?_⟩
  · exact ((keptInTurn_untaken s.lastServed fun _ => True).select
      (P := fun t => t.supplyInFlight = [] ∧ t.lastServed = s.lastServed ∧ True)
      (fun {t} h => by
        rw [(State.retriage_judged { t with ceilingReportOwed := false }).rest]
        exact h)
      ⟨hnone, rfl, trivial⟩).2.1
  · exact State.select_of_none ((keptInTurn_untaken s.lastServed fun b => b = false).selectOnce
      (P := fun t => t.supplyInFlight = [] ∧ t.lastServed = s.lastServed ∧ t.ceilingReportOwed = false) ⟨hnone, rfl, howed⟩).2.2
  · have h := s.select_left
    exact ⟨h.groups, h.ring, h.holds, h.clock, h.climate, h.stopLow, h.resetLow, h.pending, h.runState, h.stopCause⟩
  · obtain ⟨hp, he, hl, hq, hm, hf⟩ := s.select_left.zone z
    have h := (keptByMoves_openedFrom s).select (.refl s)
    exact ⟨hp, he, hl, hq, hm, hf, h.closing z, h.opened z⟩

end

section
/-! The open command (R38, R76, R86 to R88): the open flow at the OPENING report, and the shed walk there, which does nothing where the flow fits and sheds the channel
itself where it does not. -/

namespace Sys2Proof.Machine

/-! ### The flow at the OPENING report -/

/-- The channel energised, with the committed flow raised (R38, R76). -/
def State.committed (s : State) (z : ZoneId) (x : Programme) (tag : UseTag) : State := (s.energise z x tag).raiseCommitted ⟨x.header, x.flow⟩

theorem sumOver_congr {α : Type} {l : List α} {f g : α → Nat} (h : ∀ a ∈ l, f a = g a) : sumOver l f = sumOver l g :=
  congrArg List.sum (List.map_congr_left h)

theorem sumOver_perm {α : Type} {l m : List α} {f : α → Nat} (h : l.Perm m) : sumOver l f = sumOver m f := (h.map f).sum_eq

theorem sumOver_cons {α : Type} (a : α) (l : List α) (f : α → Nat) : sumOver (a :: l) f = f a + sumOver l f := rfl

section
variable {s : State} {z : ZoneId} (x : Programme) (tag : UseTag)

theorem State.committed_zone (y : ZoneId) : (s.committed z x tag).zone y = if y = z then (s.zone z).opening x tag else s.zone y :=
  s.energise_zone z x tag y

theorem filter_ne_append_self {l : List ZoneId} (h : z ∉ l) : (l ++ [z]).filter (fun i => decide (i ≠ z)) = l := by
  rw [List.filter_append, filter_ne_of_notMem h]
  simp

theorem State.updZone_updZone (s : State) (z : ZoneId) (f g : Zone → Zone) : (s.updZone z f).updZone z g = s.updZone z fun y => g (f y) := by
  have hzone := s.zone_updZone_same z f
  unfold State.updZone at hzone ⊢
  rw [hzone, Vector.set_set]

/-- A SHUT channel stands in neither order (R37). -/
theorem State.ordersMatch.shut_notMem (h : s.ordersMatch) (hv : (s.zone z).valve = .shut) : z ∉ s.energising ∧ z ∉ s.wetOrder := by
  obtain ⟨hopening, hwet, -, -⟩ := h
  rw [hopening, hwet, hv]
  exact ⟨by decide, by decide⟩

/-- The open flows depend on the orders and on the records of their channels (R78). -/
theorem State.openFlow_congr {t : State} (hc : t.openChannels = s.openChannels) (hz : ∀ y ∈ s.openChannels, t.zone y = s.zone y) :
    (∀ i, t.openFlow i = s.openFlow i) ∧ t.totalOpenFlow = s.totalOpenFlow := by
  refine ⟨fun i => ?_, ?_⟩
  · unfold State.openFlow
    rw [hc, List.filter_congr fun y hy => by rw [hz y hy]]
    exact sumOver_congr fun y hy => by rw [hz y (List.mem_of_mem_filter hy)]
  · unfold State.totalOpenFlow
    rw [hc]
    exact sumOver_congr fun y hy => by rw [hz y hy]

/-- The open flow rises at the OPENING report by the programme's flow on its header, and in total (R78). -/
theorem State.committed_openFlow (h : s.ordersMatch) (hv : (s.zone z).valve = .shut) :
    (∀ i, (s.committed z x tag).openFlow i = s.openFlow i + if i = x.header then x.flow else 0) ∧
      (s.committed z x tag).totalOpenFlow = s.totalOpenFlow + x.flow := by
  obtain ⟨hne, hnw⟩ := h.shut_notMem hv
  have hother : ∀ y ∈ s.openChannels, (s.committed z x tag).zone y = s.zone y := fun y hy => by
    rw [State.committed_zone, if_neg]
    rintro rfl
    exact (List.mem_append.mp hy).elim hne hnw
  have hself : (s.committed z x tag).zone z = (s.zone z).opening x tag := by rw [State.committed_zone, if_pos rfl]
  have hflow : ((s.committed z x tag).zone z).openedFlow = x.flow := by rw [hself]; rfl
  have hon : ∀ i, ((s.committed z x tag).zone z).onHeader i = decide (x.header = i) := fun i => by rw [hself]; rfl
  have hperm : (s.committed z x tag).openChannels.Perm (z :: s.openChannels) := by
    change (s.energising ++ [z] ++ s.wetOrder).Perm (z :: (s.energising ++ s.wetOrder))
    rw [List.append_assoc]
    exact List.perm_middle
  refine ⟨fun i => ?_, ?_⟩
  · have hrest : sumOver (s.openChannels.filter fun y => ((s.committed z x tag).zone y).onHeader i)
        (fun y => ((s.committed z x tag).zone y).openedFlow) = s.openFlow i := by
      rw [List.filter_congr fun y hy => by rw [hother y hy]]
      exact sumOver_congr fun y hy => by rw [hother y (List.mem_of_mem_filter hy)]
    unfold State.openFlow at hrest ⊢
    rw [sumOver_perm (hperm.filter _), List.filter_cons, hon]
    by_cases hi : i = x.header
    · rw [if_pos hi, if_pos (decide_eq_true hi.symm), sumOver_cons, hrest, hflow, Nat.add_comm]
    · rw [if_neg hi, if_neg (by simpa using fun k => hi k.symm), hrest, Nat.add_zero]
  · unfold State.totalOpenFlow
    rw [sumOver_perm hperm, sumOver_cons, hflow, Nat.add_comm]
    rw [sumOver_congr fun y hy => by rw [hother y hy]]

/-! ### The shed walk at an OPENING report -/

theorem State.anyOver_of_openWithin (h : s.openWithin) : s.anyOver = false := by
  obtain ⟨hheader, htotal⟩ := h
  have hnone : headerIds.any s.headerOver = false := List.any_eq_false.mpr fun i _ => by
    simpa [State.headerOver] using hheader i
  simpa [State.anyOver, hnone, State.totalOver] using htotal

/-- A walk under ceilings that nothing exceeds sheds nothing (R85). -/
theorem State.shedSteps_within (h : s.openWithin) (port : Option Port) (zs : List ZoneId) : s.forZones zs (fun z t => t.shedStep port z) = s := by
  have hstep : ∀ z, s.shedStep port z = s := fun z => by simp [State.shedStep, State.anyOver_of_openWithin h]
  induction zs with
  | nil => rfl
  | cons z rest ih => exact (congrArg (fun t => State.forZones t rest fun z t => t.shedStep port z) (hstep z)).trans ih

theorem State.shedWalk_within (h : s.openWithin) (port : Option Port) : s.shedWalk port = s := State.shedSteps_within h port _

/-- The channel just energised is over where some flow no longer fits (R85, R87). -/
theorem State.committed_channelOver (h : s.ordersMatch) (hv : (s.zone z).valve = .shut) (hw : s.openWithin)
    (hno : ¬((∀ i, s.openFlow i + (if i = x.header then x.flow else 0) ≤ s.supply.inForce.header[i]) ∧
      s.totalOpenFlow + x.flow ≤ s.supply.inForce.total)) : (s.committed z x tag).channelOver z = true := by
  obtain ⟨hheader, htotal⟩ := State.committed_openFlow x tag h hv
  have hopened : ((s.committed z x tag).zone z).openedHeader = some x.header := by rw [State.committed_zone, if_pos rfl]; rfl
  have hforce : (s.committed z x tag).supply.inForce = s.supply.inForce := rfl
  unfold State.channelOver
  rw [hopened, Bool.or_eq_true]
  by_contra hunder
  obtain ⟨hnt, hnh⟩ := not_or.mp hunder
  refine hno ⟨fun i => ?_, ?_⟩
  · by_cases hi : i = x.header
    · subst hi
      rw [← hheader, ← hforce]
      simpa [State.headerOver] using hnh
    · simpa [hi] using hw.1 i
  · rw [← htotal, ← hforce]
    simpa [State.totalOver] using hnt

theorem State.post_ports_congr {t : State} (hp : t.ports = s.ports) (hc : t.clock = s.clock) (hr : t.resetLow = s.resetLow) (n : NoticeKind)
    (y : Option ZoneId) (i : Option HeaderId) (p : Option Port) (v : Option Int) : (t.post n y i p v).ports = (s.post n y i p v).ports := by
  unfold State.post State.stamp
  rw [hr, hc]
  split
  · exact hp
  · dsimp only
    rw [hp]

/-- The channel shed at its OPENING report: closed, with ZONE-SHED posted without a port (R86, R88). -/
theorem State.committed_shed :
    (s.committed z x tag).shed none z =
      ((s.committed z x tag).closeChannel z .shed).post .zoneShed (some z) (some x.header) none (some (tag.number : Int)) := by
  unfold State.shed
  rw [State.committed_zone, if_pos rfl]
  rfl

theorem State.committed_isOpen : ((s.committed z x tag).zone z).isOpen = true := by
  rw [State.committed_zone, if_pos rfl]
  rfl

/-- All that the shed at the OPENING report of a SHUT channel changes: it takes the channel back out of the orders (R37, R86). -/
theorem State.committed_shed_eq (hnot : z ∉ s.energising ∧ z ∉ s.wetOrder) :
    (s.committed z x tag).shed none z =
      { s with
        zones := ((s.committed z x tag).closeChannel z .shed).zones
        meters := ((s.committed z x tag).closeChannel z .shed).meters
        planner := { s.planner with
          suspended := s.planner.suspended ++ if tag = .quota ∧ (s.zone z).visit = .openVisit ∧ z ∈ s.ring then [z] else [] }
        supply := { s.supply with committed := s.supply.committed.add x.header x.flow }
        ports := (s.post .zoneShed (some z) (some x.header) none (some (tag.number : Int))).ports } := by
  have hclosed := (s.committed z x tag).closeChannel_eq z .shed (State.committed_isOpen x tag)
  have hself : (s.committed z x tag).zone z = (s.zone z).opening x tag := by rw [State.committed_zone, if_pos rfl]
  have hleft : (s.committed z x tag).energising.filter (fun i => decide (i ≠ z)) = s.energising ∧
      (s.committed z x tag).wetOrder.filter (fun i => decide (i ≠ z)) = s.wetOrder :=
    ⟨filter_ne_append_self hnot.1, filter_ne_of_notMem hnot.2⟩
  have hports := State.post_ports_congr (s := s) (t := (s.committed z x tag).closeChannel z .shed) (by rw [hclosed]; rfl) (by rw [hclosed]; rfl)
    (by rw [hclosed]; rfl) .zoneShed (some z) (some x.header) none (some (tag.number : Int))
  rw [State.committed_shed, State.post_eq, hports]
  have hvisit : (((s.zone z).opening x tag).useTag = some .quota ∧ ((s.zone z).opening x tag).visit = .openVisit ∧ z ∈ (s.committed z x tag).ring ∧
      Ending.shed ∈ [Ending.windowClosed, .shed, .stop, .preemption]) ↔ tag = .quota ∧ (s.zone z).visit = .openVisit ∧ z ∈ s.ring := by
    simp only [Zone.opening, Option.some.injEq, List.mem_cons, true_or, or_true, and_true]
    rfl
  rw [hleft.1, hleft.2, hself, if_congr hvisit rfl rfl] at hclosed
  generalize (s.committed z x tag).closeChannel z .shed = u at hclosed ⊢
  rw [hclosed]
  rfl

/-- The shed walk sheds the channel just energised first, and then nothing is above its ceiling (R85, R87). -/
theorem State.committed_shedWalk (h : s.ordersMatch) (hv : (s.zone z).valve = .shut) (hw : s.openWithin)
    (hno : ¬((∀ i, s.openFlow i + (if i = x.header then x.flow else 0) ≤ s.supply.inForce.header[i]) ∧
      s.totalOpenFlow + x.flow ≤ s.supply.inForce.total)) : (s.committed z x tag).shedWalk none = (s.committed z x tag).shed none z := by
  have hover := State.committed_channelOver x tag h hv hw hno
  have hnot := h.shut_notMem hv
  have horder : (s.committed z x tag).shedOrder = z :: (s.energising.reverse ++ s.wetOrder) := by
    change (s.energising ++ [z]).reverse ++ s.wetOrder = _
    simp
  have hfirst : (s.committed z x tag).shedStep none z = (s.committed z x tag).shed none z := by
    simp [State.shedStep, hover, State.anyOver_of_channelOver hover]
  have hwithin : ((s.committed z x tag).shed none z).openWithin := by
    have hshed := State.committed_shed_eq x tag hnot
    have hother : ∀ y, y ≠ z → ((s.committed z x tag).shed none z).zone y = s.zone y := fun y hy => by
      rw [State.committed_shed, State.post_zone, State.closeChannel_zone_other _ .shed hy, State.committed_zone, if_neg hy]
    obtain ⟨he, hwet, hforce⟩ : ((s.committed z x tag).shed none z).energising = s.energising ∧
        ((s.committed z x tag).shed none z).wetOrder = s.wetOrder ∧
        ((s.committed z x tag).shed none z).supply.inForce = s.supply.inForce := by
      rw [hshed]
      exact ⟨rfl, rfl, rfl⟩
    have hchannels : ((s.committed z x tag).shed none z).openChannels = s.openChannels := by unfold State.openChannels; rw [he, hwet]
    obtain ⟨hheader, htotal⟩ := State.openFlow_congr hchannels fun y hy => hother y (by
      rintro rfl
      exact (List.mem_append.mp hy).elim hnot.1 hnot.2)
    unfold State.openWithin
    rw [htotal, hforce]
    exact ⟨fun i => (hheader i).trans_le (hw.1 i), hw.2⟩
  unfold State.shedWalk
  rw [horder]
  exact (congrArg (fun t => State.forZones t (s.energising.reverse ++ s.wetOrder) fun z t => t.shedStep none z) hfirst).trans
    (State.shedSteps_within hwithin none _)

/-! ### The two outcomes -/

/-- The open command whose flow does not fit: the channel is shed at its OPENING report, and the interval is drawn on (R87). -/
theorem State.openChannel_shed (hx : (s.zone z).programme = some x) (hl : (s.zone z).lockout = none) (hv : (s.zone z).valve = .shut)
    (h : s.ordersMatch) (hw : s.openWithin)
    (hno : ¬((∀ i, s.openFlow i + (if i = x.header then x.flow else 0) ≤ s.supply.inForce.header[i]) ∧
      s.totalOpenFlow + x.flow ≤ s.supply.inForce.total)) :
    s.openChannel z tag = ((s.committed z x tag).shed none z).markOpening x.header := by
  have hreports : (s.energise z x tag).openingReports x = ((s.committed z x tag).shed none z).markOpening x.header :=
    congrArg (fun t => State.markOpening t x.header) (State.committed_shedWalk x tag h hv hw hno)
  have hclosed : ((((s.committed z x tag).shed none z).markOpening x.header).zone z).valve = .closing := by
    change (((s.committed z x tag).shed none z).zone z).valve = .closing
    rw [State.committed_shed, State.post_zone, State.closeChannel_zone _ .shed (State.committed_isOpen x tag)]
    exact (State.closedZone_keeps _ .shed z).1
  rw [State.openChannel_taken hx hv hl, hreports, if_neg]
  rw [hclosed]
  exact fun k => by cases k.2

/-- The open command whose flow fits: the shed walk does nothing, and a fill time of 0 is followed by entry to WET (R38, R39, R87). -/
theorem State.openChannel_fits (hx : (s.zone z).programme = some x) (hl : (s.zone z).lockout = none) (hv : (s.zone z).valve = .shut)
    (h : s.ordersMatch) (hheader : ∀ i, s.openFlow i + (if i = x.header then x.flow else 0) ≤ s.supply.inForce.header[i])
    (htotal : s.totalOpenFlow + x.flow ≤ s.supply.inForce.total) :
    s.openChannel z tag =
      if x.fill = 0 then ((s.committed z x tag).markOpening x.header).enterWet z else (s.committed z x tag).markOpening x.header := by
  obtain ⟨hflow, hall⟩ := State.committed_openFlow x tag h hv
  have hwithin : (s.committed z x tag).openWithin := ⟨fun i => (hflow i).trans_le (hheader i), hall.trans_le htotal⟩
  have hreports : (s.energise z x tag).openingReports x = (s.committed z x tag).markOpening x.header :=
    congrArg (fun t => State.markOpening t x.header) (State.shedWalk_within hwithin none)
  have hopening : (((s.committed z x tag).markOpening x.header).zone z).valve = .opening := by
    change ((s.committed z x tag).zone z).valve = .opening
    rw [State.committed_zone, if_pos rfl]
    rfl
  rw [State.openChannel_taken hx hv hl, hreports]
  simp only [hopening, and_true]

end

end Sys2Proof.Machine

open Sys2Proof Sys2Proof.Machine

/-- Settles O56: refused, shed at the OPENING report (`State.openChannel_shed`), or opened (`State.openChannel_fits`). -/
theorem openCommandEnergisesTheChannel : Obligations.OpenCommandEnergisesTheChannel := by
  refine fun s z tag => ⟨fun h => State.openChannel_refused h tag, fun x hx hl hv h hw hno t ht => ?_, fun x hx hl hv h hheader htotal y hy => ?_⟩
  · rw [State.openChannel_shed x tag hx hl hv h hw hno] at ht
    have hself : (s.committed z x tag).zone z = (s.zone z).opening x tag := by rw [State.committed_zone, if_pos rfl]
    have hopen := State.committed_isOpen (s := s) (z := z) x tag
    have hrecord : t.zone z = (s.committed z x tag).closedZone z .shed := by
      rw [ht]
      change ((s.committed z x tag).shed none z).zone z = _
      rw [State.committed_shed, State.post_zone, State.closeChannel_zone _ .shed hopen]
    have hother : ∀ y, y ≠ z → t.zone y = s.zone y := fun y hy => by
      rw [ht]
      change ((s.committed z x tag).shed none z).zone y = _
      rw [State.committed_shed, State.post_zone, State.closeChannel_zone_other _ .shed hy, State.committed_zone, if_neg hy]
    have hmeter : t.meter x.header = { ((s.committed z x tag).shed none z).meter x.header with settling := true, drawn := true } := by
      rw [ht]
      exact (State.meter_updMeter _ _ _ _).trans (if_pos rfl)
    have hframe := State.committed_shed_eq (s := s) x tag (h.shut_notMem hv)
    have hvisit := (s.committed z x tag).closedZone_shed z
    have hfrost := (s.committed z x tag).closedZone_frost z .shed
    obtain ⟨_, _, _, _, _, _, _, _, hfixed⟩ := (s.committed z x tag).closedZone_fixed z .shed
    rw [hself] at hvisit hfrost hfixed
    have htimer : (t.zone z).closeTimer = some x.closing := by
      rw [hrecord, hfixed]
      refine congrArg some ((Zone.closeSeconds_eq _).trans ?_)
      change (match (s.zone z).programme with | some v => v.closing | none => 0) = x.closing
      rw [hx]
    rw [hrecord] at htimer ⊢
    refine ⟨by rw [hfixed]; rfl, by rw [hfixed]; rfl, by rw [hfixed]; rfl, by rw [hfixed]; rfl, htimer, by rw [hfixed]; rfl, by rw [hfixed]; rfl,
      by rw [hfixed]; rfl, ?_, ?_, hother, by rw [hmeter], by rw [hmeter], ?_⟩
    · rintro rfl hopened hring
      obtain ⟨hsuspended, htarget, hvolume⟩ := hvisit rfl hopened hring
      refine ⟨hsuspended, htarget, hvolume, ?_⟩
      rw [ht, hframe]
      exact congrArg (s.planner.suspended ++ ·) (if_pos ⟨rfl, hopened, hring⟩)
    · rintro rfl
      exact (hfrost rfl).1
    · rw [ht, hframe]
      cases tag <;> rfl
  · rw [State.openChannel_fits x tag hx hl hv h hheader htotal]
    subst hy
    obtain ⟨hne, -⟩ := h.shut_notMem hv
    by_cases hfill : x.fill = 0
    · have hzones := s.updZone_updZone z (fun y => y.opening x tag) fun y =>
        { y with valve := .wet, fillTimer := none, timeInState := 0, overdue := false, dryClock := if s.armed then 0 else y.dryClock }
      have hwet : ((s.committed z x tag).markOpening x.header).enterWet z =
          { (s.updZone z fun y => y.opening x tag).updZone z (fun y =>
              { y with valve := .wet, fillTimer := none, timeInState := 0, overdue := false, dryClock := if s.armed then 0 else y.dryClock }) with
            meters := ((s.committed z x tag).markOpening x.header).meters
            supply := (s.committed z x tag).supply
            energising := (s.energising ++ [z]).filter fun i => decide (i ≠ z)
            wetOrder := s.wetOrder ++ [z] } := rfl
      rw [hwet, hzones, filter_ne_append_self hne]
      simp only [if_pos hfill, ← State.armed_iff]
      rfl
    · simp only [if_neg hfill]
      rfl

end

section
/-! Arrival at SHUT: the SHUT reports of a channel that has finished closing or has a drive fault (R41, R43, R51). -/

namespace Sys2Proof.Machine

section
variable (s : State) (z : ZoneId)

/-! ### What the reports leave -/

theorem State.applyPending_none {s : State} {z : ZoneId} (h : (s.zone z).pendingEdit = none) : s.applyPending z = s := by
  unfold State.applyPending
  rw [h]

/-- A pending edit and its hand-off leave the climate (R17 to R20). -/
theorem State.applyPending_climate : (s.applyPending z).climate = s.climate := by
  unfold State.applyPending
  split
  · rename_i e _
    rw [((s.applyNow z e).landEdits_eq (s.zone z)).1, State.applyNow_eq]
  · rfl

/-- A pending edit opens no visit (R17, R18). -/
theorem State.applyPending_visit (h : ((s.applyPending z).zone z).visit = .openVisit) : (s.zone z).visit = .openVisit := by
  unfold State.applyPending at h
  split at h
  · rename_i e _
    have happlied : ((s.zone z).applied e).visit = (s.zone z).visit := by cases e <;> rfl
    have hlanded : ((s.applyNow z e).landEdits (s.zone z)).zone z = (s.applyNow z e).zone z := by
      rw [((s.applyNow z e).landEdits_eq (s.zone z)).1]
      rfl
    unfold State.applyNow at hlanded h
    rw [hlanded, (State.handOff_judged _ z (s.zone z)).zone z, State.handOffQuotas_zone] at h
    have hedited : ((s.applyEdit z e).zone z).visit = .openVisit := h
    rw [State.applyEdit_zone, if_pos rfl] at hedited
    split at hedited
    · cases hedited
    · exact happlied.symm.trans hedited
  · exact h

/-! ### The manual entry -/

/-- The run list has an entry that runs on the zone (R117). -/
def State.entryRuns : Prop := ∃ e ∈ s.engine.manual.getD [], e.state = .running ∧ e.zone = z

theorem State.entryRuns_iff : s.engine.entries.any (·.runsOn z) = true ↔ s.entryRuns z := by
  simp [State.entryRuns, Engine.entries, Entry.runsOn]

/-- The run list after the end of the opening that its RUNNING entry had on the zone (R117). -/
def State.finishedEntries (f : Entry → Entry) : State :=
  { s with engine := { s.engine with manual := s.engine.manual.map fun l => l.map fun e => if e.state = .running ∧ e.zone = z then f e else e } }

theorem State.finishedEntries_none {s : State} {z : ZoneId} (h : ¬s.entryRuns z) (f : Entry → Entry) : s.finishedEntries z f = s := by
  have hlist : (s.engine.manual.map fun l => l.map fun e => if e.state = .running ∧ e.zone = z then f e else e) = s.engine.manual := by
    unfold State.entryRuns at h
    cases hm : s.engine.manual with
    | none => rfl
    | some l =>
      rw [hm] at h
      refine congrArg some ((List.map_congr_left fun e he => if_neg fun k => h ⟨e, he, k⟩).trans ?_)
      exact List.map_id _
  unfold State.finishedEntries
  rw [hlist]

/-- The end of an opening for the run list, with MANUAL-SKIPPED where a lockout ended it (R117). -/
theorem State.finishEntry_running {s : State} {z : ZoneId} (h : s.entryRuns z) (e : Ending) :
    s.finishEntry z e =
      if e = .lockout then (s.finishedEntries z (·.finish e)).post .manualSkipped (some z) ((s.zone z).programme.map (·.header)) none (some 3)
      else s.finishedEntries z (·.finish e) := by
  have hlist : s.finishedEntries z (·.finish e) =
      { s with engine := { s.engine with manual := s.engine.manual.map fun l => l.map fun x => if x.runsOn z then x.finish e else x } } := by
    unfold State.finishedEntries Entry.runsOn
    simp only [decide_eq_true_eq]
  rw [hlist]
  exact if_pos ((s.entryRuns_iff z).mpr h)

theorem State.finishEntry_none {s : State} {z : ZoneId} (h : ¬s.entryRuns z) (e : Ending) : s.finishEntry z e = s :=
  if_neg ((s.entryRuns_iff z).not.mpr h)

/-! ### The engine's part -/

theorem State.takeShut_climate (r : ShutReport) : (s.takeShut z r).climate = s.climate := by
  unfold State.takeShut
  split
  · change (s.endOpenVisit z .dropped).climate = s.climate
    unfold State.endOpenVisit
    split <;> rfl
  · unfold State.finishEntry
    split
    · dsimp only
      split
      · rw [State.post_climate]
      · rfl
    · rfl
  · split <;> rfl
  · rfl

/-- Triage at a SHUT report, in the statements' form (R158; log entry 21). -/
theorem State.triageAtShut_eq (before : Zone) :
    s.triageAtShut before =
      if s.climate.frost ≠ .disarmed ∧ before.lockedSinceOpen = true ∧
        (∃ v, before.programme = some v ∧ v.enabled = true ∧ v.frostMember = true) then s.triage else s :=
  s.retriage_if (by rw [Bool.and_eq_true, Zone.frostMember_iff])

theorem State.live_released {s : State} (h : s.resetLow = false) (f : State → State) : s.live f = f s := by
  simp [State.live, h]

/-- Entry to WET, in the statements' form (R39, R159). -/
theorem State.enterWet_eq :
    s.enterWet z =
      { s.updZone z (fun x =>
          { x with
            valve := .wet, fillTimer := none, timeInState := 0, overdue := false
            dryClock := if s.climate.frost ≠ .disarmed then 0 else x.dryClock }) with
        energising := s.energising.filter fun i => decide (i ≠ z)
        wetOrder := s.wetOrder ++ [z] } := by
  unfold State.enterWet
  simp only [State.armed_iff]

end

end Sys2Proof.Machine

open Sys2Proof Sys2Proof.Machine

/-- Settles O57: the fill timer's expiry is entry to WET (`State.enterWet_eq`), the close timer's the SHUT reports, part by part. -/
theorem fillAndCloseTimersExpire : Obligations.FillAndCloseTimersExpire := by
  refine ⟨fun s z hr => ?_, fun s z hr => ⟨fun hnot => ?_, fun o hvalve htimer ho hvisit t u v w ht hu hv hw => ?_⟩⟩
  · refine congrArg Host.Outcome.next ((State.live_released hr _).trans ?_)
    rw [State.enterWet_eq]
  · exact congrArg Host.Outcome.next ((State.live_released hr _).trans (if_neg hnot))
  · have hshut : (s.updZone z Zone.shut).zone z = (s.zone z).shut := s.zone_updZone_same z _
    have hzone : t.zone z = (s.zone z).shut := by
      rw [ht]
      exact hshut
    have hlowered : (s.updZone z Zone.shut).lowerCommitted ((s.updZone z Zone.shut).zone z).opened = t := by
      have hopened : (s.zone z).shut.opened = some o := ho
      rw [hshut, hopened, ht]
      rfl
    have htaken : u.takeShut z ⟨(s.zone z).useTag, false, false, (s.zone z).endedBy⟩ = v := by
      rw [hv]
      unfold State.takeShut
      rcases htag : (s.zone z).useTag with _ | (_ | _ | _)
      · rfl
      · have hclosed : (u.zone z).visit ≠ .openVisit := fun k => hvisit htag (by
          rw [hu] at k
          have hwas := t.applyPending_visit z k
          rwa [hzone] at hwas)
        have hend : u.endOpenVisit z .dropped = u := if_neg hclosed
        exact congrArg (fun y => State.updZone y z fun x => { x with soakTimer := 0 }) hend
      · change u.finishEntry z ((s.zone z).endedBy.getD .stop) = _
        by_cases hruns : u.entryRuns z
        · rw [State.finishEntry_running hruns]
          rcases (s.zone z).endedBy with _ | e
          · exact (if_neg (by decide)).trans (if_neg fun k => by cases k.1).symm
          · cases e
            case lockout => exact (if_pos rfl).trans (if_pos ⟨rfl, hruns⟩).symm
            all_goals exact (if_neg (by decide)).trans (if_neg fun k => by cases k.1).symm
        · rw [State.finishEntry_none hruns]
          refine Eq.trans ?_ (if_neg fun k => hruns k.2).symm
          exact (State.finishedEntries_none hruns _).symm
      · rfl
    have hclimate : v.climate = s.climate := by rw [← htaken, State.takeShut_climate, hu, State.applyPending_climate, ht]; rfl
    have htriaged : v.triageAtShut (s.zone z).shut = w := by
      rw [State.triageAtShut_eq, hclimate, hw]
      refine if_congr ?_ rfl rfl
      exact and_left_comm
    refine ⟨fun hnone => ?_, congrArg Host.Outcome.next ((State.live_released hr _).trans ((if_pos ⟨hvalve, htimer⟩).trans ?_))⟩
    · rw [hu, State.applyPending_none (by rw [hzone]; exact hnone)]
    · change ((((((s.updZone z Zone.shut).lowerCommitted ((s.updZone z Zone.shut).zone z).opened).applyPending z).takeShut z
        ⟨(s.zone z).useTag, false, false, (s.zone z).endedBy⟩).startDryClock z false).triageAtShut ((s.updZone z Zone.shut).zone z)).select = _
      rw [hlowered, ← hu, htaken, hshut]
      exact congrArg State.select htriaged

end

section
/-! Drive faults (R42, R43): the channel goes straight to SHUT with its lockout, and the SHUT reports follow. -/

namespace Sys2Proof.Machine

/-! ### The state that the reports are made from -/

theorem State.updZone_congr {s : State} {z : ZoneId} {f g : Zone → Zone} (h : f (s.zone z) = g (s.zone z)) : s.updZone z f = s.updZone z g := by
  unfold State.updZone
  rw [h]

theorem State.updZone_self {s : State} {z : ZoneId} {f : Zone → Zone} (h : f (s.zone z) = s.zone z) : s.updZone z f = s := by
  unfold State.updZone
  rw [h]
  have hset : s.zones.set z (s.zone z) = s.zones := Vector.set_getElem_self _
  rw [hset]

theorem State.updMeter_self {s : State} {i : HeaderId} {f : Meter → Meter} (h : f (s.meter i) = s.meter i) : s.updMeter i f = s := by
  unfold State.updMeter
  rw [h]
  have hset : s.meters.set i (s.meter i) = s.meters := Vector.set_getElem_self _
  rw [hset]

/-- The mark of a WET spell ended by a drive fault (R58). -/
theorem State.markSettling_if (s : State) (i : HeaderId) (wet : Bool) :
    (if wet then s.markSettling (some i) else s) = s.updMeter i fun m => { m with settling := m.settling || wet } := by
  cases wet with
  | false => exact (State.updMeter_self (by simp)).symm
  | true =>
    simp only [Bool.or_true]
    rfl

/-- The zone record of a channel at a drive fault (R43). -/
def Zone.faulted (x : Zone) : Zone := { x.shut with lockout := some .driveFault, lockedSinceOpen := true }

/-- The part at a drive fault before the pending edit: the channel SHUT and locked, out of the orders, its flow off the header, ZONE-LOCKED posted (R43, R58, R76). -/
def State.faulted (s : State) (z : ZoneId) (o : Opened) : State :=
  { s.updZone z Zone.faulted with
    energising := s.energising.filter fun i => decide (i ≠ z)
    wetOrder := s.wetOrder.filter fun i => decide (i ≠ z)
    supply := { s.supply with committed := s.supply.committed.sub o.header o.flow }
    meters := s.meters.set o.header
      { s.meter o.header with settling := (s.meter o.header).settling || decide ((s.zone z).valve = .wet) }
    ports := (s.post .zoneLocked (some z) (some o.header) none (some 1)).ports }

section
variable {s : State} {z : ZoneId} {o : Opened}

/-- A post after changes that the notice does not read. -/
theorem State.post_of {t : State} (hp : t.ports = s.ports) (hc : t.clock = s.clock) (hr : t.resetLow = s.resetLow) (n : NoticeKind)
    (y : Option ZoneId) (i : Option HeaderId) (p : Option Port) (v : Option Int) :
    t.post n y i p v = { t with ports := (s.post n y i p v).ports } := by
  rw [State.post_eq, State.post_ports_congr hp hc hr]

/-- The lockout of a drive fault, on the channel in SHUT (R43, R44). -/
theorem State.faulted_locked (hl : (s.zone z).lockout = none) (ho : (s.zone z).opened = some o) :
    ((s.updZone z Zone.shut).leaveOrders z).setLockout z .driveFault =
      { (s.updZone z Zone.faulted).leaveOrders z with ports := (s.post .zoneLocked (some z) (some o.header) none (some 1)).ports } := by
  have hzone : ((s.updZone z Zone.shut).leaveOrders z).zone z = (s.zone z).shut := s.zone_updZone_same z _
  have hlockout : (((s.updZone z Zone.shut).leaveOrders z).zone z).lockout = none := by rw [hzone]; exact hl
  have hopened : (((s.updZone z Zone.shut).leaveOrders z).zone z).opened = some o := by rw [hzone]; exact ho
  have hrecord : ((s.updZone z Zone.shut).leaveOrders z).updZone z (fun x => { x with lockout := some .driveFault, lockedSinceOpen := true }) =
      (s.updZone z Zone.faulted).leaveOrders z := 
    congrArg (fun t => State.leaveOrders t z) (s.updZone_updZone z Zone.shut fun x => { x with lockout := some .driveFault, lockedSinceOpen := true })
  rw [State.setLockout_fresh _ _ _ hlockout, hopened, hrecord]
  exact State.post_of (s := s) (t := (s.updZone z Zone.faulted).leaveOrders z) rfl rfl rfl _ _ _ _ _

/-- A drive fault of an open channel without a lockout: the SHUT reports of the faulted channel (R43, R51). -/
theorem State.driveFault_eq (hopen : (s.zone z).isOpen = true) (hl : (s.zone z).lockout = none) (ho : (s.zone z).opened = some o) :
    s.driveFault z =
      (((((s.faulted z o).applyPending z).takeShut z ⟨(s.zone z).useTag, true, decide ((s.zone z).valve = .wet), none⟩).startDryClock z
        (decide ((s.zone z).valve = .wet))).triageAtShut (s.zone z).faulted).select := by
  unfold State.driveFault
  dsimp only
  rw [if_pos hopen, State.faulted_locked hl ho]
  have hlocked : State.zone { (s.updZone z Zone.faulted).leaveOrders z with
      ports := (s.post .zoneLocked (some z) (some o.header) none (some 1)).ports } z = (s.zone z).faulted := s.zone_updZone_same z _
  have hopened : (s.zone z).faulted.opened = some o := ho
  have hheader : (s.zone z).faulted.openedHeader = some o.header := by
    unfold Zone.openedHeader
    rw [hopened]
    rfl
  unfold State.shutReports
  dsimp only
  rw [hlocked, hopened, hheader, Bool.true_and, State.markSettling_if]
  rfl

/-! ### The engine's part -/

/-- A QUOTA channel at a drive fault: its OPEN visit is dropped, and its soak timer restarts (R136, R138). -/
theorem State.takeShut_quota (r : ShutReport) (hr : r.tag = some .quota) :
    s.takeShut z r = s.updZone z fun x =>
      if x.visit = .openVisit then
        { x with soakTimer := 0, visit := .noVisit, visitTarget := none, visitVolume := 0, guardTimer := none }
      else { x with soakTimer := 0 } := by
  unfold State.takeShut
  rw [hr]
  dsimp only
  unfold State.endOpenVisit
  by_cases hv : (s.zone z).visit = .openVisit
  · rw [if_pos hv]
    exact (s.updZone_updZone z _ _).trans (State.updZone_congr (if_pos hv).symm)
  · rw [if_neg hv]
    exact State.updZone_congr (if_neg hv).symm

/-- The zone that is to be watched from now on, or is watched already, at a drive fault (R42, R43). -/
theorem State.faulted_watching {g : Zone → Zone} (hg : (g (s.zone z)).faulted = { (s.zone z).faulted with sensePhase := .watching })
    (hv : (g (s.zone z)).valve = (s.zone z).valve) :
    (s.updZone z g).faulted z o =
      State.post
        { s.updZone z (fun x => { x.faulted with sensePhase := .watching }) with
          energising := s.energising.filter fun i => decide (i ≠ z)
          wetOrder := s.wetOrder.filter fun i => decide (i ≠ z)
          supply := { s.supply with committed := s.supply.committed.sub o.header o.flow }
          meters := s.meters.set o.header
            { s.meter o.header with settling := (s.meter o.header).settling || decide ((s.zone z).valve = .wet) } }
        .zoneLocked (some z) (some o.header) none (some 1) := by
  have hrecord : (s.updZone z g).updZone z Zone.faulted = s.updZone z fun x => { x.faulted with sensePhase := .watching } :=
    (s.updZone_updZone z g Zone.faulted).trans (State.updZone_congr hg)
  have hports := State.post_ports_congr (s := s) (t := s.updZone z g) rfl rfl rfl .zoneLocked (some z) (some o.header) none (some 1)
  refine Eq.trans ?_ (Eq.symm (State.post_of (s := s) ?_ ?_ ?_ _ _ _ _ _))
  · unfold State.faulted
    rw [hrecord, hports, State.zone_updZone_same, hv]
    rfl
  all_goals rfl

end

end Sys2Proof.Machine

open Sys2Proof Sys2Proof.Machine

/-- Settles O58: both ways to a drive fault come to the same faulted part (`State.faulted_watching`), whose SHUT reports are taken part by part. -/
theorem driveSenseFindsFaults : Obligations.DriveSenseFindsFaults := by
  refine fun s z hr => ⟨fun h => ?_, fun h l => ?_, fun he ht => ?_, fun o he hopen hl ho t u v w ht hu hv hw r hrr => ?_⟩
  · refine congrArg Host.Outcome.next ((State.live_released hr _).trans (if_neg fun k => ?_))
    rw [Bool.and_eq_true, decide_eq_true_iff] at k
    rcases h with h | h
    · simp [h] at k
    · simp [h] at k
  · refine congrArg Host.Outcome.next ((State.live_released hr _).trans (if_neg fun k => ?_))
    rw [Bool.and_eq_true, decide_eq_true_iff] at k
    rcases h with h | h
    · simp [h] at k
    · exact h k.2
  · exact congrArg Host.Outcome.next ((State.live_released hr _).trans ((if_pos (by simp [he, ht])).trans (if_pos rfl)))
  · have hclimate : u.climate = s.climate := by
      rw [hu, State.applyPending_climate, ht, State.post_climate]
      rfl
    have htaken : u.takeShut z ⟨(s.zone z).useTag, true, decide ((s.zone z).valve = .wet), none⟩ = v := by
      rw [hv]
      rcases (s.zone z).useTag with _ | (_ | _ | _)
      · rfl
      · exact State.takeShut_quota _ rfl
      · change u.finishEntry z .lockout = _
        by_cases hruns : u.entryRuns z
        · exact (State.finishEntry_running hruns .lockout).trans ((if_pos rfl).trans (if_pos hruns).symm)
        · exact (State.finishEntry_none hruns .lockout).trans (if_neg hruns).symm
      · rfl
    have hdried : v.startDryClock z (decide ((s.zone z).valve = .wet)) = w := by
      have harmed : (decide ((s.zone z).valve = .wet) && v.armed) = true ↔ (s.zone z).valve = .wet ∧ s.climate.frost ≠ .disarmed := by
        rw [Bool.and_eq_true, decide_eq_true_iff, State.armed_iff, ← htaken, State.takeShut_climate, hclimate]
      rw [hw]
      exact if_congr harmed rfl rfl
    have htriaged : w.triageAtShut (s.zone z).faulted = r := by
      have hleft : w.climate = s.climate := by
        rw [← hdried, State.startDryClock_eq, ← htaken]
        exact (State.takeShut_climate _ _ _).trans hclimate
      rw [State.triageAtShut_eq, hleft, hrr]
      exact if_congr (and_congr_right fun _ => ⟨fun k => k.2, fun k => ⟨rfl, k⟩⟩) rfl rfl
    have hfault : ∀ g : Zone → Zone, (g (s.zone z)).faulted = { (s.zone z).faulted with sensePhase := .watching } →
        (g (s.zone z)).valve = (s.zone z).valve → (g (s.zone z)).useTag = (s.zone z).useTag →
        (g (s.zone z)).lockout = none → (g (s.zone z)).opened = some o → (s.updZone z g).driveFault z = r.select := by
      intro g hg hvalve htag hlockout hopened
      have hzone : (s.updZone z g).zone z = g (s.zone z) := s.zone_updZone_same z g
      have hgopen : (g (s.zone z)).isOpen = true := by rw [Zone.isOpen_congr hvalve]; exact hopen
      have hfaulted : (s.updZone z g).faulted z o = t := (State.faulted_watching hg hvalve).trans ht.symm
      rw [State.driveFault_eq (by rw [hzone]; exact hgopen) (by rw [hzone]; exact hlockout) (by rw [hzone]; exact hopened), hfaulted, ← hu, hzone,
        htag, hvalve, htaken, hdried, hg]
      exact congrArg State.select htriaged
    have hzone : t.zone z = { (s.zone z).faulted with sensePhase := .watching } := by
      rw [ht, State.post_zone]
      exact s.zone_updZone_same z fun x => { x.faulted with sensePhase := .watching }
    refine ⟨fun hnone => ?_, fun hwatch => ?_, fun hzero => ?_⟩
    · rw [hu, State.applyPending_none (by rw [hzone]; exact hnone)]
    · have hsame : s.updZone z id = s := State.updZone_self rfl
      have hnow := hfault id (by rw [← hwatch]; rfl) rfl rfl hl ho
      rw [hsame] at hnow
      exact congrArg Host.Outcome.next ((State.live_released hr _).trans ((if_pos (by simp [he, hwatch])).trans hnow))
    · have hnow := hfault (fun x => { x with sensePhase := .watching, senseTimer := none }) rfl rfl rfl hl ho
      exact congrArg Host.Outcome.next ((State.live_released hr _).trans ((if_pos (by simp [he, hzero])).trans hnow))

end

section
/-! Raw pulses (R56, R57, R73). -/

namespace Sys2Proof.Machine

/-- A raw pulse in one table: below the divisor the residue rises; at the divisor it returns to 0, and the divided pulse is counted, or lost with the first loss of the
interval reported (R56, R57). -/
theorem State.rawPulse_eq (s : State) (h : HeaderId) :
    s.rawPulse h =
      if (s.meter h).residue + 1 < (s.meter h).divisor then s.updMeter h fun m => { m with residue := m.residue + 1 }
      else if (s.meter h).count < 65535 then s.updMeter h fun m => { m with residue := 0, count := m.count + 1 }
      else if (s.meter h).saturated = true then s.updMeter h fun m => { m with residue := 0 }
      else (s.updMeter h fun m => { m with residue := 0, saturated := true }).post .meterSaturated none (some h) none none := by
  have hcleared : (s.updMeter h fun m => { m with residue := 0 }).meter h = { s.meter h with residue := 0 } := by
    rw [State.meter_updMeter, if_pos rfl]
  unfold State.rawPulse State.dividedPulse
  simp only [hcleared, State.updMeter_updMeter]
  rfl

end Sys2Proof.Machine

open Sys2Proof Sys2Proof.Machine

/-- Settles O32: nothing is counted while the RESET line is asserted; otherwise the pulse by `State.rawPulse_eq`. -/
theorem rawPulseIsCounted : Obligations.RawPulseIsCounted := fun s h =>
  ⟨fun hr => congrArg Host.Outcome.next (if_pos hr),
    fun hr => congrArg Host.Outcome.next ((State.live_released hr _).trans (s.rawPulse_eq h))⟩

end

section
/-! Apportionment (R61 to R63): the shares add up to the volume, and each zone of the drawing set is credited with its own. -/

namespace Sys2Proof.Machine

/-! ### Shares -/

theorem sumOver_add {α : Type} (l : List α) (f g : α → Nat) : sumOver l (fun a => f a + g a) = sumOver l f + sumOver l g := List.sum_map_add

/-- Rounding every share down loses less than one unit for each member, and gains none. -/
theorem sumOver_div_bounds {α : Type} (l : List α) (f : α → Nat) {n : Nat} (hn : 0 < n) :
    sumOver l (fun a => f a / n) * n ≤ sumOver l f ∧ sumOver l f ≤ (sumOver l (fun a => f a / n) + l.length) * n := by
  induction l with
  | nil => exact ⟨by simp [sumOver], by simp [sumOver]⟩
  | cons a rest ih =>
    have hdown := Nat.div_mul_le_self (f a) n
    have hup : f a ≤ (f a / n + 1) * n := (Nat.lt_mul_of_div_lt (Nat.lt_succ_self _) hn).le
    simp only [sumOver_cons, List.length_cons, Nat.add_mul, Nat.one_mul] at ih hup ⊢
    omega

/-- Of `n` places, the first `r` get one unit more. -/
theorem sum_range_firsts (r n : Nat) : ((List.range n).map fun i => if i < r then 1 else 0).sum = min r n := by
  induction n with
  | zero => simp
  | succ n ih =>
    rw [List.range_succ, List.map_append, List.sum_append, ih]
    simp only [List.map_cons, List.map_nil, List.sum_cons, List.sum_nil]
    split <;> omega

/-- The places of a list without duplicates are 0, 1, 2 and so on. -/
theorem map_idxOf_self {l : List ZoneId} (h : l.Nodup) : l.map (fun z => l.idxOf z) = List.range l.length :=
  List.ext_getElem (by simp) fun i hi _ => by simp [h.idxOf_getElem]

/-- The shares sum to the volume: what rounding down leaves over is less than one unit for each member, and goes to as many of the first members (R61). -/
theorem sumOver_share {l : List ZoneId} (hnodup : l.Nodup) (q : ZoneId → Nat) (v : Nat) (hq : 0 < sumOver l q) :
    sumOver l (fun z => share v (sumOver l q) (v - sumOver l fun y => v * q y / sumOver l q) (q z) (l.idxOf z)) = v := by
  obtain ⟨hdown, hup⟩ := sumOver_div_bounds l (fun z => v * q z) hq
  have htotal : sumOver l (fun z => v * q z) = v * sumOver l q := List.sum_map_mul_left ..
  rw [htotal] at hdown hup
  have hle := Nat.le_of_mul_le_mul_right hdown hq
  have hge := Nat.le_of_mul_le_mul_right hup hq
  have hfirsts : sumOver l (fun z => if l.idxOf z < v - sumOver l (fun y => v * q y / sumOver l q) then 1 else 0) =
      min (v - sumOver l fun y => v * q y / sumOver l q) l.length := by
    rw [← sum_range_firsts, ← map_idxOf_self hnodup, List.map_map]
    rfl
  unfold share
  rw [sumOver_add, hfirsts]
  omega

section
variable (s : State) (h : HeaderId)

theorem State.drawingSet_sorted : (s.drawingSet h).Pairwise (· < ·) := (List.pairwise_lt_finRange 32).filter _

theorem State.drawingSet_nodup : (s.drawingSet h).Nodup := (s.drawingSet_sorted h).imp fun hlt => ne_of_lt hlt

/-- The share of a zone of the drawing set in the interval volume (R61). -/
def State.shareOf (z : ZoneId) : Nat :=
  let v := (s.meter h).volume
  let total := sumOver (s.drawingSet h) fun y => (s.zone y).openedFlow
  share v total (v - sumOver (s.drawingSet h) fun y => v * (s.zone y).openedFlow / total) (s.zone z).openedFlow ((s.drawingSet h).idxOf z)

theorem State.shares_eq : s.shares (s.drawingSet h) (s.meter h).volume = (s.drawingSet h).map fun z => (z, s.shareOf h z) := by
  unfold State.shares
  exact List.ext_getElem (by simp) fun i hi _ => by simp [State.shareOf, (s.drawingSet_nodup h).idxOf_getElem]

/-- In ascending order a lower zone stands before a higher one. -/
theorem idxOf_lt_idxOf {l : List ZoneId} (hsorted : l.Pairwise (· < ·)) {y z : ZoneId} (hy : y ∈ l) (hz : z ∈ l) (hlt : y < z) :
    l.idxOf y < l.idxOf z := by
  have hget := List.pairwise_iff_getElem.mp hsorted (l.idxOf z) (l.idxOf y) (List.idxOf_lt_length_of_mem hz) (List.idxOf_lt_length_of_mem hy)
  by_contra hge
  rcases Nat.lt_or_eq_of_le (Nat.le_of_not_lt hge) with hcase | hcase
  · have hrev := hget hcase
    rw [List.getElem_idxOf, List.getElem_idxOf] at hrev
    exact absurd hlt hrev.not_gt
  · exact absurd ((List.idxOf_inj hz).mp hcase) (ne_of_gt hlt)

end

/-! ### Credits -/

/-- The zones credited from a list, one after the other (R62). -/
def State.credited (s : State) (l : List (ZoneId × Nat)) : State := l.foldl (fun t e => t.updZone e.1 fun x => x.credit e.2) s

theorem State.credited_eq (s : State) (l : List (ZoneId × Nat)) : s.credited l = { s with zones := (s.credited l).zones } :=
  List.foldlRecOn (motive := fun t : State => t = { s with zones := t.zones }) _ _ rfl fun t ht e _ => by rw [ht]; rfl

/-- Each zone of a list without duplicates is credited with its own share, and no other zone with any (R62). -/
theorem State.credited_zone (a : ZoneId → Nat) {l : List ZoneId} (hnodup : l.Nodup) (s : State) (z : ZoneId) :
    (s.credited (l.map fun y => (y, a y))).zone z = if z ∈ l then (s.zone z).credit (a z) else s.zone z := by
  induction l generalizing s with
  | nil => rfl
  | cons y rest ih =>
    obtain ⟨hy, hrest⟩ := List.nodup_cons.mp hnodup
    refine (ih hrest (s.updZone y fun x => x.credit (a y))).trans ?_
    rw [State.zone_updZone]
    by_cases hz : z = y
    · subst hz; simp [hy]
    · simp [hz]

/-- A credit by use tag, in the statement's form (R62). -/
theorem Zone.credit_eq (x : Zone) (a : Nat) :
    x.credit a =
      match x.useTag with
      | some .quota =>
        { x with
          quotaVolume := min 281474976710655 (x.quotaVolume + a)
          visitVolume := if x.visit = .openVisit then min 281474976710655 (x.visitVolume + a) else x.visitVolume }
      | some .manual => { x with manualVolume := min 281474976710655 (x.manualVolume + a) }
      | some .frost => { x with frostVolume := min 281474976710655 (x.frostVolume + a) }
      | none => x := by
  unfold Zone.credit
  rcases x.useTag with _ | (_ | _ | _) <;> rfl

/-- The totals of a header after an interval, in the statement's form (R61, R63). -/
theorem Meter.addVolume_eq (m : Meter) (v : Nat) (l : List ZoneId) :
    m.addVolume v l.isEmpty =
      { m with
        metered := (m.metered + v) % 281474976710656
        attributed := if l = [] then m.attributed else (m.attributed + v) % 281474976710656
        stray := if l = [] then (m.stray + v) % 281474976710656 else m.stray } := by
  cases l <;> rfl

section
variable (s : State) (h : HeaderId)

/-- An apportionment credits every zone of the drawing set with its share, and adds the volume to the header's totals (R60 to R63). -/
theorem State.apportion_credited :
    s.apportion h =
      (s.credited ((s.drawingSet h).map fun z => (z, s.shareOf h z))).updMeter h fun m => m.addVolume (s.meter h).volume (s.drawingSet h).isEmpty := by
  rw [← State.shares_eq]
  rfl

theorem State.apportion_zone (z : ZoneId) :
    (s.apportion h).zone z = if z ∈ s.drawingSet h then (s.zone z).credit (s.shareOf h z) else s.zone z := by
  rw [State.apportion_credited, State.updMeter_zone, State.credited_zone _ (s.drawingSet_nodup h)]

/-- An apportionment changes zone records and the meter of its header, and nothing else. -/
theorem State.apportion_eq :
    s.apportion h = { s with
      zones := (s.apportion h).zones
      meters := s.meters.set h ((s.meter h).addVolume (s.meter h).volume (s.drawingSet h).isEmpty) } := by
  have hframe := s.credited_eq ((s.drawingSet h).map fun z => (z, s.shareOf h z))
  rw [State.apportion_credited]
  generalize s.credited ((s.drawingSet h).map fun z => (z, s.shareOf h z)) = t at hframe
  rw [hframe]
  rfl

theorem State.apportion_meter (i : HeaderId) :
    (s.apportion h).meter i = if i = h then (s.meter h).addVolume (s.meter h).volume (s.drawingSet h).isEmpty else s.meter i := by
  rw [State.apportion_eq]
  exact s.meter_updMeter h i fun m => m.addVolume (s.meter h).volume (s.drawingSet h).isEmpty

end

end Sys2Proof.Machine

open Sys2Proof Sys2Proof.Machine

/-- Settles O33 with the shares of `State.shareOf`: their sum by `sumOver_share`, the rest by what an apportionment does to zones and meters. -/
theorem apportionmentSharesTheWholeVolume : Obligations.ApportionmentSharesTheWholeVolume := by
  intro s h hflow v q
  have hmore : ∀ z, s.shareOf h z = v * (s.zone z).openedFlow / q + 1 ↔
      (s.drawingSet h).idxOf z < v - sumOver (s.drawingSet h) fun y => v * (s.zone y).openedFlow / q := fun z => by
    change share v q _ _ _ = _ ↔ _
    unfold share
    split
    · rename_i hin
      exact ⟨fun _ => hin, fun _ => rfl⟩
    · rename_i hout
      exact ⟨fun k => by omega, fun k => absurd k hout⟩
  refine ⟨s.shareOf h, fun hdraws => ?_, fun z _ => ?_, fun z hz z' hz' hlt hone => ?_, ?_, fun z => ?_⟩
  · have hq : 0 < q := by
      obtain ⟨z, hz⟩ := List.exists_mem_of_ne_nil _ hdraws
      exact (hflow z hz).trans_le (List.single_le_sum (fun _ _ => Nat.zero_le _) _ (List.mem_map_of_mem hz))
    exact sumOver_share (s.drawingSet_nodup h) _ v hq
  · change _ ≤ share v q _ _ _ ∧ share v q _ _ _ ≤ _
    unfold share
    split <;> omega
  · exact (hmore z).mpr ((idxOf_lt_idxOf (s.drawingSet_sorted h) hz hz' hlt).trans ((hmore z').mp hone))
  · have hstate := s.apportion_eq h
    rw [Meter.addVolume_eq] at hstate
    exact hstate
  · exact (s.apportion_zone h z).trans (if_congr Iff.rfl (Zone.credit_eq _ _) rfl)

end

section
/-! The ledger: what the laws of R63 and R76 read of the state. Every operation but an opening, an arrival at SHUT, an apportionment and the RESET line leaves it as it
stands; these have their equations here, in the order of the model's files. -/

namespace Sys2Proof.Machine

/-- What R76 reads of a channel: whether it draws, and what it was opened with. -/
def Zone.account (x : Zone) : Bool × Option Opened := (x.drawing, x.opened)

/-- What R63 reads of a header: the metered, the attributed and the stray total. -/
def Meter.totals (m : Meter) : Nat × Nat × Nat := (m.metered, m.attributed, m.stray)

/-- What the laws of R63 and R76 read of the state. -/
structure Ledger where
  channel : ZoneId → Bool × Option Opened
  committed : Flows
  totals : HeaderId → Nat × Nat × Nat
  resetLow : Bool

def State.ledger (s : State) : Ledger :=
  ⟨fun z => (s.zone z).account, s.supply.committed, fun h => (s.meter h).totals, s.resetLow⟩

theorem State.ledger_ext {s t : State} (hz : ∀ z, (t.zone z).account = (s.zone z).account) (hc : t.supply.committed = s.supply.committed)
    (hm : ∀ h, (t.meter h).totals = (s.meter h).totals) (hr : t.resetLow = s.resetLow) : t.ledger = s.ledger := by
  unfold State.ledger
  simp only [hz, hc, hm, hr]

/-- Two states with one ledger agree in all that the laws read. -/
theorem State.ledger_reads {s t : State} (h : t.ledger = s.ledger) :
    (∀ z, (t.zone z).account = (s.zone z).account) ∧ t.supply.committed = s.supply.committed ∧
      (∀ h, (t.meter h).totals = (s.meter h).totals) ∧ t.resetLow = s.resetLow :=
  ⟨congrFun (congrArg Ledger.channel h), congrArg Ledger.committed h, congrFun (congrArg Ledger.totals h), congrArg Ledger.resetLow h⟩

/-! ### Reading and writing the state -/

section
variable (s : State)

theorem State.updZone_ledger (z : ZoneId) {f : Zone → Zone} (hf : (f (s.zone z)).account = (s.zone z).account) : (s.updZone z f).ledger = s.ledger :=
  State.ledger_ext (fun z' => by
    rw [State.zone_updZone]
    split
    · subst_vars; exact hf
    · rfl) rfl (fun _ => rfl) rfl

theorem State.mapZones_ledger {f : ZoneId → Zone → Zone} (hf : ∀ z x, (f z x).account = x.account) : (s.mapZones f).ledger = s.ledger :=
  State.ledger_ext (fun z => by rw [State.zone_mapZones]; exact hf z _) rfl (fun _ => rfl) rfl

theorem State.updMeter_ledger (i : HeaderId) {f : Meter → Meter} (hf : ∀ m, (f m).totals = m.totals) : (s.updMeter i f).ledger = s.ledger :=
  State.ledger_ext (fun _ => rfl) rfl (fun j => by
    rw [State.meter_updMeter]
    split
    · subst_vars; exact hf _
    · rfl) rfl

theorem State.post_ledger (n : NoticeKind) (z : Option ZoneId) (i : Option HeaderId) (p : Option Port) (v : Option Int) :
    (s.post n z i p v).ledger = s.ledger := State.ledger_ext (by simp) (by simp) (by simp) (by simp)

theorem State.forZones_ledger {f : ZoneId → State → State} (hf : ∀ z t, (f z t).ledger = t.ledger) (zs : List ZoneId) :
    (s.forZones zs f).ledger = s.ledger :=
  State.forZones_keeps (P := fun t => t.ledger = s.ledger) f (fun z t ht => (hf z t).trans ht) zs s rfl

theorem Judged.ledger {s t : State} (j : Judged s t) : t.ledger = s.ledger :=
  State.ledger_ext (fun z => by rw [j.zone z]; rfl) (by rw [j.rest]) (fun h => by rw [j.rest]; rfl) (by rw [j.rest])

theorem PortsOnly.ledger {s t : State} (k : PortsOnly s t) : t.ledger = s.ledger := by
  rw [k]
  rfl

theorem State.retriage_ledger : s.retriage.ledger = s.ledger := s.retriage_judged.ledger

theorem State.complete_ledger {p : Port} {d : Directive} {run : State → State × Answer} (hrun : (run s).1.ledger = s.ledger) :
    (s.complete p d run).ledger = s.ledger :=
  State.complete_keeps (P := fun t => t.ledger = s.ledger) (fun _ _ _ => id) rfl hrun

/-! ### Closing and entry to WET -/

theorem State.closeChannel_ledger (z : ZoneId) (e : Ending) : (s.closeChannel z e).ledger = s.ledger := by
  by_cases h : (s.zone z).isOpen = true
  · obtain ⟨-, hmeter, -⟩ := s.closeChannel_channelsClosed e z
    refine State.ledger_ext (fun y => ?_) (by rw [s.closeChannel_eq z e h]) (fun i => by rw [hmeter i]; rfl) (by rw [s.closeChannel_eq z e h])
    rw [State.closeChannel_zones]
    split
    · rename_i hy
      obtain ⟨hvalve, hopened, -⟩ := s.closedZone_keeps e z
      have hdrew : (s.zone z).drawing = true := by
        unfold Zone.isOpen at h
        unfold Zone.drawing
        cases hv : (s.zone z).valve <;> simp_all
      rw [hy.1]
      unfold Zone.account
      rw [hopened, hdrew]
      simp [Zone.drawing, hvalve]
    · rfl
  · rw [s.closeChannel_shut e (by simpa using h)]

theorem State.closeTagged_ledger (tag : UseTag) (e : Ending) : (s.closeTagged tag e).ledger = s.ledger :=
  s.forZones_ledger (fun z t => by split; exacts [t.closeChannel_ledger z e, rfl]) _

theorem State.closeAll_ledger (e : Ending) : (s.closeAll e).ledger = s.ledger := s.forZones_ledger (fun z t => t.closeChannel_ledger z e) _

theorem State.closeVisits_ledger (sel : Zone → Bool) (e : Ending) : (s.closeVisits sel e).ledger = s.ledger :=
  s.forZones_ledger (fun z t => by split; exacts [t.closeChannel_ledger z e, rfl]) _

theorem State.endVisit_ledger (z : ZoneId) (o : VisitOutcome) : (s.endVisit z o).ledger = s.ledger := by
  cases o with
  | complete => exact s.updZone_ledger z rfl
  | dropped => exact s.updZone_ledger z rfl
  | suspended =>
    unfold State.endVisit
    dsimp only
    split
    · exact s.updZone_ledger z (f := fun x => { x with visit := .suspended, guardTimer := none }) rfl
    · exact s.updZone_ledger z rfl

theorem State.endOpenVisit_ledger (z : ZoneId) (o : VisitOutcome) : (s.endOpenVisit z o).ledger = s.ledger := by
  unfold State.endOpenVisit
  split
  · exact s.endVisit_ledger z o
  · rfl

theorem State.markSettling_ledger (i : Option HeaderId) : (s.markSettling i).ledger = s.ledger := by
  cases i with
  | none => rfl
  | some h => exact s.updMeter_ledger h fun _ => rfl

theorem State.startDryClock_ledger (z : ZoneId) (wetEnded : Bool) : (s.startDryClock z wetEnded).ledger = s.ledger := by
  unfold State.startDryClock
  split
  · exact s.updZone_ledger z rfl
  · rfl

/-- An OPENING channel draws already (R39, R60). -/
theorem State.enterWet_ledger {z : ZoneId} (hv : (s.zone z).valve = .opening) : (s.enterWet z).ledger = s.ledger :=
  State.ledger_ext (fun y => by
    rw [State.enterWet_zone]
    split
    · subst_vars
      simp [Zone.account, Zone.drawing, hv]
    · rfl) rfl (fun _ => rfl) rfl

theorem State.pruneSuspended_ledger (sel : ZoneId → Bool) : (s.pruneSuspended sel).ledger = s.ledger :=
  s.mapZones_ledger (f := fun z x => if decide (z ∈ s.planner.suspended) && sel z then x.noVisit else x) fun z x => by split <;> rfl

/-! ### Supply events -/

theorem State.shedWalk_ledger (port : Option Port) : (s.shedWalk port).ledger = s.ledger :=
  s.forZones_ledger (fun z t => by
    unfold State.shedStep
    split
    · exact (State.post_ledger _ _ _ _ _ _).trans (t.closeChannel_ledger z .shed)
    · rfl) _

theorem State.ceilingChange_ledger (before : Flows) (port : Option Port) : (s.ceilingChange before port).ledger = s.ledger := by
  unfold State.ceilingChange
  split
  · rfl
  · exact s.shedWalk_ledger port

theorem State.declare_ledger (p : Port) (flows : Flows) (validity : Nat) : (s.declare p flows validity).ledger = s.ledger :=
  (State.ceilingChange_ledger _ _ _).trans (State.post_ledger _ _ _ _ _ _)

theorem State.replaceFallback_ledger (p : Port) (flows : Flows) : (s.replaceFallback p flows).ledger = s.ledger := by
  unfold State.replaceFallback
  split
  · rfl
  · exact State.ceilingChange_ledger _ _ _

theorem State.lapse_ledger : s.lapse.ledger = s.ledger := by
  unfold State.lapse
  split
  · exact (State.ceilingChange_ledger _ _ _).trans (State.post_ledger _ _ _ _ _ _)
  · rfl

theorem State.runDeclare_ledger (p : Port) (flows : FlowFields) (validity : Nat) : (s.runDeclare p flows validity).1.ledger = s.ledger :=
  Checked.orRange_keeps (P := fun t => t.ledger = s.ledger) _ rfl fun _ _ => s.declare_ledger p _ _

theorem State.runSetFallback_ledger (p : Port) (flows : FlowFields) : (s.runSetFallback p flows).1.ledger = s.ledger :=
  Checked.orRange_keeps (P := fun t => t.ledger = s.ledger) _ rfl fun _ _ => s.replaceFallback_ledger p _

theorem State.takeUp_ledger : s.takeUp.ledger = s.ledger := by
  rcases s.takeUp_cases with he | ⟨p, d, -, -, he⟩
  · rw [he]
  · rw [he]; rfl

theorem State.takeSupplyEvent_ledger (ev : SupplyEvent) : (s.takeSupplyEvent ev).ledger = s.ledger := by
  cases ev with
  | declare p flows validity => exact s.complete_ledger (s.runDeclare_ledger p flows validity)
  | fallback p flows => exact s.complete_ledger (s.runSetFallback_ledger p flows)
  | lapse => exact s.lapse_ledger

theorem State.takeAtPoint_ledger (ev : SupplyEvent) : (s.takeAtPoint ev).ledger = s.ledger := by
  cases ev with
  | declare p flows validity => exact (State.takeSupplyEvent_ledger _ _).trans s.takeUp_ledger
  | fallback p flows => exact (State.takeSupplyEvent_ledger _ _).trans s.takeUp_ledger
  | lapse => exact s.takeSupplyEvent_ledger _

theorem State.passPoint_ledger : s.passPoint.ledger = s.ledger :=
  List.foldlRecOn (motive := fun t : State => t.ledger = s.ledger) _ _ rfl fun t ht e _ => (t.takeAtPoint_ledger e.event).trans ht

theorem State.sendInto_ledger (ev : SupplyEvent) (n : Nat) (due : Bool) : (s.sendInto ev n due).ledger = s.ledger := by
  rcases s.sendInto_cases ev n due with he | he
  · rw [he]
  · rw [he]; rfl

/-! ### Pops -/

theorem State.restore_ledger (port : Option Port) : (s.restore port).ledger = s.ledger := by
  refine (State.post_ledger _ _ _ _ _ _).trans ?_
  split <;> rfl

theorem State.pop_ledger (port : Option Port) : (s.pop port).ledger = s.ledger := by
  unfold State.pop
  dsimp only
  split
  · exact (State.restore_ledger _ port).trans (s.restore_ledger port)
  · exact s.restore_ledger port

/-! ### Edits, lockouts and SHUT reports -/

theorem State.recomputeQuotas_ledger : s.recomputeQuotas.ledger = s.ledger := s.mapZones_ledger fun _ _ => rfl

theorem State.applyEdit_ledger (z : ZoneId) (e : PendingEdit) : (s.applyEdit z e).ledger = s.ledger :=
  State.ledger_ext (fun y => by
    obtain ⟨hvalve, -, hopened⟩ := s.applyEdit_channel z e y
    unfold Zone.account Zone.drawing
    rw [hvalve, hopened]) (by rw [State.applyEdit_eq]) (fun _ => by rw [State.applyEdit_eq]; rfl) (by rw [State.applyEdit_eq])

theorem State.applyNow_ledger (z : ZoneId) (e : PendingEdit) : (s.applyNow z e).ledger = s.ledger := by
  refine ((State.handOff_judged _ z _).ledger.trans ?_).trans (s.applyEdit_ledger z e)
  unfold State.handOffQuotas
  split
  · exact State.recomputeQuotas_ledger _
  · rfl

theorem State.landEdits_ledger (before : Zone) : (s.landEdits before).ledger = s.ledger := by
  obtain ⟨hrest, -, -⟩ := s.landEdits_eq before
  rw [hrest]
  rfl

theorem State.applyPending_ledger (z : ZoneId) : (s.applyPending z).ledger = s.ledger := by
  unfold State.applyPending
  split
  · exact (State.landEdits_ledger _ _).trans (s.applyNow_ledger z _)
  · rfl

theorem State.setLockout_ledger (z : ZoneId) (l : Lockout) : (s.setLockout z l).ledger = s.ledger := by
  unfold State.setLockout
  dsimp only
  split
  · exact (State.post_ledger _ _ _ _ _ _).trans (s.updZone_ledger z rfl)
  · rfl

theorem State.finishEntry_ledger (z : ZoneId) (e : Ending) : (s.finishEntry z e).ledger = s.ledger := by
  unfold State.finishEntry
  split
  · dsimp only
    split
    · exact State.post_ledger _ _ _ _ _ _
    · rfl
  · rfl

theorem State.takeShut_ledger (z : ZoneId) (r : ShutReport) : (s.takeShut z r).ledger = s.ledger := by
  unfold State.takeShut
  split
  · exact (State.updZone_ledger _ z rfl).trans (s.endOpenVisit_ledger z _)
  · exact s.finishEntry_ledger z _
  · split
    · exact s.updZone_ledger z rfl
    · rfl
  · rfl

theorem State.triageAtShut_ledger (before : Zone) : (s.triageAtShut before).ledger = s.ledger := by
  unfold State.triageAtShut
  split
  · exact s.retriage_ledger
  · rfl

/-! ### Reports to the planner, windows and periods -/

theorem State.testAllotment_ledger (port : Option Port) : (s.testAllotment port).ledger = s.ledger := by
  unfold State.testAllotment
  split
  · split
    · rfl
    · exact (State.closeVisits_ledger _ _ _).trans (State.post_ledger _ _ _ _ _ _)
  · rfl

theorem State.reportProgress_ledger (r : Option (List ZoneId)) : (s.reportProgress r).ledger = s.ledger := by
  cases r with
  | none => rfl
  | some zs =>
    exact (State.testAllotment_ledger _ none).trans
      (s.forZones_ledger (fun z t => by split; exacts [t.closeChannel_ledger z _, rfl]) zs)

theorem State.evaluateWindows_ledger (gs : List GroupId) : (s.evaluateWindows gs).1.ledger = s.ledger := by
  have hstore : (gs.foldl State.storeWindow s).ledger = s.ledger :=
    List.foldlRecOn (motive := fun t : State => t.ledger = s.ledger) _ _ rfl fun t ht _ _ => ht
  unfold State.evaluateWindows
  dsimp only
  split
  · exact hstore
  · exact (State.closeVisits_ledger _ _ _).trans hstore

theorem State.takeRoll_ledger : s.takeRoll.ledger = s.ledger := by
  have hrenew : ∀ t : State,
      ({ t.mapZones (fun _ x => { x with cyclesRemaining := (x.programme.map (·.cycles)).getD 0 }) with
        planner := { t.planner with allotmentReached := false } } : State).ledger = t.ledger := fun t =>
    t.mapZones_ledger (f := fun _ x => { x with cyclesRemaining := (x.programme.map (·.cycles)).getD 0 }) fun _ _ => rfl
  exact (hrenew _).trans ((State.pruneSuspended_ledger _ _).trans (s.closeVisits_ledger _ _))

theorem State.rollPeriod_ledger (cause : Int) (port : Option Port) : (s.rollPeriod cause port).ledger = s.ledger :=
  (State.takeRoll_ledger _).trans ((State.post_ledger _ _ _ _ _ _).trans
    ((State.recomputeQuotas_ledger _).trans (s.mapZones_ledger fun _ _ => rfl)))

theorem State.takePass_ledger : s.takePass.1.ledger = s.ledger := by
  unfold State.takePass
  split
  · split
    · rfl
    · exact State.rollPeriod_ledger _ _ _
  · rfl

theorem State.countSecond_ledger : s.countSecond.ledger = s.ledger :=
  State.ledger_ext (fun z => by rw [State.countSecond_zone]; rfl) rfl
    (fun h => by rw [State.countSecond_eq]; simp [State.meter, Meter.totals]) rfl

/-! ### Meters -/

theorem State.beginInterval_ledger (i : HeaderId) : (s.beginInterval i).ledger = s.ledger := s.updMeter_ledger i fun _ => rfl

theorem State.rawPulse_ledger (i : HeaderId) : (s.rawPulse i).ledger = s.ledger := by
  rw [State.rawPulse_eq]
  split
  · exact s.updMeter_ledger i fun _ => rfl
  · split
    · exact s.updMeter_ledger i fun _ => rfl
    · split
      · exact s.updMeter_ledger i fun _ => rfl
      · exact (State.post_ledger _ _ _ _ _ _).trans
          (s.updMeter_ledger i (f := fun m => { m with residue := 0, saturated := true }) fun _ => rfl)

theorem State.postFlow_ledger (i : HeaderId) (called : Option Direction) (only : Option ZoneId) (flow : Nat) :
    (s.postFlow i called only flow).ledger = s.ledger := by
  cases called with
  | none => rfl
  | some d => exact s.post_ledger _ _ _ _ _

/-! ### Regimes, stops and frost -/

theorem State.enterRegime_ledger (r : Regime) (manual : Option (List Entry)) (stack : List Frame) (port : Option Port) :
    (s.enterRegime r manual stack port).ledger = s.ledger := State.post_ledger _ _ _ _ _ _

theorem State.reportFramed_ledger (es : List Entry) : (s.reportFramed es).ledger = s.ledger :=
  List.foldlRecOn (motive := fun t : State => t.ledger = s.ledger) _ _ rfl fun t ht e _ => by
    split
    · exact (t.post_ledger _ _ _ _ _).trans ht
    · exact ht

theorem State.pushFrost_ledger : s.pushFrost.ledger = s.ledger := by
  unfold State.pushFrost
  split
  · exact s.enterRegime_ledger _ _ _ _
  · exact (State.enterRegime_ledger _ _ _ _ _).trans (s.closeTagged_ledger _ _)
  · exact (State.enterRegime_ledger _ _ _ _ _).trans ((State.closeTagged_ledger _ _ _).trans (s.reportFramed_ledger _))
  · rfl

theorem State.armingChanges_ledger : s.armingChanges.ledger = s.ledger :=
  (State.triage_judged _).ledger.trans (s.mapZones_ledger (f := fun _ x => { x with dryClock := 0, overdue := false }) fun _ _ => rfl)

theorem State.clearAdmitted_ledger : s.clearAdmitted.ledger = s.ledger :=
  s.mapZones_ledger (f := fun _ x => { x with admitted := false, requiredFlow := none, overdue := false }) fun _ _ => rfl

theorem State.judgeStale_ledger (wasFresh : Bool) : (s.judgeStale wasFresh).ledger = s.ledger := by
  unfold State.judgeStale
  split
  · exact s.post_ledger _ _ _ _ _
  · rfl

theorem State.stopEngine_ledger (cause : StopCause) (port : Option Port) (value : Int) : (s.stopEngine cause port value).ledger = s.ledger :=
  (State.post_ledger _ _ _ _ _ _).trans (State.closeAll_ledger _ _)

theorem State.takeStop_ledger : s.takeStop.ledger = s.ledger := by
  unfold State.takeStop
  split
  · exact s.stopEngine_ledger _ _ _
  · exact s.stopEngine_ledger _ _ _
  · split
    · rfl
    · exact State.post_ledger _ _ _ _ _ _

end

end Sys2Proof.Machine
end

section
/-! The rule of the ledger: what is kept by every operation that leaves the ledger as it stands, and by an OPENING report, an arrival at SHUT, an apportionment and the
RESET line, is kept by every step. (`ChannelLaw` cannot carry R63 and R76: what it calls steady may change committed flow and totals.) -/

namespace Sys2Proof.Machine

/-- A predicate on what the ledger holds that an OPENING report, an arrival at SHUT, an apportionment, the RESET line and POWER_ON keep (R54, R61, R63, R76). -/
structure LedgerLaw (P : State → Prop) : Prop where
  still : ∀ {s t : State}, P s → t.ledger = s.ledger → P t
  opened : ∀ (s : State) (z : ZoneId) (x : Programme) (tag : UseTag), (s.zone z).valve = .shut → P s → P (s.committed z x tag)
  shut : ∀ (s : State) (z : ZoneId), (s.zone z).valve ≠ .shut → P s → P ((s.updZone z Zone.shut).lowerCommitted (s.zone z).opened)
  apportion : ∀ (s : State) (i : HeaderId), P s → P (s.apportion i)
  asserted : ∀ s : State, P s → P s.assertReset
  released : ∀ (s : State) (a b c : Straps), P s → P (s.releaseBlocks a b c)
  powerOn : ∀ (a b c : Straps) (stopLow : Bool) (pending : List Instr), P (.powerOn a b c stopLow pending)

namespace LedgerLaw
variable {P : State → Prop}

theorem complete (k : LedgerLaw P) {s : State} {p : Port} {d : Directive} {run : State → State × Answer} (h : P s) (hrun : P (run s).1) :
    P (s.complete p d run) := State.complete_keeps (fun _ _ _ ht => k.still ht rfl) h hrun

/-! ### Selections -/

/-- An open command: its OPENING report, the shed walk, and entry to WET (R38, R39, R87). -/
theorem openChannel (k : LedgerLaw P) {s : State} {z : ZoneId} {tag : UseTag} (h : P s) : P (s.openChannel z tag) := by
  refine State.openChannel_keeps (fun x _ hv _ => k.still (k.opened s z x tag hv h) ?_) (fun t hv ht => k.still ht (t.enterWet_ledger hv)) h
  have hmark : ∀ t : State, (t.markOpening x.header).ledger = t.ledger := fun t => t.updMeter_ledger x.header fun _ => rfl
  exact (hmark _).trans (State.shedWalk_ledger _ none)

theorem ifFits (k : LedgerLaw P) {x : Programme} {f g : State → State} (hf : ∀ t, P t → P (f t)) (hg : ∀ t, P t → P (g t)) {s : State}
    (h : P s) : P (s.ifFits x f g).state := by
  have hpass : ∀ t : State, P t → P t.passPoint := fun t ht => k.still ht t.passPoint_ledger
  unfold State.ifFits
  dsimp only
  split
  · exact hf _ (hpass _ (hpass s h))
  · exact hg _ (hpass s h)

theorem startVisit (k : LedgerLaw P) {s : State} {z : ZoneId} {x : Programme} {target volume : Zone → Nat} (h : P s) :
    P (s.updZone z fun y => y.startVisit x (target y) (volume y)) := k.still h (s.updZone_ledger z rfl)

theorem continueVisit (k : LedgerLaw P) {s : State} {z : ZoneId} {x : Programme} (h : P s) : P (s.continueVisit z x) := by
  have hvisit : P (s.updZone z fun y => y.startVisit x (y.visitTarget.getD 0) y.visitVolume) := k.startVisit h
  exact k.openChannel (k.still hvisit rfl)

theorem newVisit (k : LedgerLaw P) {s : State} {z : ZoneId} {x : Programme} (h : P s) : P (s.newVisit z x) := k.openChannel (k.startVisit h)

theorem frostVisit (k : LedgerLaw P) {s : State} {z : ZoneId} {x : Programme} (h : P s) : P (s.frostVisit z x) :=
  k.openChannel (k.still h (s.updZone_ledger z (f := fun y => { y with frostVisit := true, dwellRemaining := some x.dwell }) rfl))

theorem suspendedStep (k : LedgerLaw P) (z : ZoneId) (s : State) (h : P s) : P (s.suspendedStep z).state := by
  unfold State.suspendedStep
  split
  · split
    · exact k.ifFits (fun _ => k.continueVisit) (fun _ => id) h
    · exact h
  · exact h

theorem ringStep (k : LedgerLaw P) (i : Nat) (s : State) (h : P s) : P (s.ringStep i).state := by
  have hpointer : ∀ (t : State) (n : Nat) (passed : Bool), P t → P (t.movePointer n passed) := fun _ _ _ ht => k.still ht rfl
  unfold State.ringStep
  split
  · exact h
  · split
    · exact h
    · split
      · exact k.ifFits (fun t ht => k.newVisit (hpointer t _ _ ht)) (fun t => hpointer t _ _) h
      · exact h

theorem quotaSelect (k : LedgerLaw P) {s : State} (h : P s) : P s.quotaSelect := by
  have first := Progress.through_keeps State.suspendedStep k.suspendedStep s.planner.suspended s h
  unfold State.quotaSelect
  dsimp only
  split
  · exact first
  · exact Progress.through_keeps State.ringStep k.ringStep _ _ first

theorem frostSelect (k : LedgerLaw P) {s : State} (h : P s) : P s.frostSelect :=
  Progress.through_keeps State.frostStep (fun _ _ ht => k.ifFits (fun _ => k.frostVisit) (fun _ => id) ht) _ s h

theorem walkStep (k : LedgerLaw P) (i : Nat) (s : State) (h : P s) : P (s.walkStep i).state := by
  have hset : ∀ (t : State) (e : EntryState), P t → P (t.setEntry i e) := fun _ _ ht => k.still ht rfl
  have hskip : ∀ (z : ZoneId) (v : Int), P (s.skipEntry i z v) := fun _ _ => k.still (hset s .skipped h) (State.post_ledger _ _ _ _ _ _)
  unfold State.walkStep
  split
  · exact h
  · split
    · split
      · exact hskip _ _
      · split
        · exact hskip _ _
        · split
          · exact h
          · exact k.ifFits (fun t ht => k.openChannel (hset t _ ht)) (fun _ => id) h
    · exact h

theorem walk (k : LedgerLaw P) {s : State} (h : P s) : P s.walk := Progress.through_keeps State.walkStep k.walkStep _ s h

theorem pop (k : LedgerLaw P) {s : State} {port : Option Port} (h : P s) : P (s.pop port) := k.still h (s.pop_ledger port)

theorem selectTurns (k : LedgerLaw P) (n : Nat) {s : State} (h : P s) : P (s.selectTurns n) := by
  induction n generalizing s with
  | zero => exact h
  | succ n ih =>
    unfold State.selectTurns
    split
    · split
      · exact h
      · exact k.quotaSelect h
      · exact k.frostSelect h
      · dsimp only
        split
        · exact ih (k.pop (k.walk h))
        · exact k.walk h
    · exact h

theorem retriage (k : LedgerLaw P) {s : State} (h : P s) : P s.retriage := k.still h s.retriage_ledger

/-- The report of a ceiling change, up to its selection (R84). -/
theorem report (k : LedgerLaw P) {s : State} (h : P s) : P (State.retriage { s with ceilingReportOwed := false }) := k.retriage (k.still h rfl)

theorem select (k : LedgerLaw P) {s : State} (h : P s) : P s.select := by
  have hreports : ∀ n t, P t → P (t.reportTurns n) := fun n => by
    induction n with
    | zero => exact fun _ ht => ht
    | succ n ih =>
      intro t ht
      unfold State.reportTurns
      split
      · exact ih _ (k.selectTurns _ (k.report ht))
      · exact ht
  exact hreports _ _ (k.selectTurns _ h)

theorem selectIf (k : LedgerLaw P) {s : State} {due : Bool} (h : P s) : P (s.selectIf due) := by
  cases due
  · exact h
  · exact k.select h

theorem reportCeilings (k : LedgerLaw P) {s : State} (h : P s) : P s.reportCeilings := by
  unfold State.reportCeilings
  split
  · exact k.select (k.report h)
  · exact h

/-! ### Arrival at SHUT and lockouts -/

/-- The SHUT reports of a channel that has just left a state in which it drew: the committed flow falls first, and nothing after it touches the ledger before the
selection (R51, R76). -/
theorem shutReports (k : LedgerLaw P) {s t : State} {z : ZoneId} {r : ShutReport} (hv : (s.zone z).valve ≠ .shut)
    (ht : t.ledger = (s.updZone z Zone.shut).ledger) (h : P s) : P (t.shutReports z r) := by
  have hopened : (t.zone z).opened = (s.zone z).opened := by
    refine (congrArg Prod.snd ((State.ledger_reads ht).1 z)).trans ?_
    rw [State.zone_updZone_same]
    rfl
  have hlowered : (t.lowerCommitted (t.zone z).opened).ledger = ((s.updZone z Zone.shut).lowerCommitted (s.zone z).opened).ledger := by
    obtain ⟨hz, hc, hm, hr⟩ := State.ledger_reads ht
    rw [hopened]
    cases (s.zone z).opened with
    | none => exact ht
    | some o => exact State.ledger_ext hz (congrArg (Flows.sub · o.header o.flow) hc) hm hr
  have hsettled : ∀ (c : Bool) (u : State) (i : Option HeaderId), (if c then u.markSettling i else u).ledger = u.ledger := fun c u i => by
    cases c
    · rfl
    · exact u.markSettling_ledger i
  refine k.select (k.still (k.shut s z hv h) ?_)
  refine (State.triageAtShut_ledger _ _).trans ((State.startDryClock_ledger _ _ _).trans ((State.takeShut_ledger _ _ _).trans ?_))
  exact (State.applyPending_ledger _ _).trans ((hsettled _ _ _).trans hlowered)

theorem driveFault (k : LedgerLaw P) {s : State} {z : ZoneId} (h : P s) : P (s.driveFault z) := by
  unfold State.driveFault
  dsimp only
  split
  · rename_i ho
    exact k.shutReports (fun hv => by simp [Zone.isOpen, hv] at ho) (State.setLockout_ledger _ z _) h
  · exact h

theorem lockoutWhileShut (k : LedgerLaw P) {s : State} {z : ZoneId} (h : P s) : P (s.lockoutWhileShut z) := by
  have hjudge : P (if (s.zone z).frostMember then s.retriage else s) := by
    split
    · exact k.retriage h
    · exact h
  unfold State.lockoutWhileShut
  extract_lets t
  split
  · exact hjudge
  · exact k.select hjudge

theorem requestLockout (k : LedgerLaw P) {s : State} {z : ZoneId} {l : Lockout} (h : P s) : P (s.requestLockout z l) := by
  have hlocked : P (s.setLockout z l) := k.still h (s.setLockout_ledger z l)
  have hclosed : P ((s.setLockout z l).closeChannel z .lockout) := k.still hlocked (State.closeChannel_ledger _ z _)
  unfold State.requestLockout
  dsimp only
  split
  · split
    · exact hclosed
    · exact hclosed
    · exact hlocked
    · exact k.lockoutWhileShut hlocked
  · exact h

theorem removeLockout (k : LedgerLaw P) {s : State} {z : ZoneId} (h : P s) : P (s.removeLockout z) := by
  have hclear : P (s.updZone z fun x => { x with lockout := none }) := k.still h (s.updZone_ledger z rfl)
  refine k.select ?_
  split
  · exact k.retriage hclear
  · exact hclear

/-! ### Meters -/

theorem sendLockout (k : LedgerLaw P) {s : State} {called : Option Direction} {only : Option ZoneId} {later : Bool} (h : P s) :
    P (s.sendLockout called only later) := by
  unfold State.sendLockout
  split
  · split
    · exact k.still h rfl
    · exact k.requestLockout h
  · exact h

/-- An expiry of an interval, in whatever order its reports are taken (R59; log entry 9). -/
theorem expireInterval (k : LedgerLaw P) {s : State} {i : HeaderId} {order : ExpiryOrder} (h : P s) : P (s.expireInterval i order) := by
  have hcredit : ∀ (n : Nat) (d : Option Direction), P ((s.apportion i).updMeter i fun m => { m with lastFlow := n, run := d }) := fun _ _ =>
    k.still (k.apportion s i h) (State.updMeter_ledger _ i fun _ => rfl)
  have hnotice : ∀ {t : State} {called only flow}, P t → P (t.postFlow i called only flow) := fun ht => k.still ht (State.postFlow_ledger _ _ _ _ _)
  have hprogress : ∀ {t : State} {r}, P t → P (t.reportProgress r) := fun ht => k.still ht (State.reportProgress_ledger _ _)
  refine k.still ?_ (State.beginInterval_ledger _ i)
  cases order with
  | progressFirst => exact k.sendLockout (hnotice (hprogress (hcredit _ _)))
  | noticeFirst => exact k.sendLockout (hprogress (hnotice (hcredit _ _)))
  | lockoutFirst => exact hprogress (k.sendLockout (hnotice (hcredit _ _)))
  | lockoutLater => exact k.sendLockout (hnotice (hprogress (hcredit _ _)))
  | noticeFirstLockoutLater => exact k.sendLockout (hprogress (hnotice (hcredit _ _)))

theorem replaceMeter (k : LedgerLaw P) {s : State} {i : HeaderId} {v : MeterSettings} (h : P s) : P (s.replaceMeter i v) := by
  have hclosed : P (s.closedOut i) := k.still (k.apportion s i h) (State.reportProgress_ledger _ _)
  have hset : P ((s.closedOut i).updMeter i fun m => m.withSettings v) := k.still hclosed (State.updMeter_ledger _ i fun _ => rfl)
  exact k.still hset (State.beginInterval_ledger _ i)

/-! ### The clock, the ring and frost -/

theorem windows (k : LedgerLaw P) {s : State} {gs : List GroupId} (h : P s) : P (s.evaluateWindows gs).1 :=
  k.still h (s.evaluateWindows_ledger gs)

theorem advanceClock (k : LedgerLaw P) {s : State} (h : P s) : P s.advanceClock := by
  have htick : P { s with clock := s.clock.advance } := k.still h rfl
  unfold State.advanceClock
  dsimp only
  split
  · refine k.selectIf ?_
    split
    · exact k.still (k.windows htick) (State.takePass_ledger _)
    · exact k.windows htick
  · exact htick

theorem replacePeriod (k : LedgerLaw P) {s : State} {p : Port} {v : PeriodSettings} (h : P s) : P (s.replacePeriod p v) := by
  have hset : P { s with clock := s.clock.withSettings v } := k.still h rfl
  unfold State.replacePeriod
  dsimp only
  split
  · exact hset
  · exact k.select (k.still hset ((State.testAllotment_ledger _ _).trans (State.recomputeQuotas_ledger _)))

theorem replaceRing (k : LedgerLaw P) {s : State} {ring : List ZoneId} (h : P s) : P (s.replaceRing ring) :=
  k.select (k.still h ((State.recomputeQuotas_ledger _).trans (State.pruneSuspended_ledger _ _)))

theorem armFrost (k : LedgerLaw P) {s : State} {target : FrostState} {inhibit : Bool} {port : Option Port} {value : Int} (h : P s) :
    P (s.armFrost target inhibit port value) :=
  k.select (k.still h ((State.armingChanges_ledger _).trans ((State.pushFrost_ledger _).trans (State.post_ledger _ _ _ _ _ _))))

theorem disarmFrost (k : LedgerLaw P) {s : State} {inhibit : Bool} {port : Option Port} {value : Int} (h : P s) :
    P (s.disarmFrost inhibit port value) :=
  k.select (k.pop (k.still h ((State.clearAdmitted_ledger _).trans (State.post_ledger _ _ _ _ _ _))))

theorem judgeFrost (k : LedgerLaw P) {s : State} {port : Option Port} (h : P s) : P (s.judgeFrost port) := by
  unfold State.judgeFrost
  dsimp only
  split
  · split
    · exact k.armFrost h
    · exact h
  · split
    · split
      · exact k.disarmFrost h
      · exact h
    · exact k.still h rfl
  · exact h

theorem judgeStale (k : LedgerLaw P) {s : State} {wasFresh : Bool} (h : P s) : P (s.judgeStale wasFresh) := k.still h (s.judgeStale_ledger wasFresh)

theorem evaluateClimate (k : LedgerLaw P) {s : State} {isReport : Bool} {port : Option Port} (h : P s) : P (s.evaluateClimate isReport port) :=
  k.judgeStale (k.judgeFrost (k.still h rfl))

theorem expireSlot (k : LedgerLaw P) {s : State} {p : Port} (h : P s) : P (s.expireSlot p) := by
  unfold State.expireSlot
  split
  · split
    · exact k.evaluateClimate (k.still h rfl)
    · exact h
  · exact h

theorem reinitialise (k : LedgerLaw P) {s : State} {p : Port} {x : Straps} (h : P s) : P (s.reinitialise p x) := by
  have hclimate : P (State.evaluateClimate
      ((s.updPort p fun q => q.reinitialised x (decide (s.hold planEntry = .held p))).setSlot p none) false none) := k.evaluateClimate (k.still h rfl)
  exact k.still hclimate rfl

/-- At the release the pending edits and a pending roll leave the ledger as the blocks left it (R21, R54, R92). -/
theorem releaseReset (k : LedgerLaw P) {s : State} (a b c : Straps) (h : P s) : P (s.releaseReset a b c) := by
  have hedits : ∀ t : State, t.applyAllPending.ledger = t.ledger := fun t => by
    unfold State.applyAllPending
    split
    · rfl
    · refine (State.recomputeQuotas_ledger _).trans (t.forZones_ledger (fun z u => ?_) _)
      unfold State.applyAtRelease
      split
      · exact u.applyEdit_ledger z _
      · rfl
  have hrestarted : P (s.restarted a b c) := k.still (k.released s a b c h) (hedits _)
  rw [State.releaseReset_eq]
  split
  · exact k.still (k.still hrestarted rfl) (State.rollPeriod_ledger _ _ _)
  · exact hrestarted

/-! ### The effects of directives -/

theorem carryOutEdit (k : LedgerLaw P) {s : State} {z : ZoneId} {e : PendingEdit} {clamped : Bool} (h : P s) : P (s.carryOutEdit z e clamped).1 := by
  unfold State.carryOutEdit
  split
  · exact k.select (k.still h (s.applyNow_ledger z e))
  · exact k.still h (s.updZone_ledger z (f := fun x => { x with pendingEdit := some e }) rfl)

theorem runClearZone (k : LedgerLaw P) {s : State} {p : Port} {zone : Nat} (h : P s) : P (s.runClearZone p zone).1 := by
  refine KeptInEvents.withIndex P h fun _ => ?_
  split
  · exact h
  · exact State.requireGroups_keeps h (k.carryOutEdit h)

theorem runSetRing (k : LedgerLaw P) {s : State} {p : Port} {zones : List Nat} (h : P s) : P (s.runSetRing p zones).1 := by
  unfold State.runSetRing
  split
  · exact h
  · split
    · exact h
    · rw [State.requirePlan_eq]
      split
      · exact k.replaceRing h
      · exact h

theorem runTakeHold (k : LedgerLaw P) {s : State} {p : Port} {e : EntryId} (h : P s) : P (s.runTakeHold p e).1 := by
  have hset : ∀ x, P (s.setHold e x) := fun _ => k.still h rfl
  unfold State.runTakeHold
  split
  · exact hset _
  · split <;> exact h
  · split
    · exact hset _
    · exact h

theorem runReleaseHold (k : LedgerLaw P) {s : State} {p : Port} {e : EntryId} (h : P s) : P (s.runReleaseHold p e).1 := by
  have hset : ∀ x, P (s.setHold e x) := fun _ => k.still h rfl
  unfold State.runReleaseHold
  split
  · split <;> exact hset _
  · exact h

theorem runBreakHold (k : LedgerLaw P) {s : State} {e : EntryId} (h : P s) : P (s.runBreakHold e).1 := by
  have hbroken : ∀ q, P (s.breakEntry e q) := fun _ => k.still h (State.post_ledger _ _ _ _ _ _)
  unfold State.runBreakHold
  split
  · exact hbroken _
  · exact hbroken _
  · exact h

theorem runStartQuota (k : LedgerLaw P) {s : State} {p : Port} (h : P s) : P (s.runStartQuota p).1 := by
  have hinsert : P s.insertQuotaFrame := k.still h rfl
  unfold State.runStartQuota
  split
  · exact h
  · exact k.select (k.still h (s.enterRegime_ledger _ _ _ _))
  · split
    · exact h
    · exact hinsert
  · split
    · exact h
    · exact hinsert

theorem runStopQuota (k : LedgerLaw P) {s : State} {p : Port} (h : P s) : P (s.runStopQuota p).1 := by
  unfold State.runStopQuota
  split
  · dsimp only
    exact k.select (k.pop (k.still h ((State.pruneSuspended_ledger _ _).trans (s.closeTagged_ledger _ _))))
  · split
    · exact k.still h (State.pruneSuspended_ledger s.removeQuotaFrame _)
    · exact h

theorem startManual (k : LedgerLaw P) {s : State} {p : Port} {entries : List Entry} (h : P s) : P (s.startManual p entries) := by
  refine k.select (k.still ?_ (State.enterRegime_ledger _ _ _ _ _))
  split
  · exact k.still h (s.closeTagged_ledger _ _)
  · exact h

theorem runRunManual (k : LedgerLaw P) {s : State} {p : Port} {entries : List (Nat × Nat)} (h : P s) : P (s.runRunManual p entries).1 := by
  have htake : ∀ zones times clamped, P (s.takeRunManual p zones times clamped).1 := fun zones times clamped => by
    unfold State.takeRunManual
    split
    · exact h
    · split
      · exact k.startManual h
      · exact k.startManual h
      · exact h
      · exact h
  unfold State.runRunManual
  split
  · exact h
  · split
    · exact h
    · exact Checked.orRange_keeps _ h fun times clamped => htake _ times clamped

theorem runCancelManual (k : LedgerLaw P) {s : State} {p : Port} (h : P s) : P (s.runCancelManual p).1 := by
  have hdiscard : ∀ t : State, P t → P t.discardManual := fun _ ht => k.still ht rfl
  have hremove : P s.removeManualFrame := k.still h rfl
  unfold State.runCancelManual
  split
  · dsimp only
    exact k.select (k.pop (hdiscard _ (k.still h (s.closeTagged_ledger _ _))))
  · split
    · exact hremove
    · exact h

theorem runPause (k : LedgerLaw P) {s : State} (h : P s) : P s.runPause.1 := by
  unfold State.runPause
  split
  · exact h
  · split
    · exact k.still h rfl
    · exact h

theorem runResume (k : LedgerLaw P) {s : State} (h : P s) : P s.runResume.1 := by
  unfold State.runResume
  split
  · exact h
  · split
    · exact h
    · exact k.select (k.still h rfl)

theorem runShutdown (k : LedgerLaw P) {s : State} {p : Port} (h : P s) : P (s.runShutdown p).1 := by
  unfold State.runShutdown
  split
  · exact h
  · dsimp only
    exact k.still h (s.stopEngine_ledger _ _ _)

theorem runArmFrost (k : LedgerLaw P) {s : State} {p : Port} (h : P s) : P (s.runArmFrost p).1 := by
  unfold State.runArmFrost
  split
  · exact k.armFrost h
  · exact k.still h (State.post_ledger _ _ _ _ _ _)
  · exact h

theorem runDisarmFrost (k : LedgerLaw P) {s : State} {p : Port} (h : P s) : P (s.runDisarmFrost p).1 := by
  unfold State.runDisarmFrost
  split
  · exact k.disarmFrost h
  · split
    · exact h
    · exact k.still h rfl

theorem runCloseZone (k : LedgerLaw P) {s : State} {z : ZoneId} (h : P s) : P (s.runCloseZone z).1 := by
  unfold State.runCloseZone
  split
  · exact k.still h (s.closeChannel_ledger z _)
  · exact h

theorem runClearLockout (k : LedgerLaw P) {s : State} {z : ZoneId} (h : P s) : P (s.runClearLockout z).1 := by
  unfold State.runClearLockout
  split
  · exact h
  · split
    · exact h
    · exact k.removeLockout h

theorem runNewPeriod (k : LedgerLaw P) {s : State} {p : Port} (h : P s) : P (s.runNewPeriod p).1 := by
  have hstart : P { s with clock := { s.clock with daysInto := 0 } } := k.still h rfl
  unfold State.runNewPeriod
  dsimp only
  exact k.select (k.still hstart (State.rollPeriod_ledger _ _ _))

/-- What the ledger's operations keep, the effect of every directive keeps (R172). -/
theorem run (k : LedgerLaw P) (p : Port) (d : Directive) {s : State} (h : P s) : P (d.run p s).1 := by
  have hport : ∀ (f : PortState → PortState) (a : Answer), P (s.updPort p f, a).1 := fun _ _ => k.still h rfl
  cases d with
  | readZone z => exact KeptInEvents.withIndex P h fun _ => h
  | readGroup g => exact KeptInEvents.withIndex P h fun _ => h
  | readRing => exact h
  | readHeader i => exact KeptInEvents.withIndex P h fun _ => h
  | readEngine => exact h
  | readClimate => exact h
  | readClock => exact h
  | readHolds => exact h
  | readPort => exact hport _ _
  | selectZones f t => exact KeptInEvents.runSelectZones P h
  | fetchNotice =>
    change P (s.runFetchNotice p).1
    unfold State.runFetchNotice
    split
    · exact hport _ _
    · exact h
  | takeHold e => exact KeptInEvents.withIndex P h fun _ => k.runTakeHold h
  | releaseHold e => exact KeptInEvents.withIndex P h fun _ => k.runReleaseHold h
  | editZone z f =>
    exact KeptInEvents.withIndex P h fun _ => Checked.orRange_keeps _ h fun _ _ => State.requireGroups_keeps h (k.carryOutEdit h)
  | clearZone z => exact k.runClearZone h
  | setWindow g a b =>
    exact KeptInEvents.withIndex P h fun _ =>
      Checked.orRange_keeps _ h fun _ _ => State.requireGroups_keeps h (k.selectIf (k.windows (k.still h rfl)))
  | setRing zs => exact k.runSetRing h
  | setPeriod l m a => exact Checked.orRange_keeps _ h fun _ _ => KeptInEvents.requirePlanOverBreak P h (k.replacePeriod h)
  | setMeter i f =>
    exact KeptInEvents.withIndex P h fun _ => Checked.orRange_keeps _ h fun _ _ => KeptInEvents.requirePlanOverBreak P h (k.replaceMeter h)
  | declareSupply f v => exact k.still h (s.runDeclare_ledger p f v)
  | setFallback f => exact k.still h (s.runSetFallback_ledger p f)
  | reportTemperature t => exact Checked.orRange_keeps _ h fun _ _ => k.evaluateClimate (k.still h rfl)
  | armFrost => exact k.runArmFrost h
  | disarmFrost => exact k.runDisarmFrost h
  | setFrostLimits a d i t => exact Checked.orRange_keeps _ h fun _ _ => k.evaluateClimate (k.still h rfl)
  | startQuota => exact k.runStartQuota h
  | stopQuota => exact k.runStopQuota h
  | runManual es => exact k.runRunManual h
  | cancelManual => exact k.runCancelManual h
  | pause => exact k.runPause h
  | resume => exact k.runResume h
  | shutdown => exact k.runShutdown h
  | closeZone z => exact KeptInEvents.withIndex P h fun _ => k.runCloseZone h
  | clearLockout z => exact KeptInEvents.withIndex P h fun _ => k.runClearLockout h
  | breakHold e => exact KeptInEvents.withIndex P h fun _ => k.runBreakHold h
  | setClock d t => exact Checked.orRange_keeps _ h fun _ _ => k.selectIf (k.windows (k.still h rfl))
  | newPeriod => exact k.runNewPeriod h
  | setOptions m f t r n => exact Checked.orRange_keeps _ h fun _ _ => hport _ _
  | narrowRights a b c d => exact hport _ _

/-! ### Every step -/

theorem execDirective (k : LedgerLaw P) {c : Instr} {p : Port} {d : Directive} (hc : c.directive = some (p, d)) {s t : State} (h : P s)
    (he : exec c s = .next t) : P t := by
  have hcompleted : P (s.complete p d (d.run p)) := k.complete h (k.run p d h)
  cases hd : d.isSupply with
  | false =>
    rw [exec_directive hc hd] at he
    exact ChannelLaw.of_next he hcompleted
  | true =>
    rcases exec_supplyDirective hc hd s with hx | ⟨ev, n, -, hx⟩
    · rw [hx] at he
      exact ChannelLaw.of_next he (k.reportCeilings hcompleted)
    · rw [hx] at he
      exact ChannelLaw.of_next he (k.still h (s.sendInto_ledger _ _ _))

theorem execEvent (k : LedgerLaw P) {c : Instr} (hc : c.directive = none) {s t : State} (h : P s) (he : exec c s = .next t) : P t := by
  have hclose : ∀ (z : ZoneId) (e : Ending), P (s.closeChannel z e) := fun z e => k.still h (s.closeChannel_ledger z e)
  have hports : ∀ {t : State}, PortsOnly s t → P t := fun q => k.still h q.ledger
  cases c with
  | powerOn a b c => exact ChannelLaw.of_next he (k.powerOn _ _ _ _ _)
  | resetAsserted =>
    refine ChannelLaw.of_next he ?_
    split
    · exact h
    · exact k.asserted s h
  | resetReleased a b c =>
    refine ChannelLaw.of_next he ?_
    split
    · exact k.releaseReset a b c h
    · exact h
  | stopAsserted =>
    have hlow : P { s with stopLow := true } := k.still h rfl
    refine ChannelLaw.of_next he ?_
    split
    · exact h
    · exact State.live_keeps hlow (k.still hlow (State.takeStop_ledger _))
  | stopReleased => exact ChannelLaw.of_next he (k.still h rfl)
  | rawPulse i => exact ChannelLaw.of_next he (State.live_keeps h (k.still h (s.rawPulse_ledger i)))
  | driveSenseFall z =>
    refine ChannelLaw.of_next he (State.live_keeps h ?_)
    split
    · exact k.driveFault h
    · exact h
  | senseTimerExpiry z high =>
    have hsampled : P (s.updZone z fun x => { x with sensePhase := .watching, senseTimer := none }) := k.still h (s.updZone_ledger z rfl)
    refine ChannelLaw.of_next he (State.live_keeps h ?_)
    split
    · cases high
      · exact k.driveFault hsampled
      · exact hsampled
    · exact h
  | fillTimerExpiry z =>
    refine ChannelLaw.of_next he (State.live_keeps h ?_)
    split
    · rename_i hdue
      exact k.still h (s.enterWet_ledger hdue.1)
    · exact h
  | closeTimerExpiry z =>
    refine ChannelLaw.of_next he (State.live_keeps h ?_)
    split
    · rename_i hdue
      exact k.shutReports (by simp [hdue.1]) rfl h
    · exact h
  | intervalTimerExpiry i order =>
    refine ChannelLaw.of_next he (State.live_keeps h ?_)
    split
    · exact k.expireInterval h
    · exact h
  | validityTimerExpiry taking =>
    refine ChannelLaw.of_next he (State.live_keeps h ?_)
    cases taking with
    | atOnce => exact k.reportCeilings (k.still h s.lapse_ledger)
    | inSelection n => exact k.still h (s.sendInto_ledger _ _ _)
  | secondAdvance => exact ChannelLaw.of_next he (k.advanceClock (State.live_keeps h (k.still h s.countSecond_ledger)))
  | slotExpiry p => exact ChannelLaw.of_next he (State.live_keeps h (k.expireSlot h))
  | thawHoldExpiry =>
    refine ChannelLaw.of_next he (State.live_keeps h ?_)
    split
    · exact k.disarmFrost h
    · exact h
  | guardTimerExpiry z =>
    refine ChannelLaw.of_next he (State.live_keeps h ?_)
    split
    · exact k.still (hclose z .guardExpired) (State.post_ledger _ _ _ _ _ _)
    · exact h
  | soakReached z =>
    refine ChannelLaw.of_next he (State.live_keeps h ?_)
    split
    · exact k.select h
    · exact h
  | dwellEnd z =>
    refine ChannelLaw.of_next he (State.live_keeps h ?_)
    split
    · exact hclose z _
    · exact h
  | runTimeSpent z =>
    refine ChannelLaw.of_next he (State.live_keeps h ?_)
    split
    · exact hclose z _
    · exact h
  | overdue z =>
    refine ChannelLaw.of_next he (State.live_keeps h ?_)
    split
    · exact k.still h (s.markOverdue_judged z).ledger
    · exact h
  | frameComplete p frame =>
    refine ChannelLaw.of_next he ?_
    split
    · exact List.foldlRecOn _ _ h fun t ht b _ => k.still ht (t.takeByte_portsOnly p b).ledger
    · exact h
  | silence p => exact ChannelLaw.of_next he (State.live_keeps h (hports (s.takeSilence_portsOnly p)))
  | lineBreak p straps =>
    have hlow : P (s.updPort p fun q => { q with lineLow := true }) := k.still h rfl
    refine ChannelLaw.of_next he ?_
    split
    · exact h
    · exact State.live_keeps hlow (k.reinitialise hlow)
  | takeUp => exact ChannelLaw.of_next he (State.live_keeps h (k.still h s.takeUp_ledger))
  | replySent p => exact ChannelLaw.of_next he (State.live_keeps h (k.still h rfl))
  | withdraw p =>
    refine ChannelLaw.of_next he ?_
    split
    · exact hports (s.takeWithdraw_portsOnly p)
    · exact h
  | characterReceived p data parity stop =>
    refine ChannelLaw.of_next he ?_
    split
    · split
      · exact hports (s.takeByte_portsOnly p data)
      · exact hports (s.takeBadCharacter_portsOnly p)
    · exact h
  | receiveLineReturnsHigh p => exact ChannelLaw.of_next he (k.still h rfl)
  | _ => cases hc

/-- What every event keeps, a step keeps: a lockout request on its way, or a command on the queue's rest. -/
theorem step (k : LedgerLaw P) {s t : State} (h : P s) (he : step s = .next t) : P t := by
  cases hp : s.pending with
  | nil =>
    rw [step_nil hp] at he
    refine ChannelLaw.of_next he ?_
    rcases s.takeLockoutRequest_cases with hkeep | ⟨r, rest, -, -, htaken⟩
    · rw [hkeep]
      exact h
    · rw [htaken]
      exact k.requestLockout (k.still h rfl)
  | cons c rest =>
    rw [step_cons hp] at he
    have hrest : P { s with pending := rest } := k.still h rfl
    cases hc : c.directive with
    | none => exact k.execEvent hc hrest he
    | some pd => exact k.execDirective hc hrest he

end LedgerLaw

end Sys2Proof.Machine
end

section
/-! R63 and R76 through every step. -/

namespace Sys2Proof.Machine

/-! ### The totals of a header -/

theorem State.metersBalance_of_totals {s t : State} (h : s.metersBalance) (hm : ∀ i, (t.meter i).totals = (s.meter i).totals) : t.metersBalance := by
  intro i
  have htotals := hm i
  simp only [Meter.totals, Prod.mk.injEq] at htotals
  obtain ⟨hmetered, hattributed, hstray⟩ := htotals
  rw [hmetered, hattributed, hstray]
  exact h i

/-- An apportionment adds the volume to the metered total and to one of the two others (R61, R63). -/
theorem State.apportion_metersBalance {s : State} (i : HeaderId) (h : s.metersBalance) : (s.apportion i).metersBalance := by
  intro j
  rw [State.apportion_meter]
  split
  · have hbefore := h i
    rw [Meter.addVolume_eq]
    by_cases hdraws : s.drawingSet i = []
    · simp only [hdraws, if_true]
      omega
    · simp only [hdraws, if_false]
      omega
  · exact h j

theorem ledgerLaw_metersBalance : LedgerLaw State.metersBalance where
  still := fun h hl => State.metersBalance_of_totals h (State.ledger_reads hl).2.2.1
  opened := fun _ _ _ _ _ h => h
  shut := fun s z _ h => State.metersBalance_of_totals h fun i => by cases (s.zone z).opened <;> rfl
  apportion := fun _ i h => State.apportion_metersBalance i h
  asserted := fun _ h => h
  released := fun s a b c h => State.metersBalance_of_totals h fun i => by rw [State.releaseBlocks_meter]; rfl
  powerOn := fun a b c l q i => by rw [State.powerOn_meter]; rfl

/-! ### Committed flow -/

/-- The flow that a channel commits: what it was opened with, while it draws (R76). -/
def Zone.committedFlow (x : Zone) : Nat := if x.drawing then x.openedFlow else 0

/-- The same on one header. -/
def Zone.committedOn (x : Zone) (i : HeaderId) : Nat := if x.drawing && x.onHeader i then x.openedFlow else 0

theorem sumOver_filter_zoneIds (p : ZoneId → Bool) (f : ZoneId → Nat) : sumOver (zoneIds.filter p) f = ∑ z, if p z then f z else 0 := by
  have hlist : ∀ l : List ZoneId, sumOver (l.filter p) f = (l.map fun z => if p z then f z else 0).sum := fun l => by
    induction l with
    | nil => rfl
    | cons z rest ih => cases hp : p z <;> simp [hp, ← ih, sumOver_cons]
  rw [Fin.sum_univ_def]
  exact hlist zoneIds

/-- R76 as sums over all channels. -/
theorem State.committedMatches_iff (s : State) :
    s.committedMatches ↔ (s.resetLow = false →
      (∀ i : HeaderId, s.supply.committed.header[i] = ∑ z, (s.zone z).committedOn i) ∧ s.supply.committed.total = ∑ z, (s.zone z).committedFlow) := by
  unfold State.committedMatches
  simp only [sumOver_filter_zoneIds]
  rfl

/-- A sum over the zones after a change at one zone. -/
theorem sum_zones_changed {f g : ZoneId → Nat} {z : ZoneId} (h : ∀ y, y ≠ z → g y = f y) : ∑ y, g y + f z = ∑ y, f y + g z := by
  have hrest : ∑ y ∈ Finset.univ.erase z, g y = ∑ y ∈ Finset.univ.erase z, f y := Finset.sum_congr rfl fun y hy => h y (Finset.ne_of_mem_erase hy)
  rw [← Finset.add_sum_erase _ f (Finset.mem_univ z), ← Finset.add_sum_erase _ g (Finset.mem_univ z), hrest]
  omega

theorem Flows.add_header (f : Flows) (i j : HeaderId) (n : Nat) : (f.add i n).header[j] = f.header[j] + if j = i then n else 0 := by
  unfold Flows.add
  by_cases hj : j = i
  · subst hj; simp
  · have hne : (i : Nat) ≠ j := fun e => hj (Fin.ext e.symm)
    simp [hj, hne]

theorem Flows.sub_header (f : Flows) (i j : HeaderId) (n : Nat) : (f.sub i n).header[j] = f.header[j] - if j = i then n else 0 := by
  unfold Flows.sub
  by_cases hj : j = i
  · subst hj; simp
  · have hne : (i : Nat) ≠ j := fun e => hj (Fin.ext e.symm)
    simp [hj, hne]

theorem Zone.committedFlow_shut {x : Zone} (h : x.valve = .shut) : x.committedFlow = 0 := by simp [Zone.committedFlow, Zone.drawing, h]

theorem Zone.committedOn_shut {x : Zone} (h : x.valve = .shut) (i : HeaderId) : x.committedOn i = 0 := by simp [Zone.committedOn, Zone.drawing, h]

theorem Zone.committedFlow_drawing {x : Zone} {o : Opened} (h : x.valve ≠ .shut) (ho : x.opened = some o) : x.committedFlow = o.flow := by
  simp [Zone.committedFlow, Zone.drawing, h, Zone.openedFlow, ho]

theorem Zone.committedOn_drawing {x : Zone} {o : Opened} (h : x.valve ≠ .shut) (ho : x.opened = some o) (i : HeaderId) :
    x.committedOn i = if i = o.header then o.flow else 0 := by
  simp [Zone.committedOn, Zone.drawing, h, Zone.openedFlow, Zone.onHeader, ho, eq_comm]

theorem Zone.committed_unopened {x : Zone} (ho : x.opened = none) : x.committedFlow = 0 ∧ ∀ i, x.committedOn i = 0 := by
  simp [Zone.committedFlow, Zone.committedOn, Zone.openedFlow, ho]

theorem State.committedMatches_of_ledger {s t : State} (h : s.committedMatches) (hl : t.ledger = s.ledger) : t.committedMatches := by
  obtain ⟨hz, hc, -, hr⟩ := State.ledger_reads hl
  have hzone : ∀ z, (t.zone z).drawing = (s.zone z).drawing ∧ (t.zone z).opened = (s.zone z).opened := fun z => Prod.ext_iff.mp (hz z)
  have hsame : ∀ z, (t.zone z).committedFlow = (s.zone z).committedFlow ∧ ∀ i, (t.zone z).committedOn i = (s.zone z).committedOn i := fun z => by
    obtain ⟨hdrawing, hopened⟩ := hzone z
    unfold Zone.committedFlow Zone.committedOn Zone.openedFlow Zone.onHeader
    rw [hdrawing, hopened]
    exact ⟨rfl, fun _ => rfl⟩
  rw [State.committedMatches_iff] at h ⊢
  rw [hr, hc]
  simp only [hsame]
  exact h

/-- With every channel SHUT and nothing committed R76 holds. -/
theorem State.committedMatches_of_shut {s : State} (hshut : ∀ z, (s.zone z).valve = .shut) (hc : s.supply.committed = .zero) : s.committedMatches := by
  rw [State.committedMatches_iff, hc]
  simp [Zone.committedFlow_shut, Zone.committedOn_shut, hshut, Flows.zero]

/-- An OPENING report commits the programme's flow (R76). -/
theorem State.opened_committedMatches {s : State} {z : ZoneId} (x : Programme) (tag : UseTag) (hv : (s.zone z).valve = .shut)
    (h : s.committedMatches) : (s.committed z x tag).committedMatches := by
  have hself : (s.committed z x tag).zone z = (s.zone z).opening x tag := by rw [State.committed_zone, if_pos rfl]
  have hother : ∀ y, y ≠ z → (s.committed z x tag).zone y = s.zone y := fun y hy => by rw [State.committed_zone, if_neg hy]
  have hcommitted : (s.committed z x tag).supply.committed = s.supply.committed.add x.header x.flow := rfl
  have hopening : ((s.zone z).opening x tag).valve ≠ .shut := by simp [Zone.opening]
  rw [State.committedMatches_iff] at h ⊢
  intro hr
  obtain ⟨hheader, htotal⟩ := h hr
  refine ⟨fun i => ?_, ?_⟩
  · have hsum := sum_zones_changed fun y hy => congrArg (Zone.committedOn · i) (hother y hy)
    rw [hself, Zone.committedOn_shut hv, Nat.add_zero, Zone.committedOn_drawing hopening rfl] at hsum
    rw [hsum, hcommitted, Flows.add_header, hheader i]
  · have hsum := sum_zones_changed fun y hy => congrArg Zone.committedFlow (hother y hy)
    rw [hself, Zone.committedFlow_shut hv, Nat.add_zero, Zone.committedFlow_drawing hopening rfl] at hsum
    rw [hsum, hcommitted, ← htotal]
    rfl

/-- An arrival at SHUT takes back what the channel was opened with (R76). -/
theorem State.shut_committedMatches {s : State} {z : ZoneId} (hv : (s.zone z).valve ≠ .shut) (h : s.committedMatches) :
    ((s.updZone z Zone.shut).lowerCommitted (s.zone z).opened).committedMatches := by
  have hself : ((s.updZone z Zone.shut).zone z).valve = .shut := by rw [State.zone_updZone_same]; rfl
  have hother : ∀ y, y ≠ z → (s.updZone z Zone.shut).zone y = s.zone y := fun y hy => s.zone_updZone_other _ hy
  have hsum : ∀ i, ∑ y, ((s.updZone z Zone.shut).zone y).committedOn i + (s.zone z).committedOn i = ∑ y, (s.zone y).committedOn i := fun i => by
    have hchange := sum_zones_changed fun y hy => congrArg (Zone.committedOn · i) (hother y hy)
    rwa [Zone.committedOn_shut hself, Nat.add_zero] at hchange
  have hsums : ∑ y, ((s.updZone z Zone.shut).zone y).committedFlow + (s.zone z).committedFlow = ∑ y, (s.zone y).committedFlow := by
    have hchange := sum_zones_changed fun y hy => congrArg Zone.committedFlow (hother y hy)
    rwa [Zone.committedFlow_shut hself, Nat.add_zero] at hchange
  rw [State.committedMatches_iff] at h ⊢
  cases ho : (s.zone z).opened with
  | none =>
    obtain ⟨hflow, hon⟩ := Zone.committed_unopened ho
    rw [hflow, Nat.add_zero] at hsums
    simp only [hon, Nat.add_zero] at hsum
    intro hr
    obtain ⟨hheader, htotal⟩ := h hr
    exact ⟨fun i => (hheader i).trans (hsum i).symm, htotal.trans hsums.symm⟩
  | some o =>
    intro hr
    obtain ⟨hheader, htotal⟩ := h hr
    refine ⟨fun i => ?_, ?_⟩
    · have hi := hsum i
      rw [Zone.committedOn_drawing hv ho] at hi
      refine (Flows.sub_header s.supply.committed o.header i o.flow).trans ?_
      rw [hheader i, ← hi]
      exact Nat.add_sub_cancel ..
    · rw [Zone.committedFlow_drawing hv ho] at hsums
      refine (congrArg (· - o.flow) (htotal.trans hsums.symm)).trans ?_
      exact Nat.add_sub_cancel ..

theorem Zone.credit_account (x : Zone) (a : Nat) : (x.credit a).account = x.account := by
  unfold Zone.credit
  split <;> rfl

/-- An apportionment moves no channel and commits no flow (R60 to R63). -/
theorem State.apportion_committedMatches {s : State} (i : HeaderId) (h : s.committedMatches) : (s.apportion i).committedMatches := by
  have hcredited : (s.credited ((s.drawingSet i).map fun z => (z, s.shareOf i z))).committedMatches :=
    State.committedMatches_of_ledger h (List.foldlRecOn (motive := fun t : State => t.ledger = s.ledger) _ _ rfl fun t ht e _ =>
      (t.updZone_ledger e.1 (Zone.credit_account _ e.2)).trans ht)
  rw [State.apportion_credited]
  exact hcredited

theorem ledgerLaw_committedMatches : LedgerLaw State.committedMatches where
  still := State.committedMatches_of_ledger
  opened := fun _ _ x tag => State.opened_committedMatches x tag
  shut := fun _ _ => State.shut_committedMatches
  apportion := fun _ i => State.apportion_committedMatches i
  asserted := fun _ _ hr => by cases hr
  released := fun s a b c _ => State.committedMatches_of_shut (fun z => by rw [State.releaseBlocks_zone]; rfl) rfl
  powerOn := fun a b c l q => State.committedMatches_of_shut (fun z => by rw [State.powerOn_zone]; rfl) rfl

end Sys2Proof.Machine

open Sys2Proof Sys2Proof.Machine

/-- Settles O4: both laws read the ledger alone, and each of the operations that touch it keeps them (`LedgerLaw.step`). -/
theorem everyStepKeepsMetersAndCommittedFlowBalanced : Obligations.EveryStepKeepsMetersAndCommittedFlowBalanced :=
  ⟨fun _ _ h he => ledgerLaw_metersBalance.step h he, fun _ _ h he => ledgerLaw_committedMatches.step h he⟩

end

section
/-! The expiry of an interval (R58, R59, R65 to R70): the result of its flow test, the run, and what the notice, the lockout request and the progress report do in the
order that the operand names. -/

namespace Sys2Proof.Machine

/-! ### The steps of an expiry -/

section
variable (s : State) (h : HeaderId)

/-- The result of the flow test of the interval (R66, R67). -/
def State.flowResult : Option Direction := (s.meter h).test (s.expectedFlow h)

/-- The direction whose run has reached length 2, if one has (R68). -/
def State.calledFlow : Option Direction := if (advanceRun (s.meter h).run (s.flowResult h)).2 then s.flowResult h else none

/-- The interval accounted, with its measured flow and the run after it (R61, R65, R68). -/
def State.accounted : State :=
  (s.apportion h).updMeter h fun m => { m with lastFlow := (s.meter h).flow, run := (advanceRun (s.meter h).run (s.flowResult h)).1 }

end

/-- The run ends at a result that repeats it, and at none; otherwise the result begins a run. Length 2 is reached where a result repeats the run (R68). -/
theorem advanceRun_eq (run result : Option Direction) :
    advanceRun run result = (if run = result then none else result, !decide (result = none ∨ run ≠ result)) := by
  cases result with
  | none => simp [advanceRun]
  | some d => by_cases hr : run = some d <;> simp [advanceRun, hr]

theorem State.calledFlow_eq {s : State} {h : HeaderId} {r : Option Direction} (hr : s.flowResult h = r) :
    s.calledFlow h = if r = none ∨ (s.meter h).run ≠ r then none else r := by
  unfold State.calledFlow
  rw [advanceRun_eq, hr]
  by_cases hc : r = none ∨ (s.meter h).run ≠ r <;> simp [hc]

/-- A change of a meter reads no more of it than the meter as it stands. -/
theorem State.updMeter_congr {s : State} {h : HeaderId} {f g : Meter → Meter} (hfg : f (s.meter h) = g (s.meter h)) :
    s.updMeter h f = s.updMeter h g := by
  unfold State.updMeter
  rw [hfg]

theorem State.accounted_eq {s : State} {h : HeaderId} {r : Option Direction} (hr : s.flowResult h = r) :
    s.accounted h = (s.apportion h).updMeter h fun m =>
      { m with lastFlow := (s.meter h).count * (s.meter h).weight * 60 / (100 * (s.meter h).interval), run := if m.run = r then none else r } := by
  have hrun : ((s.apportion h).meter h).run = (s.meter h).run := by rw [State.apportion_meter, if_pos rfl]; rfl
  unfold State.accounted
  rw [advanceRun_eq, hr]
  refine State.updMeter_congr ?_
  rw [hrun]
  rfl

/-- The steps between the accounting and the next interval, in the order that the operand names (log entries 9 and 28). -/
def State.inOrder (t : State) (o : ExpiryOrder) (progress notice request : State → State) : State :=
  match o with
  | .progressFirst | .lockoutLater => request (notice (progress t))
  | .noticeFirst | .noticeFirstLockoutLater => request (progress (notice t))
  | .lockoutFirst => progress (request (notice t))

/-- The expiry, with its steps in the order that the operand names (R59; log entries 9 and 28). -/
theorem State.expireInterval_eq {s : State} {h : HeaderId} {o : ExpiryOrder} {next progress notice request : State → State}
    (hnext : ∀ u, u.beginInterval h = next u) (hprogress : ∀ u, u.reportProgress (s.progressReport h) = progress u)
    (hnotice : ∀ u, u.postFlow h (s.calledFlow h) (onlyZone (s.wetSet h)) (s.meter h).flow = notice u)
    (hrequest : ∀ u, u.sendLockout (s.calledFlow h) (onlyZone (s.wetSet h)) (decide (o = .lockoutLater ∨ o = .noticeFirstLockoutLater)) = request u) :
    s.expireInterval h o =
      next ((s.accounted h).inOrder o progress notice request) := by
  obtain rfl : (fun u => u.beginInterval h) = next := funext hnext
  obtain rfl : (fun u => u.reportProgress (s.progressReport h)) = progress := funext hprogress
  obtain rfl := funext hnotice
  obtain rfl := funext hrequest
  cases o <;> rfl

/-- Without a run of length 2 there is neither a notice nor a request, so that the order makes no difference (R68, R69). -/
theorem State.expireInterval_uncalled {s : State} {h : HeaderId} (o : ExpiryOrder) (hc : s.calledFlow h = none) :
    s.expireInterval h o = ((s.accounted h).reportProgress (s.progressReport h)).beginInterval h := by
  have horder := State.expireInterval_eq (s := s) (h := h) (o := o) (fun _ => rfl) (fun _ => rfl) (notice := id) (request := id)
    (fun u => by rw [hc]; rfl) (fun u => by rw [hc]; rfl)
  rw [horder]
  cases o <;> rfl

/-! ### The statement's forms -/

section
variable (s : State) (h : HeaderId)

theorem State.beginInterval_eq :
    s.beginInterval h = s.updMeter h fun m =>
      { m with
        count := 0
        saturated := false
        settling := decide (∃ z ∈ s.drawingSet h, (s.zone z).valve ≠ .wet)
        drawn := decide (s.drawingSet h ≠ [])
        timer := m.interval } := by
  have hsettling : ((s.drawingSet h).any fun z => (s.zone z).valve ≠ .wet) = decide (∃ z ∈ s.drawingSet h, (s.zone z).valve ≠ .wet) := by
    rw [Bool.eq_iff_iff]
    simp
  have hdrawn : (!(s.drawingSet h).isEmpty) = decide (s.drawingSet h ≠ []) := by cases s.drawingSet h <;> rfl
  unfold State.beginInterval
  rw [hsettling, hdrawn]

theorem State.reportProgress_eq (u : State) :
    u.reportProgress (s.progressReport h) =
      if ∃ z ∈ s.drawingSet h, (s.zone z).useTag = some .quota then
        u.takeProgress ((s.drawingSet h).filter fun z => decide ((s.zone z).useTag = some .quota ∧ (s.zone z).visit = .openVisit))
      else u := by
  have hnone : ((s.drawingSet h).filter fun z => decide ((s.zone z).useTag = some .quota)) = [] ↔
      ¬∃ z ∈ s.drawingSet h, (s.zone z).useTag = some .quota := by simp [List.filter_eq_nil_iff]
  have hopen : (((s.drawingSet h).filter fun z => decide ((s.zone z).useTag = some .quota)).filter fun z => decide ((s.zone z).visit = .openVisit)) =
      (s.drawingSet h).filter fun z => decide ((s.zone z).useTag = some .quota ∧ (s.zone z).visit = .openVisit) := by
    rw [List.filter_filter]
    exact List.filter_congr fun z _ => by rw [Bool.and_comm, Bool.decide_and]
  unfold State.progressReport
  dsimp only
  rw [hopen]
  by_cases hq : ∃ z ∈ s.drawingSet h, (s.zone z).useTag = some .quota
  · rw [if_neg fun k => hnone.mp k hq, if_pos hq]
    rfl
  · rw [if_pos (hnone.mpr hq), if_neg hq]
    rfl

theorem onlyZone_eq (zs : List ZoneId) : onlyZone zs = match zs with | [z] => some z | _ => none := by
  rcases zs with _ | ⟨z, _ | ⟨y, rest⟩⟩ <;> rfl

/-- Where every drawing zone is WET, the zones in WET are those that draw (R60, R66). -/
theorem State.wetSet_eq {s : State} {h : HeaderId} (hwet : ∀ z ∈ s.drawingSet h, (s.zone z).valve = .wet) : s.wetSet h = s.drawingSet h := by
  refine List.filter_congr fun z hz => ?_
  by_cases hv : (s.zone z).valve = .wet
  · simp [hv, Zone.drawing]
  · have hnot : ((s.zone z).drawing && (s.zone z).onHeader h) = false := Bool.eq_false_iff.mpr fun k => hv (hwet z (List.mem_filter.mpr ⟨hz, k⟩))
    rw [hnot]
    simp [hv]

/-! ### The three classes of interval -/

/-- A settling interval, and one with the checks off, is not tested (R58, R67). -/
theorem State.flowResult_untested {s : State} {h : HeaderId} (hu : (s.meter h).checks = false ∨ (s.meter h).settling = true) :
    s.flowResult h = none := if_pos (by simpa using hu)

/-- An interval with an expected flow is judged against the tolerance (R66, R67). -/
theorem State.flowResult_flowing {s : State} {h : HeaderId} (hc : (s.meter h).checks = true) (hs : (s.meter h).settling = false)
    (hwet : ∀ z ∈ s.drawingSet h, (s.zone z).valve = .wet) (he : 0 < sumOver (s.drawingSet h) fun z => (s.zone z).openedFlow) :
    s.flowResult h =
      if (s.meter h).flow * 100 < (sumOver (s.drawingSet h) fun z => (s.zone z).openedFlow) * (100 - (s.meter h).tolerance) then some .low
      else if (sumOver (s.drawingSet h) fun z => (s.zone z).openedFlow) * (100 + (s.meter h).tolerance) < (s.meter h).flow * 100 then some .high
      else none := by
  unfold State.flowResult State.expectedFlow Meter.test
  rw [State.wetSet_eq hwet, if_neg (by simp [hc, hs]), if_pos he]

/-- With nothing drawing, a flow above the stray threshold deviates, unless the header was drawn on in the interval (R58, R67). -/
theorem State.flowResult_idle {s : State} {h : HeaderId} (hz : s.drawingSet h = []) :
    s.flowResult h =
      if ((s.meter h).checks && !(s.meter h).settling && !(s.meter h).drawn && decide ((s.meter h).strayThreshold < (s.meter h).flow)) = true
      then some .stray else none := by
  have hwet : s.wetSet h = [] := (State.wetSet_eq (by simp [hz])).trans hz
  unfold State.flowResult State.expectedFlow Meter.test
  rw [hwet]
  cases (s.meter h).checks <;> cases (s.meter h).settling <;> cases (s.meter h).drawn <;> simp [sumOver]

/-- With nothing drawing, the volume is stray, and no zone is credited (R61, R63). -/
theorem State.apportion_idle {s : State} {h : HeaderId} (hz : s.drawingSet h = []) :
    s.apportion h = s.updMeter h fun m =>
      { m with
        metered := (m.metered + (s.meter h).volume) % 281474976710656
        stray := (m.stray + (s.meter h).volume) % 281474976710656 } := by
  rw [State.apportion_credited, hz]
  rfl

theorem State.post_updMeter (n : NoticeKind) (z : Option ZoneId) (i : Option HeaderId) (p : Option Port) (v : Option Int) (f : Meter → Meter) :
    (s.post n z i p v).updMeter h f = (s.updMeter h f).post n z i p v := by
  unfold State.post
  by_cases hr : s.resetLow = true
  · simp [hr]
  · simp only [State.updMeter_resetLow, hr]
    rfl

theorem State.post_beginInterval (n : NoticeKind) (z : Option ZoneId) (i : Option HeaderId) (p : Option Port) (v : Option Int) :
    (s.post n z i p v).beginInterval h = (s.beginInterval h).post n z i p v := by
  have hdrawing : (s.post n z i p v).drawingSet h = s.drawingSet h := by simp [State.drawingSet]
  unfold State.beginInterval
  rw [hdrawing, State.post_updMeter]
  simp only [State.post_zone]

end

/-- The expiry of an interval in which nothing draws: the volume is stray, and STRAY-FLOW is posted where the run reaches length 2 (R58, R63, R67 to R69). -/
theorem State.expireInterval_idle {s : State} {h : HeaderId} (o : ExpiryOrder) (hz : s.drawingSet h = []) {deviates : Bool}
    (hd : deviates =
      ((s.meter h).checks && !(s.meter h).settling && !(s.meter h).drawn && decide ((s.meter h).strayThreshold < (s.meter h).flow))) {t : State}
    (ht : t = State.beginInterval (s.updMeter h fun m =>
      { m with
        metered := (m.metered + (s.meter h).volume) % 281474976710656
        stray := (m.stray + (s.meter h).volume) % 281474976710656
        lastFlow := (s.meter h).flow
        run := if deviates = true ∧ m.run ≠ some .stray then some .stray else none }) h) :
    s.expireInterval h o =
      if deviates = true ∧ (s.meter h).run = some .stray then t.post .strayFlow none (some h) none (some ((s.meter h).flow : Int)) else t := by
  have hresult := State.flowResult_idle hz
  rw [← hd] at hresult
  have hcalled := State.calledFlow_eq hresult
  have hreport : ∀ u : State, u.reportProgress (s.progressReport h) = u := fun u => by rw [State.reportProgress_eq, hz, if_neg (by simp)]
  have hrun : ∀ m : Meter, (if m.run = (if deviates = true then some .stray else none) then none else if deviates = true then some .stray else none) =
      if deviates = true ∧ m.run ≠ some .stray then some Direction.stray else none := fun m => by
    cases deviates
    · simp
    · by_cases hm : m.run = some .stray <;> simp [hm]
  have hnext : (s.accounted h).beginInterval h = t := by
    rw [ht, State.accounted_eq hresult, State.apportion_idle hz, State.updMeter_updMeter]
    simp only [hrun]
    rfl
  by_cases hc : deviates = true ∧ (s.meter h).run = some .stray
  · rw [if_pos hc]
    have hcall : s.calledFlow h = some .stray := by rw [hcalled, hc.1, hc.2]; rfl
    have horder := State.expireInterval_eq (s := s) (h := h) (o := o) (fun _ => rfl) hreport
      (notice := fun u => u.post .strayFlow none (some h) none (some ((s.meter h).flow : Int))) (request := id)
      (fun u => by rw [hcall]; rfl) (fun u => by rw [hcall]; rfl)
    rw [horder, ← hnext, ← State.post_beginInterval]
    cases o <;> rfl
  · rw [if_neg hc]
    have hnone : s.calledFlow h = none := by
      rw [hcalled]
      cases deviates
      · rfl
      · exact if_pos (.inr fun k => hc ⟨rfl, k⟩)
    rw [State.expireInterval_uncalled o hnone, hreport, hnext]

section
variable {u : State} {h : HeaderId} {run r : Option Direction} (hr : r = none ∨ r = some .low ∨ r = some .high)
include hr

/-- The notice of a run of LOW or HIGH that has reached length 2 names the zone where exactly one draws (R69). -/
theorem State.postFlow_flowing (zs : List ZoneId) (f : Nat) :
    u.postFlow h (if r = none ∨ run ≠ r then none else r) (onlyZone zs) f =
      if r = none ∨ run ≠ r then u
      else u.post (if r = some .low then .lowFlow else .highFlow) (match zs with | [z] => some z | _ => none) (some h) none (some (f : Int)) := by
  by_cases hc : r = none ∨ run ≠ r
  · rw [if_pos hc, if_pos hc]
    rfl
  · rw [if_neg hc, if_neg hc]
    rcases hr with rfl | rfl | rfl
    · exact absurd (.inl rfl) hc
    · exact congrArg (u.post .lowFlow · (some h) none (some (f : Int))) (onlyZone_eq zs)
    · exact congrArg (u.post .highFlow · (some h) none (some (f : Int))) (onlyZone_eq zs)

/-- The lockout request of such a run is for the zone where exactly one draws, taken at once or sent on its way (R69; log entry 28). -/
theorem State.sendLockout_flowing (zs : List ZoneId) (later : Prop) [Decidable later] :
    u.sendLockout (if r = none ∨ run ≠ r then none else r) (onlyZone zs) (decide later) =
      if r = none ∨ run ≠ r then u
      else
        match zs with
        | [z] =>
          if later then { u with lockoutRequests := u.lockoutRequests ++ [⟨z, if r = some .low then .noFlow else .burst⟩] }
          else u.requestLockout z (if r = some .low then .noFlow else .burst)
        | _ => u := by
  by_cases hc : r = none ∨ run ≠ r
  · rw [if_pos hc, if_pos hc]
    rfl
  · rw [if_neg hc, if_neg hc]
    have hsent : ∀ (z : ZoneId) (d : Direction) (k : Lockout), d.lockout = some k → u.sendLockout (some d) (some z) (decide later) =
        if later then { u with lockoutRequests := u.lockoutRequests ++ [⟨z, k⟩] } else u.requestLockout z k := fun z d k hk => by
      unfold State.sendLockout
      rw [Option.bind_some, hk]
      by_cases hl : later <;> simp [hl]
    rcases hr with rfl | rfl | rfl
    · exact absurd (.inl rfl) hc
    · rcases zs with _ | ⟨z, _ | ⟨y, rest⟩⟩
      · rfl
      · exact hsent z .low .noFlow rfl
      · rfl
    · rcases zs with _ | ⟨z, _ | ⟨y, rest⟩⟩
      · rfl
      · exact hsent z .high .burst rfl
      · rfl

end

end Sys2Proof.Machine

open Sys2Proof Sys2Proof.Machine

/-- Settles O34: one class of interval after the other, each by its flow result and `State.expireInterval_eq`. -/
theorem intervalExpiryAccountsAndTests : Obligations.IntervalExpiryAccountsAndTests := by
  intro s h o hr
  have hlive : exec (.intervalTimerExpiry h o) s = .next (if (s.meter h).timer = 0 then s.expireInterval h o else s) :=
    congrArg Host.Outcome.next (State.live_released hr _)
  refine ⟨fun ht => hlive.trans (by rw [if_neg ht]), ?_⟩
  rintro ht v f e zs next progress rfl rfl rfl rfl hn hp
  rw [if_pos ht] at hlive
  have hnext : ∀ u : State, u.beginInterval h = next u := fun u => by rw [hn]; exact u.beginInterval_eq h
  have hprogress : ∀ u : State, u.reportProgress (s.progressReport h) = progress u := fun u => by rw [hp]; exact s.reportProgress_eq h u
  refine ⟨fun hz deviates t hd ht => ?_, fun hu => ?_, fun hc hs _ hwet he deviation t notice request hd ht hno hrq => ?_⟩
  · exact hlive.trans (congrArg Host.Outcome.next (State.expireInterval_idle o hz hd (ht.trans (hnext _).symm)))
  · have hresult := State.flowResult_untested hu
    have hnone : s.calledFlow h = none := State.calledFlow_eq hresult
    have haccounted := State.accounted_eq hresult
    simp only [ite_self] at haccounted
    rw [hlive, State.expireInterval_uncalled o hnone, hnext, hprogress, haccounted]
  · have hresult : s.flowResult h = deviation := (State.flowResult_flowing hc hs hwet he).trans hd.symm
    have hkind : deviation = none ∨ deviation = some .low ∨ deviation = some .high := by
      rw [hd]
      split
      · exact .inr (.inl rfl)
      · split
        · exact .inr (.inr rfl)
        · exact .inl rfl
    have haccounted : s.accounted h = t := (State.accounted_eq hresult).trans ht.symm
    rw [hlive, State.expireInterval_eq hnext hprogress (notice := notice) (request := request), haccounted]
    · rfl
    · intro u
      rw [hno, State.calledFlow_eq hresult, State.wetSet_eq hwet]
      exact State.postFlow_flowing hkind _ _
    · intro u
      rw [hrq, State.calledFlow_eq hresult, State.wetSet_eq hwet]
      exact State.sendLockout_flowing hkind _ _

end

section
/-! The law of R157 through every step: what it reads of the state is its load sheet, which triage makes up again and a ceiling change puts out of force until the report
to the engine is taken (R84, R158). -/

namespace Sys2Proof.Machine

/-- What the law of R157 reads of the state. -/
structure LoadSheet where
  armed : Bool
  loads : Flows
  inForce : Flows
  owed : Bool

def State.loadSheet (s : State) : LoadSheet := ⟨s.armed, s.loads, s.supply.inForce, s.ceilingReportOwed⟩

/-- No load is above its ceiling. -/
def LoadSheet.fits (x : LoadSheet) : Prop := (∀ h : HeaderId, x.loads.header[h] ≤ x.inForce.header[h]) ∧ x.loads.total ≤ x.inForce.total

/-- The law of R157 but for a ceiling change that the engine has still to hear of (R84). -/
def LoadSheet.fitsOrOwed (x : LoadSheet) : Prop := x.owed = true ∨ (x.armed = true → x.fits)

theorem State.loadsWithin_iff (s : State) : s.loadsWithin ↔ s.loadSheet.owed = false ∧ s.loadSheet.fitsOrOwed := by
  change (s.ceilingReportOwed = false ∧ _) ↔ s.ceilingReportOwed = false ∧ (s.ceilingReportOwed = true ∨ _)
  refine and_congr_right fun howed => ?_
  rw [howed]
  exact (or_iff_right (by decide)).symm

theorem State.loadsWithin.fitsOrOwed {s : State} (h : s.loadsWithin) : s.loadSheet.fitsOrOwed := (s.loadsWithin_iff.mp h).2

/-- While frost is disarmed the law asks only that no report is owed. -/
theorem State.loadsWithin_of_disarmed {s : State} (howed : s.ceilingReportOwed = false) (h : s.armed = false) : s.loadsWithin :=
  ⟨howed, fun harmed => by rw [h] at harmed; cases harmed⟩

theorem State.loadsWithin.of_sheet {s t : State} (h : s.loadsWithin) (hs : t.loadSheet = s.loadSheet) : t.loadsWithin := by
  rw [State.loadsWithin_iff] at h ⊢
  rwa [hs]

/-! ### What leaves the sheet -/

theorem State.loadSheet_ext {s t : State} (hc : t.climate = s.climate) (hl : t.loads = s.loads) (hi : t.supply.inForce = s.supply.inForce)
    (ho : t.ceilingReportOwed = s.ceilingReportOwed) : t.loadSheet = s.loadSheet := by
  unfold State.loadSheet State.armed
  rw [hc, hl, hi, ho]

theorem Quiet.loadSheet {s t : State} (q : Quiet s t) : t.loadSheet = s.loadSheet :=
  State.loadSheet_ext q.climate q.loads (by rw [q.supply]) q.ceilingReportOwed

theorem Quiet.inForce {s t : State} (q : Quiet s t) : t.supply.inForce = s.supply.inForce := by rw [q.supply]

theorem PortsOnly.loadSheet {s t : State} (k : PortsOnly s t) : t.loadSheet = s.loadSheet := by
  rw [k]
  rfl

section
variable (s : State)

theorem State.post_loadSheet (n : NoticeKind) (z : Option ZoneId) (i : Option HeaderId) (p : Option Port) (v : Option Int) :
    (s.post n z i p v).loadSheet = s.loadSheet := (s.post_quiet n z i p v).loadSheet

theorem State.takeUp_loadSheet : s.takeUp.loadSheet = s.loadSheet := by
  rcases s.takeUp_cases with he | ⟨p, d, -, -, he⟩
  · rw [he]
  · rw [he]; rfl

theorem State.sendInto_loadSheet (ev : SupplyEvent) (n : Nat) (due : Bool) : (s.sendInto ev n due).loadSheet = s.loadSheet := by
  rcases s.sendInto_cases ev n due with he | he
  · rw [he]
  · rw [he]; rfl

theorem State.restore_loadSheet (port : Option Port) : (s.restore port).loadSheet = s.loadSheet := by
  refine (State.post_loadSheet _ _ _ _ _ _).trans ?_
  split <;> rfl

theorem State.pop_loadSheet (port : Option Port) : (s.pop port).loadSheet = s.loadSheet := by
  unfold State.pop
  dsimp only
  split
  · exact (State.restore_loadSheet _ port).trans (s.restore_loadSheet port)
  · exact s.restore_loadSheet port

theorem State.applyEdit_loadSheet (z : ZoneId) (e : PendingEdit) : (s.applyEdit z e).loadSheet = s.loadSheet := by
  rw [State.applyEdit_eq]
  rfl

theorem State.landEdits_loadSheet (before : Zone) : (s.landEdits before).loadSheet = s.loadSheet := by
  rw [(s.landEdits_eq before).1]
  rfl

theorem State.setLockout_loadSheet (z : ZoneId) (l : Lockout) : (s.setLockout z l).loadSheet = s.loadSheet := by
  unfold State.setLockout
  dsimp only
  split
  · exact State.post_loadSheet _ _ _ _ _ _
  · rfl

theorem State.takeShut_loadSheet (z : ZoneId) (r : ShutReport) : (s.takeShut z r).loadSheet = s.loadSheet := by
  unfold State.takeShut
  split
  · exact (s.endOpenVisit_quiet z .dropped).loadSheet
  · unfold State.finishEntry
    split
    · dsimp only
      split
      · exact State.post_loadSheet _ _ _ _ _ _
      · rfl
    · rfl
  · split <;> rfl
  · rfl

theorem State.testAllotment_loadSheet (port : Option Port) : (s.testAllotment port).loadSheet = s.loadSheet := by
  unfold State.testAllotment
  split
  · split
    · rfl
    · exact (State.closeVisits_quiet _ _ _).loadSheet.trans (State.post_loadSheet _ _ _ _ _ _)
  · rfl

theorem State.reportProgress_loadSheet (r : Option (List ZoneId)) : (s.reportProgress r).loadSheet = s.loadSheet := by
  cases r with
  | none => rfl
  | some zs =>
    refine (State.testAllotment_loadSheet _ none).trans (State.forZones_quiet _ (fun z t => ?_) zs s).loadSheet
    split
    · exact t.closeChannel_quiet z _
    · exact .refl t

theorem State.evaluateWindows_loadSheet (gs : List GroupId) : (s.evaluateWindows gs).1.loadSheet = s.loadSheet := by
  have hstore : (gs.foldl State.storeWindow s).loadSheet = s.loadSheet :=
    List.foldlRecOn (motive := fun t : State => t.loadSheet = s.loadSheet) _ _ rfl fun t ht _ _ => ht
  unfold State.evaluateWindows
  dsimp only
  split
  · exact hstore
  · exact (State.closeVisits_quiet _ _ _).loadSheet.trans hstore

theorem State.takeRoll_loadSheet : s.takeRoll.loadSheet = s.loadSheet := by
  have hclosed := (s.closeVisits_quiet (fun _ => true) .periodRoll).loadSheet
  unfold State.takeRoll
  generalize s.closeVisits (fun _ => true) .periodRoll = t at hclosed ⊢
  exact hclosed

theorem State.rollPeriod_loadSheet (cause : Int) (port : Option Port) : (s.rollPeriod cause port).loadSheet = s.loadSheet :=
  (State.takeRoll_loadSheet _).trans (State.post_loadSheet _ _ _ _ _ _)

theorem State.takePass_loadSheet : s.takePass.1.loadSheet = s.loadSheet := by
  unfold State.takePass
  split
  · split
    · rfl
    · exact State.rollPeriod_loadSheet _ _ _
  · rfl

theorem State.apportion_loadSheet (i : HeaderId) : (s.apportion i).loadSheet = s.loadSheet := by
  unfold State.apportion
  exact List.foldlRecOn (motive := fun t : State => t.loadSheet = s.loadSheet) _ _ rfl fun t ht _ _ => ht

theorem State.rawPulse_loadSheet (i : HeaderId) : (s.rawPulse i).loadSheet = s.loadSheet := by
  rw [State.rawPulse_eq]
  split
  · rfl
  · split
    · rfl
    · split
      · rfl
      · exact State.post_loadSheet _ _ _ _ _ _

theorem State.postFlow_loadSheet (i : HeaderId) (called : Option Direction) (only : Option ZoneId) (flow : Nat) :
    (s.postFlow i called only flow).loadSheet = s.loadSheet := by
  cases called with
  | none => rfl
  | some d => exact s.post_loadSheet _ _ _ _ _

theorem State.enterRegime_loadSheet (r : Regime) (manual : Option (List Entry)) (stack : List Frame) (port : Option Port) :
    (s.enterRegime r manual stack port).loadSheet = s.loadSheet := State.post_loadSheet _ _ _ _ _ _

theorem State.pushFrost_loadSheet : s.pushFrost.loadSheet = s.loadSheet := by
  have hreport : ∀ es, (s.reportFramed es).loadSheet = s.loadSheet := fun es =>
    List.foldlRecOn (motive := fun t : State => t.loadSheet = s.loadSheet) _ _ rfl fun t ht e _ => by
      split
      · exact (t.post_loadSheet _ _ _ _ _).trans ht
      · exact ht
  unfold State.pushFrost
  split
  · exact s.enterRegime_loadSheet _ _ _ _
  · exact (State.enterRegime_loadSheet _ _ _ _ _).trans (s.closeTagged_quiet _ _).loadSheet
  · exact (State.enterRegime_loadSheet _ _ _ _ _).trans ((State.closeTagged_quiet _ _ _).loadSheet.trans (hreport _))
  · rfl

theorem State.judgeStale_loadSheet (wasFresh : Bool) : (s.judgeStale wasFresh).loadSheet = s.loadSheet := by
  unfold State.judgeStale
  split
  · exact s.post_loadSheet _ _ _ _ _
  · rfl

theorem State.stopEngine_loadSheet (cause : StopCause) (port : Option Port) (value : Int) : (s.stopEngine cause port value).loadSheet = s.loadSheet :=
  (State.post_loadSheet _ _ _ _ _ _).trans (State.closeAll_quiet _ _).loadSheet

theorem State.takeStop_loadSheet : s.takeStop.loadSheet = s.loadSheet := by
  unfold State.takeStop
  split
  · exact s.stopEngine_loadSheet _ _ _
  · exact s.stopEngine_loadSheet _ _ _
  · split
    · rfl
    · exact State.post_loadSheet _ _ _ _ _ _

theorem State.markOverdue_quiet (z : ZoneId) : Quiet s (s.markOverdue z) := by
  unfold State.markOverdue
  dsimp only
  split
  · exact (s.updZone_quiet z _ ⟨rfl, rfl, rfl, rfl, rfl, rfl, rfl, rfl, rfl, rfl, rfl⟩).trans (State.post_quiet _ _ _ _ _ _)
  · exact .refl s

end

/-! ### Triage -/

/-- The loads that triage leaves are those of its admission; the notices and the marks touch none of the sheet (R158). -/
theorem State.triage_quiet (s : State) : Quiet (s.admitAll s.admission) s.triage := by
  refine Quiet.trans (t := (s.admitAll s.admission).markJoined s.admittedSet) (State.forZones_quiet _ (fun z t => ?_) _ _) ?_
  · split
    · exact .refl t
    · exact t.markOverdue_quiet z
  · unfold State.triage State.reportTriage
    split
    · exact .refl _
    · exact State.post_quiet _ _ _ _ _ _

theorem State.triage_loadSheet (s : State) : s.triage.loadSheet = { s.loadSheet with loads := s.admission.loads } := s.triage_quiet.loadSheet

/-- The loads of an admission are within the ceilings. -/
def Admission.within (a : Admission) (c : Flows) : Prop := (∀ h : HeaderId, a.loads.header[h] ≤ c.header[h]) ∧ a.loads.total ≤ c.total

/-- What triage tries, it admits only where the ceilings hold it (R157). -/
theorem Admission.consider_within {a : Admission} {c : Flows} (h : a.within c) (x : Feasible) : (a.consider c x).within c := by
  obtain ⟨hheader, htotal⟩ := h
  unfold Admission.consider
  split
  · rename_i hx
    obtain ⟨-, -, hfits, hall⟩ := of_decide_eq_true hx
    refine ⟨fun i => ?_, hall⟩
    rw [Flows.add_header]
    split
    · rename_i hi
      rw [hi]
      exact hfits
    · exact hheader i
  · exact ⟨hheader, htotal⟩

theorem Flows.zero_header (i : HeaderId) : Flows.zero.header[i] = 0 := by simp [Flows.zero]

theorem Admission.none_within (c : Flows) : (Admission.mk .zero []).within c :=
  ⟨fun i => (Flows.zero_header i).trans_le (Nat.zero_le _), Nat.zero_le _⟩

theorem State.admission_within (s : State) : s.admission.within s.supply.inForce :=
  List.foldlRecOn (motive := fun a : Admission => a.within s.supply.inForce) _ _ (Admission.none_within _) fun _ ha x _ => Admission.consider_within ha x

/-- A run of triage makes up the sheet (R157). -/
theorem State.triage_loadsWithin {s : State} (howed : s.ceilingReportOwed = false) : s.triage.loadsWithin := by
  rw [State.loadsWithin_iff, State.triage_loadSheet]
  exact ⟨howed, .inr fun _ => s.admission_within⟩

theorem State.retriage_loadsWithin {s : State} (howed : s.ceilingReportOwed = false) : s.retriage.loadsWithin := by
  unfold State.retriage
  split
  · exact State.triage_loadsWithin howed
  · rename_i h
    exact State.loadsWithin_of_disarmed howed (by simpa using h)

/-! ### Supply events -/

/-- A ceiling change leaves the ceilings of before, or a report owed (R84). -/
theorem State.ceilingChange_fitsOrOwed {s t : State} {port : Option Port}
    (ht : t.loadSheet = { s.loadSheet with inForce := t.supply.inForce }) (h : s.loadSheet.fitsOrOwed) :
    (t.ceilingChange s.supply.inForce port).loadSheet.fitsOrOwed := by
  unfold State.ceilingChange
  split
  · rename_i hi
    rw [ht, hi]
    exact h
  · exact .inl rfl

theorem State.complete_fitsOrOwed {s : State} {p : Port} {d : Directive} {run : State → State × Answer} (h : s.loadSheet.fitsOrOwed)
    (hrun : (run s).1.loadSheet.fitsOrOwed) : (s.complete p d run).loadSheet.fitsOrOwed :=
  State.complete_keeps (P := fun t => t.loadSheet.fitsOrOwed) (fun _ _ _ ht => ht) h hrun

theorem State.runDeclare_fitsOrOwed {s : State} (p : Port) (f : FlowFields) (v : Nat) (h : s.loadSheet.fitsOrOwed) :
    (s.runDeclare p f v).1.loadSheet.fitsOrOwed := by
  refine Checked.orRange_keeps (P := fun t => t.loadSheet.fitsOrOwed) _ h fun w _ => State.ceilingChange_fitsOrOwed ?_ h
  rw [State.post_loadSheet, State.post_supply]
  rfl

theorem State.runSetFallback_fitsOrOwed {s : State} (p : Port) (f : FlowFields) (h : s.loadSheet.fitsOrOwed) :
    (s.runSetFallback p f).1.loadSheet.fitsOrOwed := by
  refine Checked.orRange_keeps (P := fun t => t.loadSheet.fitsOrOwed) _ h fun w _ => ?_
  unfold State.replaceFallback
  split
  · exact h
  · exact State.ceilingChange_fitsOrOwed rfl h

theorem State.lapse_fitsOrOwed {s : State} (h : s.loadSheet.fitsOrOwed) : s.lapse.loadSheet.fitsOrOwed := by
  unfold State.lapse
  split
  · refine State.ceilingChange_fitsOrOwed ?_ h
    rw [State.post_loadSheet, State.post_supply]
    rfl
  · exact h

theorem State.takeAtPoint_fitsOrOwed {s : State} (ev : SupplyEvent) (h : s.loadSheet.fitsOrOwed) : (s.takeAtPoint ev).loadSheet.fitsOrOwed := by
  have htaken : s.takeUp.loadSheet.fitsOrOwed := by rwa [State.takeUp_loadSheet]
  cases ev with
  | declare p f v => exact State.complete_fitsOrOwed htaken (State.runDeclare_fitsOrOwed p f v htaken)
  | fallback p f => exact State.complete_fitsOrOwed htaken (State.runSetFallback_fitsOrOwed p f htaken)
  | lapse => exact State.lapse_fitsOrOwed h

/-! ### Selections -/

/-- The turns of reports that a state can still ask for: a report is owed only where a supply event has left those on their way (R124; log entry 10). -/
def State.reportsWithin (n : Nat) (s : State) : Prop := s.supplyInFlight.length ≤ n ∧ (s.ceilingReportOwed = true → s.supplyInFlight.length < n)

theorem State.takeAtPoint_supplyInFlight (s : State) (ev : SupplyEvent) : (s.takeAtPoint ev).supplyInFlight = s.supplyInFlight :=
  State.takeAtPoint_keeps (P := fun t => t.supplyInFlight = s.supplyInFlight) (fun q h => q.supplyInFlight.trans h) (fun q h => by rw [q]; exact h) ev rfl

/-- A point at which nothing is due brings the events on their way nearer; one at which some are due takes them off. -/
theorem State.passPoint_reportsWithin {n : Nat} {s : State} (h : s.reportsWithin n) : s.passPoint.reportsWithin n := by
  obtain ⟨hlength, howed⟩ := h
  unfold State.passPoint
  by_cases hdue : (s.supplyInFlight.filter fun e => decide (e.points = 0)) = []
  · have hlater : ((s.supplyInFlight.filter fun e => decide (e.points ≠ 0)).map fun e => { e with points := e.points - 1 : InFlight }).length ≤
        s.supplyInFlight.length := (List.length_map _).trans_le (List.length_filter_le _ _)
    rw [hdue]
    exact ⟨hlater.trans hlength, fun k => hlater.trans_lt (howed k)⟩
  · have hfewer : ((s.supplyInFlight.filter fun e => decide (e.points ≠ 0)).map fun e => { e with points := e.points - 1 : InFlight }).length <
        s.supplyInFlight.length := by
      obtain ⟨e, he⟩ := List.exists_mem_of_ne_nil _ hdue
      obtain ⟨hmem, hzero⟩ := List.mem_filter.mp he
      rw [List.length_map]
      refine List.length_filter_lt_length_iff_exists.mpr ⟨e, hmem, ?_⟩
      simpa using hzero
    have hflight := List.foldlRecOn (motive := fun t : State => t.supplyInFlight =
        (s.supplyInFlight.filter fun e => decide (e.points ≠ 0)).map fun e => { e with points := e.points - 1 })
      (s.supplyInFlight.filter fun e => decide (e.points = 0)) (fun t e => t.takeAtPoint e.event)
      (b := { s with supplyInFlight := (s.supplyInFlight.filter fun e => decide (e.points ≠ 0)).map fun e => { e with points := e.points - 1 } })
      rfl fun t ht e _ => (t.takeAtPoint_supplyInFlight e.event).trans ht
    unfold State.reportsWithin
    rw [hflight]
    exact ⟨(hfewer.trans_le hlength).le, fun _ => hfewer.trans_le hlength⟩

theorem State.passPoint_fitsOrOwed {s : State} (h : s.loadSheet.fitsOrOwed) : s.passPoint.loadSheet.fitsOrOwed :=
  List.foldlRecOn (motive := fun t : State => t.loadSheet.fitsOrOwed) _ _ h fun _ ht e _ => State.takeAtPoint_fitsOrOwed e.event ht

/-- A turn of a selection keeps the law of R157 but for the reports owed, of which there are no more than the supply events that it takes. -/
theorem keptInTurn_loads (n : Nat) :
    KeptInTurn fun s => (s.loadSheet.fitsOrOwed ∧ s.reportsWithin n) ∧ s.engine.runState = .running := by
  have quiet : ∀ {s t : State}, Quiet s t → (s.loadSheet.fitsOrOwed ∧ s.reportsWithin n) ∧ s.engine.runState = .running →
      (t.loadSheet.fitsOrOwed ∧ t.reportsWithin n) ∧ t.engine.runState = .running := fun q h => by
    unfold State.reportsWithin
    rw [q.loadSheet, q.supplyInFlight, q.ceilingReportOwed, q.engine]
    exact h
  exact
    { still := fun _ => quiet
      engine := fun _ _ _ hr _ h => ⟨h.1, hr.trans h.2⟩
      point := fun {s} h => ⟨⟨State.passPoint_fitsOrOwed h.1.1, State.passPoint_reportsWithin h.1.2⟩,
        State.passPoint_keeps (P := fun t => t.engine.runState = .running) (fun q ht => by rw [q.engine]; exact ht)
          (fun q ht => by rw [q]; exact ht) (fun _ _ ht => ht) h.2⟩
      openZone := fun s z tag => quiet (s.openChannel_quiet z tag) }

/-- The reports that follow a selection leave none owed, and each begins with triage at the ceilings in force (R84, R124). -/
theorem State.reportTurns_loadsWithin (n : Nat) {s : State} (h : s.loadSheet.fitsOrOwed)
    (hn : s.ceilingReportOwed = true → s.supplyInFlight.length < n) : (s.reportTurns n).loadsWithin := by
  induction n generalizing s with
  | zero => exact s.loadsWithin_iff.mpr ⟨Bool.eq_false_iff.mpr fun k => Nat.not_lt_zero _ (hn k), h⟩
  | succ n ih =>
    unfold State.reportTurns
    split
    · rename_i howed
      have htriage : (State.retriage { s with ceilingReportOwed := false }).loadsWithin := State.retriage_loadsWithin rfl
      have hflight : (State.retriage { s with ceilingReportOwed := false }).supplyInFlight = s.supplyInFlight := by
        rw [(State.retriage_judged _).rest]
      have hturn := (keptInTurn_loads s.supplyInFlight.length).selectOnce
        ⟨htriage.fitsOrOwed, (congrArg List.length hflight).le, fun k => by rw [htriage.1] at k; cases k⟩
      exact ih hturn.1 fun k => (hturn.2.2 k).trans_le (Nat.le_of_lt_succ (hn howed))
    · rename_i howed
      exact s.loadsWithin_iff.mpr ⟨Bool.eq_false_iff.mpr howed, h⟩

/-- A selection, with the reports that follow it, keeps the law (R84, R124). -/
theorem State.select_loadsWithin {s : State} (h : s.loadSheet.fitsOrOwed) : s.select.loadsWithin := by
  have hturn := (keptInTurn_loads (s.supplyInFlight.length + 1)).selectOnce
    ⟨h, Nat.le_succ _, fun _ => Nat.lt_succ_self _⟩
  exact State.reportTurns_loadsWithin _ hturn.1 fun _ => Nat.lt_succ_self _

theorem State.reportCeilings_loadsWithin {s : State} (h : s.loadSheet.fitsOrOwed) : s.reportCeilings.loadsWithin := by
  unfold State.reportCeilings
  split
  · exact State.select_loadsWithin (State.retriage_loadsWithin (s := { s with ceilingReportOwed := false }) rfl).fitsOrOwed
  · rename_i howed
    exact s.loadsWithin_iff.mpr ⟨Bool.eq_false_iff.mpr howed, h⟩

end Sys2Proof.Machine
end

section
/-! The law of R157 carried through the operations that select or run triage, and every step. -/

namespace Sys2Proof.Machine
namespace State.loadsWithin
variable {s : State}

theorem complete {p : Port} {d : Directive} {run : State → State × Answer} (h : s.loadsWithin) (hrun : (run s).1.loadsWithin) :
    (s.complete p d run).loadsWithin := State.complete_keeps (fun _ _ _ ht => ht) h hrun

theorem quiet {t : State} (h : s.loadsWithin) (q : Quiet s t) : t.loadsWithin := h.of_sheet q.loadSheet

theorem select (h : s.loadsWithin) : s.select.loadsWithin := State.select_loadsWithin h.fitsOrOwed

theorem selectIf (h : s.loadsWithin) (due : Bool) : (s.selectIf due).loadsWithin := by
  cases due
  · exact h
  · exact h.select

theorem retriage (h : s.loadsWithin) : s.retriage.loadsWithin := State.retriage_loadsWithin h.1

/-! ### Arrival at SHUT and lockouts -/

theorem applyNow (h : s.loadsWithin) (z : ZoneId) (e : PendingEdit) : (s.applyNow z e).loadsWithin := by
  have hedit : ((s.applyEdit z e).handOffQuotas z (s.zone z)).loadsWithin := by
    rw [State.handOffQuotas_eq]
    exact h.of_sheet (s.applyEdit_loadSheet z e)
  unfold State.applyNow
  rw [State.handOff_eq]
  split
  · exact hedit.retriage
  · exact hedit

theorem applyPending (h : s.loadsWithin) (z : ZoneId) : (s.applyPending z).loadsWithin := by
  unfold State.applyPending
  split
  · exact (h.applyNow z _).of_sheet (State.landEdits_loadSheet _ _)
  · exact h

theorem shutReports (h : s.loadsWithin) (z : ZoneId) (r : ShutReport) : (s.shutReports z r).loadsWithin := by
  have hlowered : (s.lowerCommitted (s.zone z).opened).loadsWithin := by
    cases (s.zone z).opened <;> exact h
  have hsettled : (if r.direct && r.wetEnded then (s.lowerCommitted (s.zone z).opened).markSettling (s.zone z).openedHeader
      else s.lowerCommitted (s.zone z).opened).loadsWithin := by
    split
    · exact hlowered.quiet (State.markSettling_quiet _ _)
    · exact hlowered
  have hshut := ((hsettled.applyPending z).of_sheet (State.takeShut_loadSheet _ z r)).quiet (State.startDryClock_quiet _ z (r.direct && r.wetEnded))
  refine State.loadsWithin.select ?_
  unfold State.triageAtShut
  split
  · exact hshut.retriage
  · exact hshut

theorem driveFault (h : s.loadsWithin) (z : ZoneId) : (s.driveFault z).loadsWithin := by
  unfold State.driveFault
  dsimp only
  split
  · have hshut : ((s.updZone z Zone.shut).leaveOrders z).loadsWithin := h
    exact (hshut.of_sheet (State.setLockout_loadSheet _ z _)).shutReports z _
  · exact h

theorem lockoutWhileShut (h : s.loadsWithin) (z : ZoneId) : (s.lockoutWhileShut z).loadsWithin := by
  have hjudged : (if (s.zone z).frostMember then s.retriage else s).loadsWithin := by
    split
    · exact h.retriage
    · exact h
  unfold State.lockoutWhileShut
  extract_lets t
  split
  · exact hjudged
  · exact hjudged.select

theorem requestLockout (h : s.loadsWithin) (z : ZoneId) (l : Lockout) : (s.requestLockout z l).loadsWithin := by
  have hlocked : (s.setLockout z l).loadsWithin := h.of_sheet (s.setLockout_loadSheet z l)
  unfold State.requestLockout
  dsimp only
  split
  · split
    · exact hlocked.quiet (State.closeChannel_quiet _ z _)
    · exact hlocked.quiet (State.closeChannel_quiet _ z _)
    · exact hlocked
    · exact hlocked.lockoutWhileShut z
  · exact h

theorem removeLockout (h : s.loadsWithin) (z : ZoneId) : (s.removeLockout z).loadsWithin := by
  have hclear : (s.updZone z fun x => { x with lockout := none }).loadsWithin := h
  unfold State.removeLockout
  refine State.loadsWithin.select ?_
  split
  · exact hclear.retriage
  · exact hclear

/-! ### Meters -/

theorem sendLockout (h : s.loadsWithin) (called : Option Direction) (only : Option ZoneId) (later : Bool) :
    (s.sendLockout called only later).loadsWithin := by
  unfold State.sendLockout
  split
  · split
    · exact h
    · exact h.requestLockout _ _
  · exact h

theorem reportProgress (h : s.loadsWithin) (r : Option (List ZoneId)) : (s.reportProgress r).loadsWithin := h.of_sheet (s.reportProgress_loadSheet r)

theorem postFlow (h : s.loadsWithin) (i : HeaderId) (called : Option Direction) (only : Option ZoneId) (flow : Nat) :
    (s.postFlow i called only flow).loadsWithin := h.of_sheet (s.postFlow_loadSheet i called only flow)

/-- An expiry of an interval, in whatever order its reports are taken (R59; log entry 9). -/
theorem expireInterval (h : s.loadsWithin) (i : HeaderId) (order : ExpiryOrder) : (s.expireInterval i order).loadsWithin := by
  have hcredit : ∀ f, ((s.apportion i).updMeter i f).loadsWithin := fun _ => h.of_sheet (s.apportion_loadSheet i)
  have hbegin : ∀ t : State, t.loadsWithin → (t.beginInterval i).loadsWithin := fun _ ht => ht
  unfold State.expireInterval
  refine hbegin _ ?_
  cases order with
  | progressFirst => exact (((hcredit _).reportProgress _).postFlow _ _ _ _).sendLockout _ _ _
  | noticeFirst => exact (((hcredit _).postFlow _ _ _ _).reportProgress _).sendLockout _ _ _
  | lockoutFirst => exact (((hcredit _).postFlow _ _ _ _).sendLockout _ _ _).reportProgress _
  | lockoutLater => exact (((hcredit _).reportProgress _).postFlow _ _ _ _).sendLockout _ _ _
  | noticeFirstLockoutLater => exact (((hcredit _).postFlow _ _ _ _).reportProgress _).sendLockout _ _ _

theorem replaceMeter (h : s.loadsWithin) (i : HeaderId) (v : MeterSettings) : (s.replaceMeter i v).loadsWithin :=
  (h.of_sheet (s.apportion_loadSheet i)).reportProgress _

/-! ### The clock -/

theorem windows (h : s.loadsWithin) (gs : List GroupId) : (s.evaluateWindows gs).1.loadsWithin := h.of_sheet (s.evaluateWindows_loadSheet gs)

theorem advanceClock (h : s.loadsWithin) : s.advanceClock.loadsWithin := by
  have hwindows := State.loadsWithin.windows (s := { s with clock := s.clock.advance }) h groupIds
  unfold State.advanceClock State.minuteChange
  dsimp only
  split
  · refine State.loadsWithin.selectIf ?_ _
    split
    · exact hwindows.of_sheet (State.takePass_loadSheet _)
    · exact hwindows
  · exact h

theorem replacePeriod (h : s.loadsWithin) (p : Port) (v : PeriodSettings) : (s.replacePeriod p v).loadsWithin := by
  have hset : (State.recomputeQuotas { s with clock := s.clock.withSettings v }).loadsWithin := h
  unfold State.replacePeriod
  dsimp only
  split
  · exact h
  · exact (hset.of_sheet (State.testAllotment_loadSheet _ _)).select

/-! ### Frost -/

/-- Arming ends in a run of triage and a selection (R109, R163). -/
theorem armFrost (h : s.loadsWithin) (target : FrostState) (inhibit : Bool) (port : Option Port) (value : Int) :
    (s.armFrost target inhibit port value).loadsWithin := by
  have howed : ∀ t : State, t.loadSheet.owed = false → t.armingChanges.loadsWithin := fun t ht =>
    State.triage_loadsWithin (s := { t.mapZones (fun _ x => { x with dryClock := 0, overdue := false }) with
      engine := { t.engine with runState := if t.engine.runState = .paused then .running else t.engine.runState } }) ht
  refine State.loadsWithin.select (howed _ ?_)
  rw [State.pushFrost_loadSheet, State.post_loadSheet]
  exact h.1

theorem disarmFrost (h : s.loadsWithin) (inhibit : Bool) (port : Option Port) (value : Int) : (s.disarmFrost inhibit port value).loadsWithin := by
  have hposted := State.post_loadSheet { s with climate := { s.climate with frost := .disarmed, thawTimer := 0, inhibit := inhibit } }
    .frostDisarmed none none port (some value)
  unfold State.disarmFrost State.takeDisarming
  generalize State.post { s with climate := { s.climate with frost := .disarmed, thawTimer := 0, inhibit := inhibit } }
    .frostDisarmed none none port (some value) = t at hposted ⊢
  have hcleared : t.clearAdmitted.loadsWithin :=
    State.loadsWithin_of_disarmed ((congrArg LoadSheet.owed hposted).trans h.1) (congrArg LoadSheet.armed hposted)
  exact (hcleared.of_sheet (State.pop_loadSheet _ port)).select

theorem judgeFrost (h : s.loadsWithin) (port : Option Port) : (s.judgeFrost port).loadsWithin := by
  unfold State.judgeFrost
  dsimp only
  split
  · split
    · exact h.armFrost _ _ _ _
    · exact h
  · split
    · split
      · exact h.disarmFrost _ _ _
      · exact h
    · exact h
  · exact h

theorem evaluateClimate (h : s.loadsWithin) (isReport : Bool) (port : Option Port) : (s.evaluateClimate isReport port).loadsWithin := by
  have hjudged : (State.judgeFrost
      { s with climate := Climate.judgeInhibit { s.climate with effective := lowest s.climate.freshTemperatures } isReport } port).loadsWithin := by
    refine State.loadsWithin.judgeFrost (h.of_sheet ?_) port
    unfold Climate.judgeInhibit
    split <;> rfl
  exact hjudged.of_sheet (State.judgeStale_loadSheet _ _)

theorem replaceLimits (h : s.loadsWithin) (p : Port) (v : FrostLimits) : (s.replaceLimits p v).loadsWithin := by
  have hset : State.loadsWithin
      { s with climate := { s.climate with limits := v, slots := s.climate.slots.map fun x => x.map fun y => y.judged v.timeout } } := h
  exact hset.evaluateClimate false (some p)

theorem expireSlot (h : s.loadsWithin) (p : Port) : (s.expireSlot p).loadsWithin := by
  unfold State.expireSlot
  split
  · rename_i x _
    have hset : (s.setSlot p (some { x with fresh := false })).loadsWithin := h
    split
    · exact hset.evaluateClimate _ _
    · exact h
  · exact h

theorem reinitialise (h : s.loadsWithin) (p : Port) (x : Straps) : (s.reinitialise p x).loadsWithin := by
  have hcleared : ((s.updPort p fun q => q.reinitialised x (decide (s.hold planEntry = .held p))).setSlot p none).loadsWithin := h
  rw [State.reinitialise_eq]
  exact hcleared.evaluateClimate false none

/-- At the release frost is disarmed and no report is owed, and pending edits and a pending roll leave that (R21, R54, R92). -/
theorem of_releaseReset (s : State) (a b c : Straps) : (s.releaseReset a b c).loadsWithin := by
  have hblocks : (s.releaseBlocks a b c).loadsWithin := State.loadsWithin_of_disarmed rfl rfl
  have hedits : (s.releaseBlocks a b c).applyAllPending.loadsWithin := by
    unfold State.applyAllPending
    split
    · exact hblocks
    · refine State.forZones_keeps (P := State.loadsWithin) _ (fun z t ht => ?_) _ _ hblocks
      unfold State.applyAtRelease
      split
      · exact ht.of_sheet (t.applyEdit_loadSheet z _)
      · exact ht
  unfold State.releaseReset State.rollPending
  generalize (s.releaseBlocks a b c).applyAllPending = t at hedits ⊢
  split
  · exact State.loadsWithin.of_sheet (s := { t with clock := { t.clock with pendingRoll := false } }) hedits (State.rollPeriod_loadSheet _ _ _)
  · exact hedits

/-! ### The effects of directives -/

theorem carryOutEdit (h : s.loadsWithin) (z : ZoneId) (e : PendingEdit) (clamped : Bool) : (s.carryOutEdit z e clamped).1.loadsWithin := by
  unfold State.carryOutEdit
  split
  · exact (h.applyNow z e).select
  · exact h

theorem runClearZone (h : s.loadsWithin) (p : Port) (zone : Nat) : (s.runClearZone p zone).1.loadsWithin := by
  refine KeptInEvents.withIndex State.loadsWithin h fun z => ?_
  split
  · exact h
  · exact State.requireGroups_keeps (P := State.loadsWithin) h (h.carryOutEdit z _ _)

theorem runSetRing (h : s.loadsWithin) (p : Port) (zones : List Nat) : (s.runSetRing p zones).1.loadsWithin := by
  have hreplaced : ∀ ring, (s.replaceRing ring).loadsWithin := fun _ => State.loadsWithin.select h
  unfold State.runSetRing
  split
  · exact h
  · split
    · exact h
    · rw [State.requirePlan_eq]
      split
      · exact hreplaced _
      · exact h

theorem runStartQuota (h : s.loadsWithin) (p : Port) : (s.runStartQuota p).1.loadsWithin := by
  unfold State.runStartQuota
  split
  · exact h
  · exact (h.of_sheet (s.enterRegime_loadSheet _ _ _ _)).select
  all_goals split <;> exact h

theorem runStopQuota (h : s.loadsWithin) (p : Port) : (s.runStopQuota p).1.loadsWithin := by
  have hcleared : ∀ t : State, t.loadsWithin → t.clearSuspended.loadsWithin := fun _ ht => ht
  unfold State.runStopQuota
  split
  · dsimp only
    exact ((hcleared _ (h.quiet (s.closeTagged_quiet _ _))).of_sheet (State.pop_loadSheet _ _)).select
  · split <;> exact h

theorem startManual (h : s.loadsWithin) (p : Port) (entries : List Entry) : (s.startManual p entries).loadsWithin := by
  have hclosed : (if s.engine.regime = .quota then s.closeTagged .quota .preemption else s).loadsWithin := by
    split
    · exact h.quiet (s.closeTagged_quiet _ _)
    · exact h
  exact (hclosed.of_sheet (State.enterRegime_loadSheet _ _ _ _ _)).select

theorem runRunManual (h : s.loadsWithin) (p : Port) (entries : List (Nat × Nat)) : (s.runRunManual p entries).1.loadsWithin := by
  have htake : ∀ zones times clamped, (s.takeRunManual p zones times clamped).1.loadsWithin := fun zones times clamped => by
    unfold State.takeRunManual
    split
    · exact h
    · split
      · exact h.startManual p _
      · exact h.startManual p _
      · exact h
      · exact h
  unfold State.runRunManual
  split
  · exact h
  · split
    · exact h
    · exact Checked.orRange_keeps (P := State.loadsWithin) _ h fun times clamped => htake _ times clamped

theorem runCancelManual (h : s.loadsWithin) (p : Port) : (s.runCancelManual p).1.loadsWithin := by
  have hdiscarded : ∀ t : State, t.loadsWithin → t.discardManual.loadsWithin := fun _ ht => ht
  unfold State.runCancelManual
  split
  · dsimp only
    exact ((hdiscarded _ (h.quiet (s.closeTagged_quiet _ _))).of_sheet (State.pop_loadSheet _ _)).select
  · split <;> exact h

theorem runPause (h : s.loadsWithin) : s.runPause.1.loadsWithin := by
  unfold State.runPause
  split
  · exact h
  · split <;> exact h

theorem runResume (h : s.loadsWithin) : s.runResume.1.loadsWithin := by
  unfold State.runResume
  split
  · exact h
  · split
    · exact h
    · exact State.loadsWithin.select (s := { s with engine := { s.engine with runState := .running, stopCause := none } }) h

theorem runShutdown (h : s.loadsWithin) (p : Port) : (s.runShutdown p).1.loadsWithin := by
  unfold State.runShutdown
  split
  · exact h
  · dsimp only
    exact h.of_sheet (s.stopEngine_loadSheet _ _ _)

theorem runArmFrost (h : s.loadsWithin) (p : Port) : (s.runArmFrost p).1.loadsWithin := by
  unfold State.runArmFrost
  split
  · exact h.armFrost _ _ _ _
  · rename_i hauto
    have harmed : s.armed = true := s.armed_iff.mpr (by rw [hauto]; decide)
    refine State.loadsWithin.of_sheet (s := { s with climate := { s.climate with frost := .armedManual, thawTimer := 0 } }) ?_
      (State.post_loadSheet _ _ _ _ _ _)
    exact ⟨h.1, fun _ => h.2 harmed⟩
  · exact h

theorem runDisarmFrost (h : s.loadsWithin) (p : Port) : (s.runDisarmFrost p).1.loadsWithin := by
  unfold State.runDisarmFrost
  split
  · exact h.disarmFrost _ _ _
  · split <;> exact h

theorem runCloseZone (h : s.loadsWithin) (z : ZoneId) : (s.runCloseZone z).1.loadsWithin := by
  unfold State.runCloseZone
  split
  · exact h.quiet (s.closeChannel_quiet z _)
  · exact h

theorem runClearLockout (h : s.loadsWithin) (z : ZoneId) : (s.runClearLockout z).1.loadsWithin := by
  unfold State.runClearLockout
  split
  · exact h
  · split
    · exact h
    · exact h.removeLockout z

theorem runNewPeriod (h : s.loadsWithin) (p : Port) : (s.runNewPeriod p).1.loadsWithin := by
  have hstart : State.loadsWithin { s with clock := { s.clock with daysInto := 0 } } := h
  have hrolled := hstart.of_sheet (State.rollPeriod_loadSheet _ 2 (some p))
  unfold State.runNewPeriod
  dsimp only
  exact hrolled.select

theorem runTakeHold (h : s.loadsWithin) (p : Port) (e : EntryId) : (s.runTakeHold p e).1.loadsWithin := by
  unfold State.runTakeHold
  split
  · exact h
  all_goals split <;> exact h

theorem runReleaseHold (h : s.loadsWithin) (p : Port) (e : EntryId) : (s.runReleaseHold p e).1.loadsWithin := by
  unfold State.runReleaseHold
  split
  · split <;> exact h
  · exact h

theorem runBreakHold (h : s.loadsWithin) (e : EntryId) : (s.runBreakHold e).1.loadsWithin := by
  have hbroken : ∀ q, (s.breakEntry e q).loadsWithin := fun _ => h.of_sheet (State.post_loadSheet _ _ _ _ _ _)
  unfold State.runBreakHold
  split
  · exact hbroken _
  · exact hbroken _
  · exact h

/-- The effect of every directive but the two that change the ceilings (R172). -/
theorem run (h : s.loadsWithin) (p : Port) (d : Directive) (hd : d.isSupply = false) : (d.run p s).1.loadsWithin := by
  have range : ∀ {α : Type} (c : Checked α) {f : α → Bool → State × Answer}, (∀ v b, (f v b).1.loadsWithin) → (c.orRange s f).1.loadsWithin :=
    fun c _ hf => Checked.orRange_keeps (P := State.loadsWithin) c h hf
  have index : ∀ {n v : Nat} {f : Fin n → State × Answer}, (∀ i, (f i).1.loadsWithin) → (withIndex n v s f).1.loadsWithin :=
    fun hf => KeptInEvents.withIndex State.loadsWithin h hf
  have plan : ∀ {r : State × Answer}, r.1.loadsWithin → (s.requirePlanOverBreak p r).1.loadsWithin :=
    fun hr => KeptInEvents.requirePlanOverBreak State.loadsWithin h hr
  have windowed : ∀ (t : State) (gs : List GroupId), t.loadsWithin → ((t.evaluateWindows gs).1.selectIf (t.evaluateWindows gs).2).loadsWithin :=
    fun _ gs ht => (ht.windows gs).selectIf _
  cases d with
  | declareSupply f v => cases hd
  | setFallback f => cases hd
  | readZone z => exact index fun _ => h
  | readGroup g => exact index fun _ => h
  | readRing => exact h
  | readHeader i => exact index fun _ => h
  | readEngine => exact h
  | readClimate => exact h
  | readClock => exact h
  | readHolds => exact h
  | readPort => exact h
  | selectZones f t => exact KeptInEvents.runSelectZones State.loadsWithin h
  | fetchNotice =>
    change (s.runFetchNotice p).1.loadsWithin
    unfold State.runFetchNotice
    split <;> exact h
  | takeHold e => exact index fun i => h.runTakeHold p i
  | releaseHold e => exact index fun i => h.runReleaseHold p i
  | editZone z f => exact index fun i => range _ fun _ _ => State.requireGroups_keeps (P := State.loadsWithin) h (h.carryOutEdit i _ _)
  | clearZone z => exact h.runClearZone p z
  | setWindow g a b => exact index fun i => range _ fun _ _ => State.requireGroups_keeps (P := State.loadsWithin) h (windowed _ _ h)
  | setRing zs => exact h.runSetRing p zs
  | setPeriod l m a => exact range _ fun v _ => plan (h.replacePeriod p v)
  | setMeter i f => exact index fun i => range _ fun v _ => plan (h.replaceMeter i v)
  | reportTemperature t =>
    exact range _ fun v _ => State.loadsWithin.evaluateClimate (s := s.setSlot p (some ⟨v, 0, true⟩)) h true (some p)
  | armFrost => exact h.runArmFrost p
  | disarmFrost => exact h.runDisarmFrost p
  | setFrostLimits a d i t => exact range _ fun v _ => h.replaceLimits p v
  | startQuota => exact h.runStartQuota p
  | stopQuota => exact h.runStopQuota p
  | runManual es => exact h.runRunManual p es
  | cancelManual => exact h.runCancelManual p
  | pause => exact h.runPause
  | resume => exact h.runResume
  | shutdown => exact h.runShutdown p
  | closeZone z => exact index fun i => h.runCloseZone i
  | clearLockout z => exact index fun i => h.runClearLockout i
  | breakHold e => exact index fun i => h.runBreakHold i
  | setClock d t => exact range _ fun _ _ => windowed _ _ h
  | newPeriod => exact h.runNewPeriod p
  | setOptions m f t r n => exact range _ fun _ _ => h
  | narrowRights a b c d => exact h

/-! ### Every step -/

theorem execDirective (h : s.loadsWithin) {c : Instr} {p : Port} {d : Directive} (hc : c.directive = some (p, d)) {t : State}
    (he : exec c s = .next t) : t.loadsWithin := by
  cases hd : d.isSupply with
  | false =>
    rw [exec_directive hc hd] at he
    exact ChannelLaw.of_next he (h.complete (h.run p d hd))
  | true =>
    rcases exec_supplyDirective hc hd s with hx | ⟨ev, n, -, hx⟩
    · rw [hx] at he
      refine ChannelLaw.of_next he (State.reportCeilings_loadsWithin (State.complete_fitsOrOwed h.fitsOrOwed ?_))
      cases d with
      | declareSupply f v => exact State.runDeclare_fitsOrOwed p f v h.fitsOrOwed
      | setFallback f => exact State.runSetFallback_fitsOrOwed p f h.fitsOrOwed
      | _ => cases hd
    · rw [hx] at he
      exact ChannelLaw.of_next he (h.of_sheet (s.sendInto_loadSheet _ _ _))

theorem execEvent (h : s.loadsWithin) {c : Instr} (hc : c.directive = none) {t : State} (he : exec c s = .next t) : t.loadsWithin := by
  have hclose : ∀ (z : ZoneId) (e : Ending), (s.closeChannel z e).loadsWithin := fun z e => h.quiet (s.closeChannel_quiet z e)
  have hports : ∀ {t : State}, PortsOnly s t → t.loadsWithin := fun q => h.of_sheet q.loadSheet
  have live : ∀ {t : State} {f : State → State}, t.loadsWithin → (f t).loadsWithin → (t.live f).loadsWithin :=
    fun ht hf => State.live_keeps (P := State.loadsWithin) ht hf
  cases c with
  | powerOn a b c => exact ChannelLaw.of_next he (State.loadsWithin_of_disarmed rfl rfl)
  | resetAsserted =>
    refine ChannelLaw.of_next he ?_
    split
    · exact h
    · exact ⟨rfl, h.2⟩
  | resetReleased a b c =>
    refine ChannelLaw.of_next he ?_
    split
    · exact of_releaseReset s a b c
    · exact h
  | stopAsserted =>
    refine ChannelLaw.of_next he ?_
    split
    · exact h
    · exact live (t := { s with stopLow := true }) h (State.loadsWithin.of_sheet (s := { s with stopLow := true }) h (State.takeStop_loadSheet _))
  | stopReleased => exact ChannelLaw.of_next he h
  | rawPulse i => exact ChannelLaw.of_next he (live h (h.of_sheet (s.rawPulse_loadSheet i)))
  | driveSenseFall z =>
    refine ChannelLaw.of_next he (live h ?_)
    split
    · exact h.driveFault z
    · exact h
  | senseTimerExpiry z high =>
    have hsampled : (s.updZone z fun x => { x with sensePhase := .watching, senseTimer := none }).loadsWithin := h
    refine ChannelLaw.of_next he (live h ?_)
    split
    · cases high
      · exact hsampled.driveFault z
      · exact hsampled
    · exact h
  | fillTimerExpiry z =>
    refine ChannelLaw.of_next he (live h ?_)
    split
    · exact h.quiet (s.enterWet_quiet z)
    · exact h
  | closeTimerExpiry z =>
    have hshut : (s.updZone z Zone.shut).loadsWithin := h
    refine ChannelLaw.of_next he (live h ?_)
    split
    · exact hshut.shutReports z _
    · exact h
  | intervalTimerExpiry i order =>
    refine ChannelLaw.of_next he (live h ?_)
    split
    · exact h.expireInterval i order
    · exact h
  | validityTimerExpiry taking =>
    refine ChannelLaw.of_next he (live h ?_)
    cases taking with
    | atOnce => exact State.reportCeilings_loadsWithin (State.lapse_fitsOrOwed h.fitsOrOwed)
    | inSelection n => exact h.of_sheet (s.sendInto_loadSheet _ _ _)
  | secondAdvance => exact ChannelLaw.of_next he (State.loadsWithin.advanceClock (live h h))
  | slotExpiry p => exact ChannelLaw.of_next he (live h (h.expireSlot p))
  | thawHoldExpiry =>
    refine ChannelLaw.of_next he (live h ?_)
    split
    · exact h.disarmFrost _ _ _
    · exact h
  | guardTimerExpiry z =>
    refine ChannelLaw.of_next he (live h ?_)
    split
    · exact (hclose z .guardExpired).quiet (State.post_quiet _ _ _ _ _ _)
    · exact h
  | soakReached z =>
    refine ChannelLaw.of_next he (live h ?_)
    split
    · exact h.select
    · exact h
  | dwellEnd z =>
    refine ChannelLaw.of_next he (live h ?_)
    split
    · exact hclose z _
    · exact h
  | runTimeSpent z =>
    refine ChannelLaw.of_next he (live h ?_)
    split
    · exact hclose z _
    · exact h
  | overdue z =>
    refine ChannelLaw.of_next he (live h ?_)
    split
    · exact h.quiet (s.markOverdue_quiet z)
    · exact h
  | frameComplete p frame =>
    refine ChannelLaw.of_next he ?_
    split
    · exact List.foldlRecOn (motive := State.loadsWithin) _ _ h fun t ht b _ => ht.of_sheet (t.takeByte_portsOnly p b).loadSheet
    · exact h
  | silence p => exact ChannelLaw.of_next he (live h (hports (s.takeSilence_portsOnly p)))
  | lineBreak p straps =>
    have hlow : (s.updPort p fun q => { q with lineLow := true }).loadsWithin := h
    refine ChannelLaw.of_next he ?_
    split
    · exact h
    · exact live hlow (hlow.reinitialise p straps)
  | takeUp => exact ChannelLaw.of_next he (live h (h.of_sheet s.takeUp_loadSheet))
  | replySent p => exact ChannelLaw.of_next he (live h h)
  | withdraw p =>
    refine ChannelLaw.of_next he ?_
    split
    · exact hports (s.takeWithdraw_portsOnly p)
    · exact h
  | characterReceived p data parity stop =>
    refine ChannelLaw.of_next he ?_
    split
    · split
      · exact hports (s.takeByte_portsOnly p data)
      · exact hports (s.takeBadCharacter_portsOnly p)
    · exact h
  | receiveLineReturnsHigh p => exact ChannelLaw.of_next he h
  | _ => cases hc

/-- The law through a step: a lockout request on its way, or a command on the queue's rest. -/
theorem step (h : s.loadsWithin) {t : State} (he : step s = .next t) : t.loadsWithin := by
  cases hp : s.pending with
  | nil =>
    rw [step_nil hp] at he
    refine ChannelLaw.of_next he ?_
    rcases s.takeLockoutRequest_cases with hkeep | ⟨r, rest, -, -, htaken⟩
    · rw [hkeep]
      exact h
    · rw [htaken]
      exact State.loadsWithin.requestLockout (s := { s with lockoutRequests := rest }) h r.zone r.kind
  | cons c rest =>
    rw [step_cons hp] at he
    have hrest : State.loadsWithin { s with pending := rest } := h
    cases hc : c.directive with
    | none => exact hrest.execEvent hc he
    | some pd => exact hrest.execDirective hc he

end State.loadsWithin
end Sys2Proof.Machine
end

section
/-! What a run of triage admits (R156, R157): the candidates in the order of triage, the admission after each of them, and the loads as sums. -/

namespace Sys2Proof.Machine

/-! ### The order of triage -/

theorem State.feasible_iff (s : State) (z : ZoneId) (c : Feasible) :
    s.feasible z = some c ↔ c.zone = z ∧ s.mayBeAdmitted z c.programme c.required := by
  have hcandidate := (s.zone z).frostCandidate_iff
  unfold State.feasible State.mayBeAdmitted
  by_cases hf : (s.zone z).frostCandidate = true
  · obtain ⟨hlock, x, hx, hon, hmember⟩ := hcandidate.mp hf
    rw [if_pos hf, hx]
    unfold Programme.required ceilDiv
    by_cases hdry : x.maxDry ≤ x.fill
    · simp only [if_pos hdry, Option.map_none, reduceCtorEq, false_iff]
      rintro ⟨-, hp, -, -, -, hfeasible, -⟩
      cases hp
      omega
    · simp only [if_neg hdry, Option.map_some, Option.some.injEq]
      constructor
      · rintro rfl
        exact ⟨rfl, rfl, hon, hmember, hlock, Nat.lt_of_not_le hdry, rfl⟩
      · rintro ⟨rfl, rfl, -, -, -, -, hr⟩
        rw [← hr]
  · rw [if_neg hf]
    simp only [reduceCtorEq, false_iff]
    rintro ⟨-, hp, hon, hmember, hlock, -⟩
    exact hf (hcandidate.mpr ⟨hlock, _, hp, hon, hmember⟩)

/-- Stands earlier in the order of triage, or is the same: lower frost rank, then lower zone number (R157). -/
def Feasible.notAfter (a b : Feasible) : Bool :=
  decide (a.programme.frostRank < b.programme.frostRank ∨ (a.programme.frostRank = b.programme.frostRank ∧ a.zone ≤ b.zone))

/-- Stands earlier in the order of triage (R157). -/
def Feasible.precedes (a b : Feasible) : Prop :=
  a.programme.frostRank < b.programme.frostRank ∨ (a.programme.frostRank = b.programme.frostRank ∧ a.zone < b.zone)

theorem Feasible.notAfter_total : Std.Total fun a b : Feasible => a.notAfter b = true where
  total := fun a b => by
    simp only [Feasible.notAfter, decide_eq_true_eq, Fin.le_def]
    omega

theorem Feasible.notAfter_trans : IsTrans Feasible fun a b => a.notAfter b = true where
  trans := fun a b c hab hbc => by
    simp only [Feasible.notAfter, decide_eq_true_eq, Fin.le_def] at *
    omega

theorem Feasible.insert_eq (a : Feasible) (l : List Feasible) : a.insert l = l.orderedInsert (fun a b => a.notAfter b) a := by
  induction l with
  | nil => rfl
  | cons b rest ih => simp only [Feasible.insert, List.orderedInsert_cons, Feasible.notAfter, decide_eq_true_eq, ih]

theorem State.triageOrder_eq (s : State) : s.triageOrder = (zoneIds.filterMap s.feasible).insertionSort fun a b => a.notAfter b := by
  unfold State.triageOrder List.insertionSort
  congr 1
  funext a l
  exact a.insert_eq l

theorem State.mem_triageOrder (s : State) (c : Feasible) : c ∈ s.triageOrder ↔ s.mayBeAdmitted c.zone c.programme c.required := by
  rw [State.triageOrder_eq, List.mem_insertionSort, List.mem_filterMap]
  constructor
  · rintro ⟨z, -, hz⟩
    obtain ⟨rfl, h⟩ := (s.feasible_iff z c).mp hz
    exact h
  · exact fun h => ⟨c.zone, List.mem_finRange _, (s.feasible_iff _ c).mpr ⟨rfl, h⟩⟩

/-- A list of candidates of which no two are one zone. -/
def distinctZones (l : List Feasible) : Prop := l.Pairwise fun a b => a.zone ≠ b.zone

theorem State.triageOrder_distinct (s : State) : distinctZones s.triageOrder := by
  have hlist : distinctZones (zoneIds.filterMap s.feasible) :=
    List.Pairwise.filterMap s.feasible (fun y z hne a ha b hb => by
      rw [((s.feasible_iff y a).mp ha).1, ((s.feasible_iff z b).mp hb).1]
      exact hne) (List.nodup_finRange 32)
  rw [State.triageOrder_eq]
  exact ((List.perm_insertionSort _ _).pairwise_iff fun h => h.symm).mpr hlist

theorem State.triageOrder_sorted (s : State) : s.triageOrder.Pairwise Feasible.precedes := by
  have := Feasible.notAfter_total
  have := Feasible.notAfter_trans
  have hsorted : s.triageOrder.Pairwise fun a b => a.notAfter b = true := by
    rw [State.triageOrder_eq]
    exact List.pairwise_insertionSort _ _
  refine (hsorted.and s.triageOrder_distinct).imp fun {a b} h => ?_
  obtain ⟨hle, hne⟩ := h
  simp only [Feasible.notAfter, decide_eq_true_eq, Fin.le_def] at hle
  have hne : (a.zone : Nat) ≠ b.zone := fun k => hne (Fin.ext k)
  simp only [Feasible.precedes, Fin.lt_def]
  omega

/-! ### Trying one candidate after the other -/

/-- The admission after these candidates have been tried in turn (R157). -/
def admittedOf (ceilings : Flows) (cs : List Feasible) : Admission := cs.foldl (Admission.consider ceilings) ⟨.zero, []⟩

theorem State.admission_eq (s : State) : s.admission = admittedOf s.supply.inForce s.triageOrder := rfl

theorem admittedOf_append (ceilings : Flows) (cs : List Feasible) (c : Feasible) :
    admittedOf ceilings (cs ++ [c]) = (admittedOf ceilings cs).consider ceilings c := by simp [admittedOf]

/-- The required flow of each zone after one more candidate, of whom the admission knew nothing yet. -/
theorem Admission.consider_required {a : Admission} {ceilings : Flows} {c : Feasible} (hnew : a.required c.zone = none) (z : ZoneId) :
    (a.consider ceilings c).required z = if z = c.zone then (if a.admits ceilings c = true then some c.required else none) else a.required z := by
  unfold Admission.consider
  by_cases ha : a.admits ceilings c = true
  · rw [if_pos ha, if_pos ha]
    unfold Admission.required at hnew ⊢
    rw [List.find?_append]
    by_cases hz : z = c.zone
    · have hnone : a.zones.find? (fun e => decide (e.1 = z)) = none := by simpa [hz] using hnew
      rw [if_pos hz, hnone]
      simp [hz]
    · have hnone : [(c.zone, c.required)].find? (fun e => decide (e.1 = z)) = none := by simp [Ne.symm hz]
      rw [if_neg hz, hnone, Option.or_none]
  · rw [if_neg ha, if_neg ha]
    by_cases hz : z = c.zone
    · rw [if_pos hz, hz, hnew]
    · rw [if_neg hz]

/-- A zone that is none of the candidates is not admitted. -/
theorem admittedOf_absent (ceilings : Flows) {cs : List Feasible} {z : ZoneId} (hz : ∀ c ∈ cs, c.zone ≠ z) : (admittedOf ceilings cs).required z = none := by
  induction cs using List.reverseRecOn with
  | nil => rfl
  | append_singleton cs c ih =>
    have hrest := ih fun d hd => hz d (List.mem_append_left _ hd)
    have hlast : c.zone ≠ z := hz c (List.mem_append_right _ (List.mem_singleton_self c))
    rw [admittedOf_append]
    unfold Admission.consider
    split
    · have hnone : [(c.zone, c.required)].find? (fun e => decide (e.1 = z)) = none := by simp [hlast]
      unfold Admission.required at hrest ⊢
      rw [List.find?_append, hnone, Option.or_none]
      exact hrest
    · exact hrest

theorem distinctZones.of_append {cs ds : List Feasible} (h : distinctZones (cs ++ ds)) :
    distinctZones cs ∧ distinctZones ds ∧ ∀ c ∈ cs, ∀ d ∈ ds, c.zone ≠ d.zone := List.pairwise_append.mp h

/-- A candidate is judged once, by the admission as it stands when its turn comes. -/
theorem admittedOf_required (ceilings : Flows) {cs ds : List Feasible} (c : Feasible) (h : distinctZones (cs ++ c :: ds)) :
    (admittedOf ceilings (cs ++ c :: ds)).required c.zone =
      if (admittedOf ceilings cs).admits ceilings c = true then some c.required else none := by
  induction ds using List.reverseRecOn with
  | nil =>
    have hnew := admittedOf_absent ceilings fun d hd => h.of_append.2.2 d hd c (List.mem_singleton_self c)
    rw [admittedOf_append, Admission.consider_required hnew, if_pos rfl]
  | append_singleton ds d ih =>
    have hsplit : cs ++ c :: (ds ++ [d]) = (cs ++ c :: ds) ++ [d] := by simp
    rw [hsplit] at h ⊢
    obtain ⟨hinit, -, hnew⟩ := h.of_append
    have hne : c.zone ≠ d.zone := hnew c (by simp) d (List.mem_singleton_self d)
    rw [admittedOf_append, Admission.consider_required (admittedOf_absent ceilings fun e he => hnew e he d (List.mem_singleton_self d)), if_neg hne]
    exact ih hinit

/-- Of the zones tried before a candidate the admission says then what it says at the end; of the others it says nothing then. -/
theorem admittedOf_before (ceilings : Flows) {cs ds : List Feasible} (h : distinctZones (cs ++ ds)) (z : ZoneId) :
    (admittedOf ceilings cs).required z = if ∃ c ∈ cs, c.zone = z then (admittedOf ceilings (cs ++ ds)).required z else none := by
  by_cases hz : ∃ c ∈ cs, c.zone = z
  · obtain ⟨c, hc, rfl⟩ := hz
    obtain ⟨before, after, rfl⟩ := List.append_of_mem hc
    rw [if_pos ⟨c, hc, rfl⟩, admittedOf_required ceilings c h.of_append.1, List.append_assoc, List.cons_append,
      admittedOf_required ceilings c (by simpa using h)]
  · rw [if_neg hz]
    exact admittedOf_absent ceilings fun c hc k => hz ⟨c, hc, k⟩

/-! ### The loads -/

/-- What a zone adds to the loads. -/
def Admission.share (a : Admission) (z : ZoneId) : Nat := (a.required z).getD 0

/-- The loads are the sums of the required flows of the admitted zones, of all or of one header (R157). -/
theorem admittedOf_loads (ceilings : Flows) (header : ZoneId → Option HeaderId) {cs : List Feasible} (h : distinctZones cs)
    (hheader : ∀ c ∈ cs, header c.zone = some c.programme.header) :
    (admittedOf ceilings cs).loads.total = ∑ z, (admittedOf ceilings cs).share z ∧
      ∀ i : HeaderId, (admittedOf ceilings cs).loads.header[i] = ∑ z, if header z = some i then (admittedOf ceilings cs).share z else 0 := by
  induction cs using List.reverseRecOn with
  | nil => exact ⟨by simp [admittedOf, Admission.share, Admission.required, Flows.zero],
      fun i => (Flows.zero_header i).trans (by simp [admittedOf, Admission.share, Admission.required])⟩
  | append_singleton cs c ih =>
    obtain ⟨hinit, -, hnew⟩ := h.of_append
    obtain ⟨htotal, heach⟩ := ih hinit fun d hd => hheader d (List.mem_append_left _ hd)
    have habsent := admittedOf_absent ceilings fun d hd => hnew d hd c (List.mem_singleton_self c)
    have hon := hheader c (List.mem_append_right _ (List.mem_singleton_self c))
    have hrequired := Admission.consider_required (ceilings := ceilings) habsent
    rw [admittedOf_append]
    generalize admittedOf ceilings cs = a at *
    have hbefore : a.share c.zone = 0 := by rw [Admission.share, habsent]; rfl
    by_cases ha : a.admits ceilings c = true
    · have hother : ∀ y, y ≠ c.zone → (a.consider ceilings c).share y = a.share y := fun y hy => by
        rw [Admission.share, hrequired, if_neg hy]
        rfl
      have hself : (a.consider ceilings c).share c.zone = c.required := by rw [Admission.share, hrequired, if_pos rfl, if_pos ha]; rfl
      have hloads : (a.consider ceilings c).loads = a.loads.add c.programme.header c.required := by simp [Admission.consider, ha]
      rw [hloads]
      refine ⟨?_, fun i => ?_⟩
      · have hsum := sum_zones_changed hother
        change a.loads.total + c.required = _
        omega
      · have hsum := sum_zones_changed (f := fun z => if header z = some i then a.share z else 0)
          (g := fun z => if header z = some i then (a.consider ceilings c).share z else 0) (z := c.zone) fun y hy => by
            rw [hother y hy]
        simp only [hon, hself, hbefore, Option.some.injEq, ite_self, Nat.add_zero] at hsum
        rw [Flows.add_header, heach i, hsum]
        simp only [eq_comm]
    · have hsame : a.consider ceilings c = a := by simp [Admission.consider, ha]
      rw [hsame]
      exact ⟨htotal, heach⟩

end Sys2Proof.Machine
end

section
/-! What a run of triage leaves (R158, R160): the marks of every zone, and the notices in their order (log entries 25 and 26). -/

namespace Sys2Proof.Machine

/-! ### The admitted set -/

theorem Zone.judged_eq (x : Zone) (r : Option Nat) :
    x.judged r = { x with admitted := r.isSome, requiredFlow := r, overdue := x.overdue && r.isSome } := by
  cases r <;> simp [Zone.judged]

theorem State.admitAll_zone (s : State) (a : Admission) (z : ZoneId) : (s.admitAll a).zone z = (s.zone z).judged (a.required z) :=
  s.zone_mapZones (fun z x => x.judged (a.required z)) z

/-- Triage leaves each zone admitted with its required flow, or not admitted without one (R158). -/
theorem State.triage_zone (s : State) (z : ZoneId) :
    (s.triage.zone z).admitted = (s.admission.required z).isSome ∧ (s.triage.zone z).requiredFlow = s.admission.required z := by
  have hsettled := s.triage_quiet.zone z
  rw [hsettled.admitted, hsettled.requiredFlow, State.admitAll_zone, Zone.judged_eq]
  exact ⟨rfl, rfl⟩

/-- The order of triage cut at a candidate: those that precede it stand before it, and it precedes the rest (R157). -/
theorem State.triageOrder_split {s : State} {z : ZoneId} {x : Programme} {r : Nat} (h : s.mayBeAdmitted z x r) :
    ∃ cs ds, s.triageOrder = cs ++ ⟨z, x, r⟩ :: ds ∧ (∀ c ∈ cs, c.precedes ⟨z, x, r⟩) ∧ ∀ d ∈ ds, Feasible.precedes ⟨z, x, r⟩ d := by
  obtain ⟨cs, ds, hsplit⟩ := List.append_of_mem ((s.mem_triageOrder ⟨z, x, r⟩).mpr h)
  have hsorted := s.triageOrder_sorted
  rw [hsplit] at hsorted
  obtain ⟨-, hafter, hbefore⟩ := List.pairwise_append.mp hsorted
  exact ⟨cs, ds, hsplit, fun c hc => hbefore c hc _ (List.mem_cons_self ..), fun d hd => (List.pairwise_cons.mp hafter).1 d hd⟩

theorem Feasible.precedes_asymm {a b : Feasible} (h : a.precedes b) : ¬b.precedes a := by
  simp only [Feasible.precedes, Fin.lt_def] at *
  omega

/-- Before its turn a candidate finds the zones admitted that precede it (R157). -/
theorem State.admission_before {s : State} {c : Feasible} {cs ds : List Feasible} (hsplit : s.triageOrder = cs ++ c :: ds)
    (hbefore : ∀ b ∈ cs, b.precedes c) (hafter : ∀ d ∈ ds, c.precedes d) (y : ZoneId) :
    (admittedOf s.supply.inForce cs).required y =
      if ((s.admission.required y).isSome && (s.zone y).programme.any fun v =>
        decide (v.frostRank < c.programme.frostRank ∨ (v.frostRank = c.programme.frostRank ∧ y < c.zone))) = true
      then s.admission.required y else none := by
  have hdistinct := s.triageOrder_distinct
  rw [hsplit] at hdistinct
  have hrequired := admittedOf_before s.supply.inForce hdistinct y
  rw [← hsplit, ← State.admission_eq] at hrequired
  have hprogramme : ∀ b ∈ s.triageOrder, (s.zone b.zone).programme = some b.programme := fun b hb => ((s.mem_triageOrder b).mp hb).1
  rw [hsplit] at hprogramme
  rw [hrequired]
  by_cases hy : ∃ b ∈ cs, b.zone = y
  · obtain ⟨b, hb, rfl⟩ := hy
    have hprecedes : (s.zone b.zone).programme.any (fun v =>
        decide (v.frostRank < c.programme.frostRank ∨ (v.frostRank = c.programme.frostRank ∧ b.zone < c.zone))) = true := by
      rw [hprogramme b (List.mem_append_left _ hb)]
      exact decide_eq_true (hbefore b hb)
    rw [if_pos ⟨b, hb, rfl⟩, hprecedes, Bool.and_true]
    cases s.admission.required b.zone <;> rfl
  · rw [if_neg hy]
    split
    · rename_i hfirst
      obtain ⟨hadmitted, hprecedes⟩ := Bool.and_eq_true_iff.mp hfirst
      obtain ⟨b, hb, rfl⟩ : ∃ b ∈ s.triageOrder, b.zone = y := by
        by_contra hnone
        rw [State.admission_eq, admittedOf_absent s.supply.inForce fun b hb k => hnone ⟨b, hb, k⟩] at hadmitted
        cases hadmitted
      rw [hsplit] at hb
      rw [hprogramme b hb] at hprecedes
      have hprecedes : b.precedes c := by simpa [Feasible.precedes] using hprecedes
      rcases List.mem_append.mp hb with hb | hb
      · exact absurd ⟨b, hb, rfl⟩ hy
      · rcases List.mem_cons.mp hb with rfl | hb
        · exact absurd hprecedes (Feasible.precedes_asymm hprecedes)
        · exact absurd (hafter b hb) (Feasible.precedes_asymm hprecedes)
    · rfl

/-- The flows that the admission adds to a sum over some of its zones. -/
theorem Admission.sum_share {a b : Admission} {p : ZoneId → Bool} (q : ZoneId → Bool)
    (h : ∀ y, b.required y = if p y = true then a.required y else none) :
    ∑ y, (if q y = true then b.share y else 0) = sumOver (zoneIds.filter fun y => p y && q y) a.share := by
  rw [sumOver_filter_zoneIds]
  refine Finset.sum_congr rfl fun y _ => ?_
  unfold Admission.share
  rw [h y]
  cases p y <;> cases q y <;> rfl

/-- The zones that an admission holds are those with a required flow; this is the form that its sums over them need. -/
theorem Admission.required_self (a : Admission) (y : ZoneId) : a.required y = if (a.required y).isSome = true then a.required y else none := by
  cases a.required y <;> rfl

/-- The header that a zone's programme names (R157). -/
theorem State.triageOrder_header (s : State) : ∀ c ∈ s.triageOrder, (s.zone c.zone).header = some c.programme.header := fun c hc => by
  have hprogramme := ((s.mem_triageOrder c).mp hc).1
  unfold Zone.header
  rw [hprogramme]
  rfl

/-- The loads of the admission as sums over the admitted zones (R157). -/
theorem State.admission_loads (s : State) :
    s.admission.loads.total = sumOver (zoneIds.filter fun z => (s.admission.required z).isSome) s.admission.share ∧
      ∀ i : HeaderId, s.admission.loads.header[i] =
        sumOver (zoneIds.filter fun z => (s.admission.required z).isSome && decide ((s.zone z).header = some i)) s.admission.share := by
  obtain ⟨htotal, heach⟩ := admittedOf_loads s.supply.inForce (fun z => (s.zone z).header) s.triageOrder_distinct s.triageOrder_header
  rw [← State.admission_eq] at htotal heach
  refine ⟨?_, fun i => ?_⟩
  · have hsum := Admission.sum_share (fun _ => true) s.admission.required_self
    simp only [if_true, Bool.and_true] at hsum
    rw [htotal, hsum]
  · have hsum := Admission.sum_share (fun z => decide ((s.zone z).header = some i)) s.admission.required_self
    simp only [decide_eq_true_eq] at hsum
    rw [heach i, hsum]

/-- R157 for one candidate: both ceilings hold its own flow, and its required flow beside those of the admitted zones that precede it. -/
theorem State.admission_iff {s : State} {z : ZoneId} {x : Programme} {r : Nat} (h : s.mayBeAdmitted z x r) (first : ZoneId → Bool)
    (hfirst : first = fun y => (s.admission.required y).isSome && (s.zone y).programme.any fun v =>
      decide (v.frostRank < x.frostRank ∨ (v.frostRank = x.frostRank ∧ y < z))) :
    s.admission.required z =
      if x.flow ≤ s.supply.inForce.header[x.header] ∧ x.flow ≤ s.supply.inForce.total ∧
        sumOver (zoneIds.filter fun y => first y && decide ((s.zone y).header = some x.header)) s.admission.share + r ≤
          s.supply.inForce.header[x.header] ∧
        sumOver (zoneIds.filter first) s.admission.share + r ≤ s.supply.inForce.total then some r else none := by
  obtain ⟨cs, ds, hsplit, hbefore, hafter⟩ := State.triageOrder_split h
  have hdistinct := s.triageOrder_distinct
  have hheader := s.triageOrder_header
  rw [hsplit] at hdistinct hheader
  obtain ⟨htotal, heach⟩ := admittedOf_loads s.supply.inForce (fun y => (s.zone y).header) hdistinct.of_append.1
    fun c hc => hheader c (List.mem_append_left _ hc)
  have hknown : ∀ y, (admittedOf s.supply.inForce cs).required y = if first y = true then s.admission.required y else none := fun y => by
    rw [hfirst]
    exact State.admission_before hsplit hbefore hafter y
  have hall := Admission.sum_share (fun _ => true) hknown
  have hown := Admission.sum_share (fun y => decide ((s.zone y).header = some x.header)) hknown
  simp only [if_true, Bool.and_true] at hall
  simp only [decide_eq_true_eq] at hown
  have hrequired := admittedOf_required s.supply.inForce ⟨z, x, r⟩ hdistinct
  rw [← hsplit, ← State.admission_eq] at hrequired
  rw [hrequired, ← hall, ← hown, ← htotal, ← heach x.header]
  exact if_congr decide_eq_true_iff rfl rfl

/-! ### The overdue marks and the notices -/

/-- A zone that a run of triage marks overdue (R158, R160; log entry 26). -/
def State.joinsOverdue (s : State) (before : List ZoneId) (z : ZoneId) : Bool :=
  !decide (z ∈ before) && ((s.zone z).admitted && (s.zone z).dryTooLong && !(s.zone z).overdue)

/-- Posts ZONE-OVERDUE for a zone whose record stands in `s` (R160). -/
def State.postOverdue (s : State) (t : State) (z : ZoneId) : State :=
  t.post .zoneOverdue (some z) (s.zone z).header none (some ((s.zone z).dryClock : Int))

/-- What the posting of notices reads of the state, and writes. -/
def State.postsAlike (s t : State) : Prop := t.ports = s.ports ∧ t.clock = s.clock ∧ t.resetLow = s.resetLow

theorem State.post_alike {s t : State} (h : s.postsAlike t) (n : NoticeKind) (z : Option ZoneId) (i : Option HeaderId) (p : Option Port)
    (v : Option Int) : (s.post n z i p v).postsAlike (t.post n z i p v) := by
  obtain ⟨hp, hc, hr⟩ := h
  exact ⟨State.post_ports_congr hp hc hr n z i p v, by simp [hc], by simp [hr]⟩

theorem State.postOverdue_fold_alike {s t u v : State} (h : u.postsAlike v) {zs : List ZoneId} (hz : ∀ z ∈ zs, t.zone z = s.zone z) :
    (zs.foldl s.postOverdue u).postsAlike (zs.foldl t.postOverdue v) := by
  induction zs generalizing u v with
  | nil => exact h
  | cons z rest ih =>
    refine ih ?_ fun y hy => hz y (List.mem_cons_of_mem _ hy)
    unfold State.postOverdue
    rw [hz z (List.mem_cons_self ..)]
    exact State.post_alike h _ _ _ _ _

/-- The step of `State.markJoined` for one zone. -/
def State.markIfJoined (before : List ZoneId) (z : ZoneId) (t : State) : State := if z ∈ before then t else t.markOverdue z

theorem State.markIfJoined_eq (s : State) (before : List ZoneId) (z : ZoneId) :
    s.markIfJoined before z = if s.joinsOverdue before z = true then s.postOverdue (s.updZone z fun x => { x with overdue := true }) z else s := by
  unfold State.markIfJoined State.joinsOverdue State.markOverdue
  by_cases hz : z ∈ before
  · simp [hz]
  · simp [hz, State.postOverdue]

theorem State.markIfJoined_zone (s : State) (before : List ZoneId) (z y : ZoneId) :
    (s.markIfJoined before z).zone y = if y = z ∧ s.joinsOverdue before z = true then { s.zone y with overdue := true } else s.zone y := by
  rw [State.markIfJoined_eq]
  by_cases hj : s.joinsOverdue before z = true
  · rw [if_pos hj, State.postOverdue, State.post_zone, State.zone_updZone]
    by_cases hy : y = z
    · rw [if_pos hy, if_pos ⟨hy, hj⟩, hy]
    · rw [if_neg hy, if_neg fun k => hy k.1]
  · rw [if_neg hj, if_neg fun k => hj k.2]

theorem State.markIfJoined_alike (s : State) (before : List ZoneId) (z : ZoneId) :
    (if s.joinsOverdue before z = true then s.postOverdue s z else s).postsAlike (s.markIfJoined before z) := by
  rw [State.markIfJoined_eq]
  split
  · unfold State.postOverdue
    have hmark : s.postsAlike (s.updZone z fun x => { x with overdue := true }) := ⟨rfl, rfl, rfl⟩
    exact State.post_alike hmark _ _ _ _ _
  · exact ⟨rfl, rfl, rfl⟩

/-- Along a list of zones each that joins is marked, with its notice in its turn (R158; log entry 25). -/
theorem State.markJoined_along (before : List ZoneId) {zs : List ZoneId} (hnodup : zs.Nodup) (s : State) :
    (∀ y, (s.forZones zs (State.markIfJoined before)).zone y =
      if y ∈ zs ∧ s.joinsOverdue before y = true then { s.zone y with overdue := true } else s.zone y) ∧
      ((zs.filter (s.joinsOverdue before)).foldl s.postOverdue s).postsAlike (s.forZones zs (State.markIfJoined before)) := by
  induction zs generalizing s with
  | nil => exact ⟨fun y => by simp [State.forZones], rfl, rfl, rfl⟩
  | cons z rest ih =>
    obtain ⟨hz, hrest⟩ := List.nodup_cons.mp hnodup
    have hother : ∀ y, y ≠ z → (s.markIfJoined before z).zone y = s.zone y := fun y hy => by
      rw [State.markIfJoined_zone, if_neg fun k => hy k.1]
    have hjoins : ∀ y, y ≠ z → (s.markIfJoined before z).joinsOverdue before y = s.joinsOverdue before y := fun y hy => by
      unfold State.joinsOverdue
      rw [hother y hy]
    have hmem : ∀ y ∈ rest, y ≠ z := fun y hy k => hz (k ▸ hy)
    obtain ⟨hzones, hposts⟩ := ih hrest (s.markIfJoined before z)
    refine ⟨fun y => (hzones y).trans ?_, ?_⟩
    · by_cases hy : y = z
      · subst hy
        rw [if_neg fun k => hz k.1, State.markIfJoined_zone]
        simp
      · rw [hjoins y hy, hother y hy]
        simp [hy]
    · rw [List.filter_congr fun y hy => hjoins y (hmem y hy)] at hposts
      have hstart := State.postOverdue_fold_alike (s := s) (t := s.markIfJoined before z) (s.markIfJoined_alike before z)
        (zs := rest.filter (s.joinsOverdue before)) fun y hy => hother y (hmem y (List.mem_of_mem_filter hy))
      have htrans : ((rest.filter (s.joinsOverdue before)).foldl s.postOverdue
          (if s.joinsOverdue before z = true then s.postOverdue s z else s)).postsAlike (s.forZones (z :: rest) (State.markIfJoined before)) := by
        obtain ⟨hp, hc, hr⟩ := hstart
        obtain ⟨kp, kc, kr⟩ := hposts
        exact ⟨kp.trans hp, kc.trans hc, kr.trans hr⟩
      rw [List.filter_cons]
      split at htrans
      · rename_i hj
        rw [if_pos hj]
        exact htrans
      · rename_i hj
        rw [if_neg hj]
        exact htrans

/-- The state after the new set is in force: who joins it is overdue by the record as it was (R158). -/
theorem State.admitAll_joinsOverdue (s : State) (z : ZoneId) :
    (s.admitAll s.admission).joinsOverdue s.admittedSet z =
      (!(s.zone z).admitted && ((s.admission.required z).isSome && (s.zone z).dryTooLong && !(s.zone z).overdue)) := by
  have hmem : decide (z ∈ s.admittedSet) = (s.zone z).admitted := by
    rw [Bool.eq_iff_iff]
    simp [State.admittedSet, zoneIds]
  have hdry : ∀ r, ((s.zone z).judged r).dryTooLong = (s.zone z).dryTooLong := fun r => by rw [Zone.judged_eq]; rfl
  unfold State.joinsOverdue
  rw [hmem, State.admitAll_zone, hdry, Zone.judged_eq]
  cases s.admission.required z <;> simp

/-- The overdue marks after a run of triage (R158, R160). -/
theorem State.triage_overdue (s : State) (z : ZoneId) :
    (s.triage.zone z).overdue =
      ((s.admission.required z).isSome && ((s.zone z).overdue || (!(s.zone z).admitted && (s.zone z).dryTooLong))) := by
  obtain ⟨hzones, -⟩ := State.markJoined_along s.admittedSet (List.nodup_finRange 32) (s.admitAll s.admission)
  have hreport : ∀ t : State, (t.reportTriage s.admittedSet).zone z = t.zone z := fun t => by
    unfold State.reportTriage
    split
    · rfl
    · exact t.post_zone _ _ _ _ _ z
  have hzone : s.triage.zone z = _ := (hreport _).trans (hzones z)
  rw [hzone, State.admitAll_joinsOverdue, State.admitAll_zone, Zone.judged_eq]
  have hin : z ∈ List.finRange 32 := List.mem_finRange z
  simp only [hin, true_and]
  cases (s.zone z).admitted <;> cases s.admission.required z <;> cases (s.zone z).dryTooLong <;> cases (s.zone z).overdue <;> simp

/-- The notices of a run of triage (R158, R160; log entry 25). -/
theorem State.triage_ports (s u : State)
    (hu : u = (zoneIds.filter ((s.admitAll s.admission).joinsOverdue s.admittedSet)).foldl s.postOverdue s) :
    s.triage.ports =
      (if s.triage.admittedSet = s.admittedSet then u
        else u.post .triageChanged none none none (some (s.triage.admittedSet.length : Int))).ports := by
  obtain ⟨-, hposts⟩ := State.markJoined_along s.admittedSet (List.nodup_finRange 32) (s.admitAll s.admission)
  have hfold : u.postsAlike ((s.admitAll s.admission).markJoined s.admittedSet) := by
    subst hu
    have hstart : ∀ zs : List ZoneId, (zs.foldl s.postOverdue s).postsAlike (zs.foldl (s.admitAll s.admission).postOverdue (s.admitAll s.admission)) :=
      fun zs => by
        have hsame : (s.admitAll s.admission).postOverdue = s.postOverdue := by
          funext t z
          unfold State.postOverdue
          rw [State.admitAll_zone, Zone.judged_eq]
          rfl
        rw [hsame]
        exact State.postOverdue_fold_alike (s := s) (t := s) (u := s) (v := s.admitAll s.admission) ⟨rfl, rfl, rfl⟩ fun _ _ => rfl
    obtain ⟨hp, hc, hr⟩ := hstart (zoneIds.filter ((s.admitAll s.admission).joinsOverdue s.admittedSet))
    obtain ⟨kp, kc, kr⟩ := hposts
    exact ⟨kp.trans hp, kc.trans hc, kr.trans hr⟩
  have hset : s.triage.admittedSet = ((s.admitAll s.admission).markJoined s.admittedSet).admittedSet := by
    unfold State.triage State.reportTriage
    split
    · rfl
    · simp [State.admittedSet]
  rw [hset]
  unfold State.triage State.reportTriage
  split
  · exact hfold.1
  · exact (State.post_alike hfold _ _ _ _ _).1

end Sys2Proof.Machine

open Sys2Proof Sys2Proof.Machine

/-- Settles O43: the law through every step by the load sheet (`State.loadsWithin.step`); one run of triage by the admission before each candidate's turn
(`State.admission_iff`) and by the marks and notices zone by zone (`State.markJoined_along`). -/
theorem triageAdmitsWithinTheCeilings : Obligations.TriageAdmitsWithinTheCeilings := by
  refine ⟨fun _ _ h he => h.step he, ?_⟩
  rintro s t rfl need inSet on header hneed hin hon hheader
  have hin' : inSet = fun z => (s.admission.required z).isSome := hin.trans (funext fun z => (s.triage_zone z).1)
  have hneed' : need = s.admission.share := hneed.trans (funext fun z => congrArg (Option.getD · 0) (s.triage_zone z).2)
  have hheader' : header = fun z => (s.zone z).header := hheader
  have hloads : s.triage.loads = s.admission.loads := s.triage_quiet.loads
  have hframe := s.triage_judged
  obtain ⟨htotal, heach⟩ := s.admission_loads
  obtain ⟨hwithin, hall⟩ := s.admission_within
  have hjoined : ∀ z, ((s.triage.zone z).overdue && !on z && !(s.zone z).overdue) = (s.admitAll s.admission).joinsOverdue s.admittedSet z := fun z => by
    rw [State.triage_overdue, State.admitAll_joinsOverdue]
    simp only [hon]
    cases (s.zone z).admitted <;> cases (s.admission.required z).isSome <;> cases (s.zone z).dryTooLong <;> cases (s.zone z).overdue <;> rfl
  rw [hloads, hin', hneed', hheader']
  refine ⟨⟨htotal, hall⟩, fun i => ⟨heach i, hwithin i⟩, fun z x r h first hfirst => ?_, fun z hnone => ?_, fun z => ⟨fun hout => ?_, fun hset => ?_, ?_⟩,
    hloads ▸ hframe.rest, ?_⟩
  · have hrequired := State.admission_iff h first hfirst
    rw [(s.triage_zone z).2]
    dsimp only
    refine ⟨?_, fun hset => ?_⟩
    · rw [hrequired]
      split <;> rename_i hroom
      · exact ⟨fun _ => hroom, fun _ => rfl⟩
      · exact ⟨fun k => (by cases k), fun k => absurd k hroom⟩
    · rw [hrequired] at hset ⊢
      split at hset
      · rename_i hroom
        rw [if_pos hroom]
      · cases hset
  · have habsent : s.admission.required z = none := by
      rw [State.admission_eq]
      refine admittedOf_absent _ fun c hc k => hnone c.programme c.required ?_
      rw [← k]
      exact (s.mem_triageOrder c).mp hc
    dsimp only
    rw [habsent]
    rfl
  · have hout : s.admission.required z = none := by simpa using hout
    rw [(s.triage_zone z).2, State.triage_overdue, hout]
    exact ⟨rfl, rfl⟩
  · dsimp only at hset
    rw [State.triage_overdue, hset, hon, Bool.true_and]
    rfl
  · have hzone := hframe.zone z
    rw [(s.triage_zone z).1] at hzone
    exact hzone
  · rintro u rfl
    rw [funext hjoined]
    have hports := s.triage_ports _ rfl
    have hsame := (State.admittedSet_eq_iff s s.triage).trans funext_iff.symm
    rw [← hin, ← hon, hin'] at hsame
    have hlist : s.triage.admittedSet = zoneIds.filter fun z => (s.admission.required z).isSome := by
      rw [← hin', hin]
      rfl
    rw [if_congr hsame rfl rfl, hlist] at hports
    exact hports

end

section
/-! The shed walk by its first turn (R85 to R88). -/

namespace Sys2Proof.Machine

/-! ### The walk turn by turn -/

theorem State.shedStep_passed {s : State} {z : ZoneId} (h : s.channelOver z = false) (port : Option Port) : s.shedStep port z = s := by
  simp [State.shedStep, h]

theorem State.shedStep_over {s : State} {z : ZoneId} (h : s.channelOver z = true) (port : Option Port) : s.shedStep port z = s.shed port z := by
  simp [State.shedStep, h, State.anyOver_of_channelOver h]

/-- A walk over channels that are not over changes nothing (R85). -/
theorem State.shedSteps_passed {s : State} {zs : List ZoneId} (h : ∀ z ∈ zs, s.channelOver z = false) (port : Option Port) :
    s.forZones zs (fun z t => t.shedStep port z) = s := by
  induction zs with
  | nil => rfl
  | cons z rest ih =>
    exact (congrArg (fun t => State.forZones t rest fun z t => t.shedStep port z) (State.shedStep_passed (h z (List.mem_cons_self ..)) port)).trans
      (ih fun y hy => h y (List.mem_cons_of_mem z hy))

theorem State.mem_shedOrder (s : State) (z : ZoneId) : z ∈ s.shedOrder ↔ z ∈ s.openChannels := by
  simp [State.shedOrder, State.openChannels]

/-- Over orders that list the open channels the shed order names each of them once (R37, R85). -/
theorem State.ordersMatch.shedOrder_nodup {s : State} (h : s.ordersMatch) : s.shedOrder.Nodup := by
  obtain ⟨hopening, hwet, hne, hnw⟩ := h
  refine List.nodup_append'.mpr ⟨List.nodup_reverse.mpr hne, hnw, fun z hz hw => ?_⟩
  have hv := (hopening z).mp (List.mem_reverse.mp hz)
  rw [(hwet z).mp hw] at hv
  cases hv

/-- A channel that is shed leaves the shed order, which is otherwise as it was (R37, R85). -/
theorem State.shed_shedOrder {s : State} (port : Option Port) {z : ZoneId} (h : (s.zone z).isOpen = true) :
    (s.shed port z).shedOrder = s.shedOrder.filter fun i => decide (i ≠ z) := by
  obtain ⟨-, -, -, -, -, he, hw⟩ := State.closeChannel_channel (s := s) .shed h
  have hposted : Steady (s.closeChannel z .shed) (s.shed port z) := State.post_steady _ _ _ _ _ _
  unfold State.shedOrder
  rw [hposted.energising, hposted.wetOrder, he, hw, List.filter_append, List.filter_reverse]

/-- The whole walk from its first turn: the first channel that is over is shed, and the walk of the state after it is the rest of this one (R85, R86). -/
theorem State.shedWalk_first {s : State} (hmatch : s.ordersMatch) (port : Option Port) {passed rest : List ZoneId} {z : ZoneId}
    (horder : s.shedOrder = passed ++ z :: rest) (hpassed : ∀ y ∈ passed, s.channelOver y = false) (hover : s.channelOver z = true) :
    s.shedWalk port = (s.shed port z).shedWalk port := by
  have hnodup := hmatch.shedOrder_nodup
  have hopen : (s.zone z).isOpen = true := (hmatch.mem_openChannels z).mp ((s.mem_shedOrder z).mp (by rw [horder]; simp))
  have hnext := State.shed_shedOrder port hopen
  rw [horder] at hnodup hnext
  obtain ⟨-, hrest, hdisjoint⟩ := List.nodup_append'.mp hnodup
  rw [List.filter_append, List.filter_cons_of_neg (by simp), filter_ne_of_notMem fun k => hdisjoint k (List.mem_cons_self ..),
    filter_ne_of_notMem (List.nodup_cons.mp hrest).1] at hnext
  have hstill : ∀ y ∈ passed, (s.shed port z).channelOver y = false := fun y hy =>
    Bool.eq_false_iff.mpr fun k => Bool.eq_false_iff.mp (hpassed y hy) ((s.shed_shrunk port z).channelOver k)
  have hleft : s.forZones passed (fun z t => t.shedStep port z) = s := State.shedSteps_passed hpassed port
  have hright : (s.shed port z).forZones passed (fun z t => t.shedStep port z) = s.shed port z := State.shedSteps_passed hstill port
  unfold State.shedWalk
  rw [horder, hnext]
  unfold State.forZones at hleft hright ⊢
  rw [List.foldl_append, List.foldl_append, hleft, hright, List.foldl_cons]
  dsimp only
  rw [State.shedStep_over hover]

/-! ### What the walk leaves of a zone -/

/-- A zone that a shed walk left as it was, or closed for a shed with its use tag (R86). -/
def Zone.ShedFrom (x y : Zone) : Prop := y = x ∨ (x.isOpen = true ∧ y.valve = .closing ∧ y.endedBy = some .shed ∧ y.useTag = x.useTag)

theorem Zone.ShedFrom.trans {x y v : Zone} (h : x.ShedFrom y) (k : y.ShedFrom v) : x.ShedFrom v := by
  rcases h with rfl | hclosed
  · exact k
  · rcases k with rfl | ⟨hopen, -⟩
    · exact .inr hclosed
    · obtain ⟨-, hclosing, -⟩ := hclosed
      simp [Zone.isOpen, hclosing] at hopen

theorem State.closedZone_ended (s : State) (e : Ending) (z : ZoneId) :
    (s.closedZone z e).endedBy = some e ∧ (s.closedZone z e).useTag = (s.zone z).useTag := by
  unfold State.closedZone
  dsimp only
  repeat' split
  all_goals exact ⟨rfl, rfl⟩

theorem State.shed_shedFrom (s : State) (port : Option Port) (z y : ZoneId) : (s.zone y).ShedFrom ((s.shed port z).zone y) := by
  have hzone : (s.shed port z).zone y = (s.closeChannel z .shed).zone y := State.post_zone _ _ _ _ _ _ y
  rw [hzone, State.closeChannel_zones]
  split
  · rename_i hclosed
    obtain ⟨rfl, hopen⟩ := hclosed
    obtain ⟨hended, htag⟩ := s.closedZone_ended .shed y
    exact .inr ⟨hopen, (s.closedZone_keeps .shed y).1, hended, htag⟩
  · exact .inl rfl

theorem State.shedWalk_shedFrom (s : State) (port : Option Port) (y : ZoneId) : (s.zone y).ShedFrom ((s.shedWalk port).zone y) :=
  State.forZones_keeps (P := fun t => (s.zone y).ShedFrom (t.zone y)) _ (fun z t ht => by
    unfold State.shedStep
    split
    · exact ht.trans (t.shed_shedFrom port z y)
    · exact ht) _ s (.inl rfl)

/-! ### The statement's terms -/

/-- A channel is over, in the statement's form (R85). -/
theorem State.channelOver_iff (s : State) (z : ZoneId) :
    s.channelOver z = true ↔ (∃ o, (s.zone z).opened = some o ∧ s.supply.inForce.header[o.header] < s.openFlow o.header) ∨
      s.supply.inForce.total < s.totalOpenFlow := by
  unfold State.channelOver Zone.openedHeader State.totalOver State.headerOver
  cases (s.zone z).opened <;> simp [or_comm]

end Sys2Proof.Machine

open Sys2Proof Sys2Proof.Machine

/-- Settles O38: the first turn by `State.shedWalk_first`, the end of the walk by `State.shedWalk_openWithin`, the zones by `State.shedWalk_shedFrom`. -/
theorem shedWalkEndsWithinTheCeilings : Obligations.ShedWalkEndsWithinTheCeilings := by
  intro s port hmatch
  refine ⟨⟨State.shedWalk_ordersMatch port hmatch, State.shedWalk_openWithin port hmatch, fun h => State.shedWalk_within h port,
    s.shedWalk_shedFrom port⟩, ?_⟩
  rintro above rfl
  have hunder : ∀ y, ¬(fun z => (∃ o, (s.zone z).opened = some o ∧ s.supply.inForce.header[o.header] < s.openFlow o.header) ∨
      s.supply.inForce.total < s.totalOpenFlow) y → s.channelOver y = false := fun y hy =>
    Bool.eq_false_iff.mpr fun k => hy ((s.channelOver_iff y).mp k)
  refine ⟨fun hnone => State.shedSteps_passed (fun z hz => hunder z (hnone z ((s.mem_shedOrder z).mp hz))) port, ?_⟩
  intro passed rest z horder hpassed hover
  have hwalk := State.shedWalk_first hmatch port horder (fun y hy => hunder y (hpassed y hy)) ((s.channelOver_iff z).mpr hover)
  refine ⟨s.closeChannel z .shed, s.closeChannel_channelsClosed .shed z, hwalk.trans ?_⟩
  have hvalue : ((s.zone z).useTag.map fun t => (t.number : Int)) =
      match (s.zone z).useTag with
      | some .quota => some 1
      | some .manual => some 2
      | some .frost => some 3
      | none => none := by
    rcases (s.zone z).useTag with _ | (_ | _ | _) <;> rfl
  unfold State.shed
  dsimp only
  rw [hvalue]
  rfl

end

section
/-! What one turn of a selection comes to (R124): going through a list in order, and what an opening leaves of the zones and of the suspended list. -/

namespace Sys2Proof.Machine

/-! ### Going through a list -/

section
variable {α : Type} (f : State → α → Progress)

theorem Progress.through_cons (a : α) (l : List α) (s : State) :
    Progress.through (a :: l) f s = if (f s a).ended = true then f s a else Progress.through l f (f s a).state := by
  have hended : ∀ (l : List α) (t : State),
      l.foldl (fun r a => if r.ended then r else f r.state a) (⟨t, true⟩ : Progress) = ⟨t, true⟩ := fun l t => by
    induction l with
    | nil => rfl
    | cons b rest ih => exact ih
  have hfirst : Progress.through (a :: l) f s = l.foldl (fun r a => if r.ended then r else f r.state a) (f s a) := rfl
  rw [hfirst]
  rcases f s a with ⟨t, _ | _⟩
  · rfl
  · exact hended l t

/-- Where the steps at the first members do nothing, the selection begins after them. -/
theorem Progress.through_after {l : List α} {s : State} (h : ∀ a ∈ l, f s a = ⟨s, false⟩) (m : List α) :
    Progress.through (l ++ m) f s = Progress.through m f s := by
  induction l with
  | nil => rfl
  | cons a rest ih =>
    rw [List.cons_append, Progress.through_cons, h a (List.mem_cons_self ..)]
    exact ih fun b hb => h b (List.mem_cons_of_mem a hb)

/-- Where every step does nothing, nothing changes. -/
theorem Progress.through_idle {l : List α} {s : State} (h : ∀ a ∈ l, f s a = ⟨s, false⟩) : Progress.through l f s = ⟨s, false⟩ := by
  have hafter := Progress.through_after f h []
  rwa [List.append_nil] at hafter

/-- Members at which the steps do nothing, whatever the selection has done before, can be left out. -/
theorem Progress.through_filter {Q : State → Prop} (q : α → Bool) (hkeep : ∀ t a, Q t → Q (f t a).state)
    (hskip : ∀ t a, Q t → q a = false → f t a = ⟨t, false⟩) (l : List α) {s : State} (h : Q s) :
    Progress.through l f s = Progress.through (l.filter q) f s := by
  induction l generalizing s with
  | nil => rfl
  | cons a rest ih =>
    cases hq : q a
    · rw [List.filter_cons_of_neg (by simp [hq]), ← ih h, Progress.through_cons, hskip s a h hq]
      rfl
    · rw [List.filter_cons_of_pos hq, Progress.through_cons, Progress.through_cons, ih (hkeep s a h)]

/-- Last members at which the steps do nothing, whatever the selection has done before, can be left out. -/
theorem Progress.through_before {Q : State → Prop} {m : List α} (hkeep : ∀ t a, Q t → Q (f t a).state)
    (hskip : ∀ t, Q t → ∀ a ∈ m, f t a = ⟨t, false⟩) (l : List α) {s : State} (h : Q s) :
    Progress.through (l ++ m) f s = Progress.through l f s := by
  induction l generalizing s with
  | nil => exact Progress.through_idle f (hskip s h)
  | cons a rest ih => rw [List.cons_append, Progress.through_cons, Progress.through_cons, ih (hkeep s a h)]

end

/-! ### An opening, zone by zone -/

section
variable {s : State} {z : ZoneId} {x : Programme} (tag : UseTag)

theorem State.openingReports_zones (y : ZoneId) :
    (if y = z then (s.zone z).opening x tag else s.zone y).ShedFrom (((s.energise z x tag).openingReports x).zone y) := by
  have hwalk := ((s.energise z x tag).raiseCommitted ⟨x.header, x.flow⟩).shedWalk_shedFrom none y
  have hstart : ((s.energise z x tag).raiseCommitted ⟨x.header, x.flow⟩).zone y = (s.energise z x tag).zone y := rfl
  rw [hstart, State.energise_zone] at hwalk
  exact hwalk

/-- An opening leaves its own channel not SHUT, and each other zone as it was, or shed (R38, R87). -/
theorem State.openChannel_zones (hp : (s.zone z).programme = some x) (hv : (s.zone z).valve = .shut) (hl : (s.zone z).lockout = none) :
    ((s.openChannel z tag).zone z).valve ≠ .shut ∧ ∀ y, y ≠ z → (s.zone y).ShedFrom ((s.openChannel z tag).zone y) := by
  have hreports : ∀ y, _ := State.openingReports_zones (s := s) (z := z) (x := x) tag
  have hself : (((s.energise z x tag).openingReports x).zone z).valve ≠ .shut := by
    have hz := hreports z
    rw [if_pos rfl] at hz
    rcases hz with hsame | ⟨-, hclosing, -⟩
    · rw [hsame]
      exact fun k => by cases k
    · rw [hclosing]
      exact fun k => by cases k
  have hother : ∀ y, y ≠ z → (s.zone y).ShedFrom (((s.energise z x tag).openingReports x).zone y) := fun y hy => by
    have hz := hreports y
    rwa [if_neg hy] at hz
  rw [State.openChannel_taken hp hv hl]
  split
  · refine ⟨?_, fun y hy => ?_⟩
    · rw [State.enterWet_zone, if_pos rfl]
      exact fun k => by cases k
    · rw [State.enterWet_zone, if_neg hy]
      exact hother y hy
  · exact ⟨hself, hother⟩

/-- From `s` to `t` the suspended list has grown at most, by zones that are not SHUT, and nothing else of the planner has changed. -/
def State.SuspendsMore (s t : State) : Prop :=
  ∃ more, t.planner = { s.planner with suspended := s.planner.suspended ++ more } ∧ ∀ y ∈ more, (t.zone y).valve ≠ .shut

theorem State.suspendsMore_of {s t : State} (hplanner : t.planner = s.planner) : s.SuspendsMore t :=
  ⟨[], by rw [hplanner, List.append_nil], fun _ h => absurd h (List.not_mem_nil)⟩

theorem State.SuspendsMore.trans {s t u : State} (h : s.SuspendsMore t) (k : t.SuspendsMore u)
    (hz : ∀ y, (t.zone y).valve ≠ .shut → (u.zone y).valve ≠ .shut) : s.SuspendsMore u := by
  obtain ⟨m, hm, hmz⟩ := h
  obtain ⟨n, hn, hnz⟩ := k
  refine ⟨m ++ n, ?_, fun y hy => ?_⟩
  · rw [hn, hm, List.append_assoc]
  · exact (List.mem_append.mp hy).elim (fun hy => hz y (hmz y hy)) (hnz y)

/-- A zone that a shed walk closes is not SHUT, and the others are as they were. -/
theorem Zone.ShedFrom.notShut {x y : Zone} (h : x.ShedFrom y) (hx : x.valve ≠ .shut) : y.valve ≠ .shut := by
  rcases h with rfl | ⟨-, hclosing, -⟩
  · exact hx
  · rw [hclosing]
    exact fun k => by cases k

theorem State.shed_suspendsMore (s : State) (port : Option Port) (z : ZoneId) : s.SuspendsMore (s.shed port z) := by
  have hplanner : (s.shed port z).planner = (s.closeChannel z .shed).planner := by
    unfold State.shed
    simp
  by_cases ho : (s.zone z).isOpen = true
  · have hclosed := congrArg State.planner (s.closeChannel_eq z .shed ho)
    refine ⟨_, hplanner.trans hclosed, fun y hy => ?_⟩
    obtain rfl : y = z := by
      split at hy
      · exact List.mem_singleton.mp hy
      · cases hy
    exact (s.shed_shedFrom port y y).notShut fun k => by simp [Zone.isOpen, k] at ho
  · rw [State.closeChannel_shut s .shed (by simpa using ho)] at hplanner
    exact State.suspendsMore_of hplanner

theorem State.shedWalk_suspendsMore (s : State) (port : Option Port) : s.SuspendsMore (s.shedWalk port) :=
  State.forZones_keeps (P := fun t => s.SuspendsMore t) _ (fun z t ht => by
    unfold State.shedStep
    split
    · exact State.SuspendsMore.trans ht (t.shed_suspendsMore port z) fun y => (t.shed_shedFrom port z y).notShut
    · exact ht) _ s (State.suspendsMore_of rfl)

/-- An opening adds to the suspended list at most zones that its shed walk closed (R87, R133). -/
theorem State.openChannel_suspendsMore (hp : (s.zone z).programme = some x) (hv : (s.zone z).valve = .shut) (hl : (s.zone z).lockout = none) :
    s.SuspendsMore (s.openChannel z tag) := by
  have hreports : s.SuspendsMore ((s.energise z x tag).openingReports x) :=
    ((s.energise z x tag).raiseCommitted ⟨x.header, x.flow⟩).shedWalk_suspendsMore none
  rw [State.openChannel_taken hp hv hl]
  split
  · refine hreports.trans (State.suspendsMore_of rfl) fun y hy => ?_
    rw [State.enterWet_zone]
    split
    · exact fun k => by cases k
    · exact hy
  · exact hreports

end

/-! ### What openings leave SHUT -/

/-- From `s` to `t` channels have been opened and shed at most: what is SHUT is as it was. -/
structure OpensOnly (s t : State) : Prop where
  quiet : Quiet s t
  shut : ∀ y, (t.zone y).valve = .shut → t.zone y = s.zone y

theorem OpensOnly.refl (s : State) : OpensOnly s s := ⟨.refl s, fun _ _ => rfl⟩

theorem OpensOnly.trans {s t u : State} (h : OpensOnly s t) (k : OpensOnly t u) : OpensOnly s u :=
  ⟨h.quiet.trans k.quiet, fun y hy => (k.shut y hy).trans (h.shut y (by rw [← k.shut y hy]; exact hy))⟩

/-- An opening of a zone, after its own record has been made ready for the visit, opens and sheds at most. -/
theorem State.openChannel_opensOnly {s t : State} {z : ZoneId} {x : Programme} (tag : UseTag) (hp : (t.zone z).programme = some x)
    (hv : (t.zone z).valve = .shut) (hl : (t.zone z).lockout = none) (q : Quiet s t) (hother : ∀ y, y ≠ z → t.zone y = s.zone y) :
    OpensOnly s (t.openChannel z tag) := by
  obtain ⟨hself, hrest⟩ := State.openChannel_zones tag hp hv hl
  refine ⟨q.trans (t.openChannel_quiet z tag), fun y hy => ?_⟩
  have hne : y ≠ z := fun k => hself (k ▸ hy)
  rcases hrest y hne with hsame | ⟨-, hclosing, -⟩
  · rw [hsame, hother y hne]
  · rw [hclosing] at hy
    cases hy

/-- A zone that may begin or go on with a visit after openings could before (R128). -/
theorem OpensOnly.mayRotate {s t : State} (h : OpensOnly s t) {y : ZoneId} {v : Programme} (k : t.mayRotate y v) : s.mayRotate y v := by
  have hshut : t.zone y = s.zone y := h.shut y k.2.2.2.1
  have hgroup : ∀ g, t.group g = s.group g := fun g => by unfold State.group; rw [h.quiet.groups]
  unfold State.mayRotate at k ⊢
  rwa [hshut, hgroup, h.quiet.ring, h.quiet.allotmentReached] at k

end Sys2Proof.Machine

end

section
/-! The quota selection by its first turn (R128 to R132). -/

namespace Sys2Proof.Machine

theorem State.selectOnce_quota {s : State} (hregime : s.engine.regime = .quota) (hrun : s.engine.runState = .running) : s.selectOnce = s.quotaSelect := by
  unfold State.selectOnce State.selectTurns
  rw [if_pos hrun, hregime]

/-! ### The two steps -/

section
variable {s : State} {z : ZoneId} {x : Programme} {k : Nat}

theorem State.suspendedStep_passed (h : ∀ v, ¬s.mayRotate z v) : s.suspendedStep z = ⟨s, false⟩ := by
  have hno : s.eligible z = false := Bool.eq_false_iff.mpr fun he => by
    obtain ⟨v, hv⟩ := (s.eligible_iff z).mp he
    exact h v hv
  unfold State.suspendedStep
  rw [hno]
  split <;> rfl

theorem State.suspendedStep_taken (hflight : s.supplyInFlight = []) (h : s.mayRotate z x) :
    s.suspendedStep z = if s.fits x = true then ⟨s.continueVisit z x, false⟩ else ⟨s, true⟩ := by
  unfold State.suspendedStep
  rw [h.1, (s.eligible_iff z).mpr ⟨x, h⟩]
  exact (if_pos rfl).trans (State.ifFits_none hflight x _ _)

theorem State.ringStep_passed (h : ∀ y, s.ring[k]? = some y → ∀ v, ¬s.mayRotate y v) : s.ringStep k = ⟨s, false⟩ := by
  unfold State.ringStep
  cases hk : s.ring[k]? with
  | none => rfl
  | some y =>
    have hno : s.eligible y = false := Bool.eq_false_iff.mpr fun he => by
      obtain ⟨v, hv⟩ := (s.eligible_iff y).mp he
      exact h y hk v hv
    dsimp only
    rw [hno]
    split <;> rfl

/-- The position after `k` on the ring (R130). -/
def State.ringAfter (s : State) (k : Nat) : Nat := if k + 1 < s.ring.length then k + 1 else 0

theorem State.ringStep_suspended (hk : s.ring[k]? = some z) (hz : z ∈ s.planner.suspended) : s.ringStep k = ⟨s, false⟩ := by
  unfold State.ringStep
  rw [hk]
  dsimp only
  rw [decide_eq_true hz, Bool.not_true, Bool.and_false]
  split <;> rfl

theorem State.ringStep_taken (hflight : s.supplyInFlight = []) (hk : s.ring[k]? = some z) (h : s.mayRotate z x) (hz : z ∉ s.planner.suspended) :
    s.ringStep k =
      if s.fits x = true then ⟨(s.movePointer (s.ringAfter k) (decide (s.ringAfter k ≤ s.planner.pointer))).newVisit z x, false⟩
      else ⟨s.movePointer k (decide (k < s.planner.pointer)), true⟩ := by
  unfold State.ringStep
  rw [hk]
  dsimp only
  rw [h.1, (s.eligible_iff z).mpr ⟨x, h⟩, decide_eq_false hz]
  exact (if_pos rfl).trans (State.ifFits_none hflight x _ _)

/-! ### What the steps leave -/

theorem State.continueVisit_opensOnly (h : s.mayRotate z x) : OpensOnly s (s.continueVisit z x) := by
  obtain ⟨hp, -, -, hv, hl, -⟩ := h
  have hready : Quiet s { s.updZone z (fun y => y.startVisit x (y.visitTarget.getD 0) y.visitVolume) with
      planner := { s.planner with suspended := s.planner.suspended.filter fun i => decide (i ≠ z) } } :=
    (s.updZone_quiet z _ ⟨rfl, rfl, rfl, rfl, rfl, rfl, rfl, rfl, rfl, rfl, rfl⟩).trans (State.accounts_quiet _ _ _ _ _ _ _)
  have hself := s.zone_updZone_same z fun y => y.startVisit x (y.visitTarget.getD 0) y.visitVolume
  have hother : ∀ y, y ≠ z → (s.updZone z fun y => y.startVisit x (y.visitTarget.getD 0) y.visitVolume).zone y = s.zone y := fun y hy =>
    s.zone_updZone_other _ hy
  refine State.openChannel_opensOnly (x := x) .quota ?_ ?_ ?_ hready hother
  · exact (congrArg Zone.programme hself).trans hp
  · exact (congrArg Zone.valve hself).trans hv
  · exact (congrArg Zone.lockout hself).trans hl

theorem State.movePointer_opensOnly (s : State) (n : Nat) (passed : Bool) : OpensOnly s (s.movePointer n passed) :=
  ⟨State.accounts_quiet s _ _ _ _ _ _, fun _ _ => rfl⟩

theorem State.newVisit_opensOnly (h : s.mayRotate z x) : OpensOnly s (s.newVisit z x) := by
  obtain ⟨hp, -, -, hv, hl, -⟩ := h
  have hself := s.zone_updZone_same z fun y => y.startVisit x (visitTarget y.effectiveQuota x.cycles y.quotaVolume) 0
  refine State.openChannel_opensOnly (x := x) .quota ?_ ?_ ?_ (s.updZone_quiet z _ ⟨rfl, rfl, rfl, rfl, rfl, rfl, rfl, rfl, rfl, rfl, rfl⟩)
    fun y hy => s.zone_updZone_other _ hy
  · exact (congrArg Zone.programme hself).trans hp
  · exact (congrArg Zone.valve hself).trans hv
  · exact (congrArg Zone.lockout hself).trans hl

/-- A step of either phase opens and sheds at most (R129, R130). -/
theorem State.suspendedStep_opensOnly (hflight : s.supplyInFlight = []) (y : ZoneId) : OpensOnly s (s.suspendedStep y).state := by
  by_cases hy : ∃ v, s.mayRotate y v
  · obtain ⟨v, hv⟩ := hy
    rw [State.suspendedStep_taken hflight hv]
    split
    · exact State.continueVisit_opensOnly hv
    · exact .refl s
  · rw [State.suspendedStep_passed (not_exists.mp hy)]
    exact .refl s

theorem State.ringStep_opensOnly (hflight : s.supplyInFlight = []) (j : Nat) : OpensOnly s (s.ringStep j).state := by
  by_cases hj : ∃ y v, s.ring[j]? = some y ∧ s.mayRotate y v
  · obtain ⟨y, v, hy, hv⟩ := hj
    by_cases hz : y ∈ s.planner.suspended
    · rw [State.ringStep_suspended hy hz]
      exact .refl s
    · rw [State.ringStep_taken hflight hy hv hz]
      split
      · have hmoved : (s.movePointer (s.ringAfter j) (decide (s.ringAfter j ≤ s.planner.pointer))).mayRotate y v := hv
        exact (s.movePointer_opensOnly _ _).trans (State.newVisit_opensOnly hmoved)
      · exact s.movePointer_opensOnly _ _
  · rw [State.ringStep_passed fun y hy v hv => hj ⟨y, v, hy, hv⟩]
    exact .refl s

end

/-! ### The turn that opens -/

/-- The states that a selection can come to from `s`: no supply event is on its way, and channels have been opened and shed at most. -/
def State.reaches (s t : State) : Prop := t.supplyInFlight = [] ∧ OpensOnly s t

theorem State.reaches_suspendedStep {s t : State} (y : ZoneId) (h : s.reaches t) : s.reaches (t.suspendedStep y).state := by
  obtain ⟨hflight, hopens⟩ := h
  have hstep := State.suspendedStep_opensOnly hflight y
  exact ⟨hstep.quiet.supplyInFlight.trans hflight, hopens.trans hstep⟩

theorem State.reaches_ringStep {s t : State} (j : Nat) (h : s.reaches t) : s.reaches (t.ringStep j).state := by
  obtain ⟨hflight, hopens⟩ := h
  have hstep := State.ringStep_opensOnly hflight j
  exact ⟨hstep.quiet.supplyInFlight.trans hflight, hopens.trans hstep⟩

/-- What did not meet the conditions in `s` is passed in every state that the selection comes to. -/
theorem State.reaches.suspendedStep_passed {s t : State} (h : s.reaches t) {y : ZoneId} (hy : ∀ v, ¬s.mayRotate y v) :
    t.suspendedStep y = ⟨t, false⟩ := State.suspendedStep_passed fun v hv => hy v (h.2.mayRotate hv)

theorem State.reaches.ringStep_passed {s t : State} (h : s.reaches t) {j : Nat} (hj : ∀ y, s.ring[j]? = some y → ∀ v, ¬s.mayRotate y v) :
    t.ringStep j = ⟨t, false⟩ :=
  State.ringStep_passed fun y hy v hv => hj y (by rw [← h.2.quiet.ring]; exact hy) v (h.2.mayRotate hv)

/-- A channel that is not SHUT meets no conditions (R128). -/
theorem State.not_mayRotate {s : State} {y : ZoneId} (h : (s.zone y).valve ≠ .shut) (v : Programme) : ¬s.mayRotate y v := by
  rintro ⟨-, -, -, hv, -⟩
  exact h hv

/-- The first phase after a suspended visit has been continued: the rest of the list, off which the zone has been taken and on which the shed walk has put zones
that are not SHUT (R129, R133). -/
theorem State.suspendedPhase_next {u : State} {passed rest more : List ZoneId} {z : ZoneId} (hflight : u.supplyInFlight = [])
    (hlist : u.planner.suspended = (passed ++ z :: rest).filter (fun i => decide (i ≠ z)) ++ more) (hpassed : ∀ y ∈ passed, ∀ v, ¬u.mayRotate y v)
    (hz : (u.zone z).valve ≠ .shut) (hmore : ∀ y ∈ more, (u.zone y).valve ≠ .shut) :
    Progress.through u.planner.suspended State.suspendedStep u = Progress.through rest State.suspendedStep u := by
  have hself : u.reaches u := ⟨hflight, .refl u⟩
  have hdrop : Progress.through rest State.suspendedStep u =
      Progress.through (rest.filter fun i => decide (i ≠ z)) State.suspendedStep u :=
    Progress.through_filter (Q := u.reaches) State.suspendedStep _ (fun t y h => State.reaches_suspendedStep y h)
      (fun t y h hy => by
        obtain rfl : y = z := by simpa using hy
        exact h.suspendedStep_passed (State.not_mayRotate hz)) rest hself
  have hend : Progress.through ((rest.filter fun i => decide (i ≠ z)) ++ more) State.suspendedStep u =
      Progress.through (rest.filter fun i => decide (i ≠ z)) State.suspendedStep u :=
    Progress.through_before (Q := u.reaches) State.suspendedStep (fun t y h => State.reaches_suspendedStep y h)
      (fun t h y hy => h.suspendedStep_passed (State.not_mayRotate (hmore y hy))) _ hself
  have hstart : ∀ y ∈ passed.filter fun i => decide (i ≠ z), u.suspendedStep y = ⟨u, false⟩ := fun y hy =>
    State.suspendedStep_passed (hpassed y (List.mem_of_mem_filter hy))
  rw [hlist, List.filter_append, List.filter_cons_of_neg (by simp), List.append_assoc, Progress.through_after _ hstart, hend, hdrop]

/-- The ring in the order of the scan from the position after `k` (R130). -/
theorem State.scanOrder_next {s u : State} {passed rest : List Nat} {k : Nat} (hscan : s.scanOrder = passed ++ k :: rest) (hring : u.ring = s.ring)
    (hpointer : u.planner.pointer = s.ringAfter k) : u.scanOrder = rest ++ (passed ++ [k]) := by
  have hlength : s.ring.length = passed.length + (rest.length + 1) := by
    have hcount := congrArg List.length hscan
    simpa [State.scanOrder] using hcount
  have hk : k = (s.planner.pointer + passed.length) % s.ring.length := by
    have hat : s.scanOrder[passed.length]? = some k := by rw [hscan]; simp
    unfold State.scanOrder at hat
    rw [List.getElem?_map, List.getElem?_range (by omega)] at hat
    simpa using hat.symm
  have hafter : s.ringAfter k = (s.planner.pointer + passed.length + 1) % s.ring.length := by
    have hlt : k < s.ring.length := by rw [hk]; exact Nat.mod_lt _ (by omega)
    rw [Nat.add_mod, ← hk]
    unfold State.ringAfter
    split
    · rcases Nat.lt_or_ge 1 s.ring.length with hone | hone
      · rw [Nat.mod_eq_of_lt hone, Nat.mod_eq_of_lt (by omega)]
      · omega
    · have hlast : k + 1 = s.ring.length := by omega
      rw [Nat.add_mod_mod, hlast, Nat.mod_self]
  have hrotate : u.scanOrder = s.scanOrder.rotate (passed.length + 1) := by
    refine List.ext_getElem (by simp [State.scanOrder, hring]) fun i hi _ => ?_
    simp only [State.scanOrder, List.length_map, List.length_range] at hi
    simp only [State.scanOrder, List.getElem_rotate, List.getElem_map, List.getElem_range, hring, hpointer, hafter, List.length_map, List.length_range,
      Nat.mod_add_mod, Nat.add_mod_mod]
    congr 1
    omega
  rw [hrotate, hscan]
  have hcut : passed ++ k :: rest = (passed ++ [k]) ++ rest := by simp
  have hcount : passed.length + 1 = (passed ++ [k]).length := by simp
  rw [hcut, hcount, List.rotate_append_length_eq]

end Sys2Proof.Machine

end

section
/-! The quota selection after its first turn (R129, R130), and the statement. -/

namespace Sys2Proof.Machine

section
variable {s : State} {z : ZoneId} {x : Programme}

/-! ### The visits that open -/

/-- After the opening of a visit the zone is not SHUT, and neither is what the shed walk has put on the suspended list. -/
theorem State.startVisit_opened {t : State} {target volume : Nat} (h : s.mayRotate z x) (hz : t.zone z = (s.zone z).startVisit x target volume) :
    ((t.openChannel z .quota).zone z).valve ≠ .shut ∧ t.SuspendsMore (t.openChannel z .quota) := by
  obtain ⟨hp, -, -, hv, hl, -⟩ := h
  have kp : (t.zone z).programme = some x := by rw [hz]; exact hp
  have kv : (t.zone z).valve = .shut := by rw [hz]; exact hv
  have kl : (t.zone z).lockout = none := by rw [hz]; exact hl
  exact ⟨(State.openChannel_zones .quota kp kv kl).1, State.openChannel_suspendsMore .quota kp kv kl⟩

/-- What the continuation of a suspended visit leaves of the planner (R129, R133). -/
theorem State.continueVisit_leaves (h : s.mayRotate z x) :
    ((s.continueVisit z x).zone z).valve ≠ .shut ∧
      ∃ more, (s.continueVisit z x).planner.suspended = s.planner.suspended.filter (fun i => decide (i ≠ z)) ++ more ∧
        ∀ y ∈ more, ((s.continueVisit z x).zone y).valve ≠ .shut := by
  have hready : State.zone { s.updZone z (fun y => y.startVisit x (y.visitTarget.getD 0) y.visitVolume) with
      planner := { s.planner with suspended := s.planner.suspended.filter fun i => decide (i ≠ z) } } z =
        (s.zone z).startVisit x ((s.zone z).visitTarget.getD 0) (s.zone z).visitVolume :=
    s.zone_updZone_same z fun y => y.startVisit x (y.visitTarget.getD 0) y.visitVolume
  obtain ⟨hz, more, hplanner, hmore⟩ := State.startVisit_opened h hready
  exact ⟨hz, more, congrArg Planner.suspended hplanner, hmore⟩

/-- What a new visit leaves of the planner (R131, R133). -/
theorem State.newVisit_leaves (h : s.mayRotate z x) :
    ((s.newVisit z x).zone z).valve ≠ .shut ∧ (s.newVisit z x).planner.pointer = s.planner.pointer ∧
      ∃ more, (s.newVisit z x).planner.suspended = s.planner.suspended ++ more ∧ ∀ y ∈ more, ((s.newVisit z x).zone y).valve ≠ .shut := by
  have hready := s.zone_updZone_same z fun y => y.startVisit x (visitTarget y.effectiveQuota x.cycles y.quotaVolume) 0
  obtain ⟨hz, more, hplanner, hmore⟩ := State.startVisit_opened h hready
  have hpointer := congrArg Planner.pointer hplanner
  exact ⟨hz, hpointer, more, congrArg Planner.suspended hplanner, hmore⟩

/-! ### The selection by its first turn -/

/-- Where no suspended zone meets the conditions the selection is the scan of the ring (R130). -/
theorem State.quotaSelect_scan (h : ∀ y ∈ s.planner.suspended, ∀ v, ¬s.mayRotate y v) :
    s.quotaSelect = (Progress.through s.scanOrder State.ringStep s).state := by
  have hphase : Progress.through s.planner.suspended State.suspendedStep s = ⟨s, false⟩ :=
    Progress.through_idle State.suspendedStep fun y hy => State.suspendedStep_passed (h y hy)
  unfold State.quotaSelect
  rw [hphase]
  rfl

theorem State.quotaSelect_none (h : ∀ z x, ¬s.mayRotate z x) : s.quotaSelect = s := by
  have hscan : Progress.through s.scanOrder State.ringStep s = ⟨s, false⟩ :=
    Progress.through_idle State.ringStep fun j _ => State.ringStep_passed fun y _ => h y
  rw [State.quotaSelect_scan fun y _ => h y, hscan]

/-- The selection by its first suspended zone that meets the conditions (R129). -/
theorem State.quotaSelect_suspended (hflight : s.supplyInFlight = []) {passed rest : List ZoneId} (hlist : s.planner.suspended = passed ++ z :: rest)
    (h : s.mayRotate z x) (hpassed : ∀ y ∈ passed, ∀ v, ¬s.mayRotate y v) :
    s.quotaSelect = if s.fits x = true then (s.continueVisit z x).quotaSelect else s := by
  have hfirst : Progress.through s.planner.suspended State.suspendedStep s =
      if s.fits x = true then Progress.through rest State.suspendedStep (s.continueVisit z x) else ⟨s, true⟩ := by
    rw [hlist, Progress.through_after _ fun y hy => State.suspendedStep_passed (hpassed y hy), Progress.through_cons,
      State.suspendedStep_taken hflight h]
    split <;> rfl
  unfold State.quotaSelect
  rw [hfirst]
  split
  · have hopens := State.continueVisit_opensOnly h
    obtain ⟨hz, more, hleft, hmore⟩ := State.continueVisit_leaves h
    rw [hlist] at hleft
    rw [State.suspendedPhase_next (hopens.quiet.supplyInFlight.trans hflight) hleft (fun y hy v hv => hpassed y hy v (hopens.mayRotate hv)) hz hmore]
  · rfl

/-- The scan after a visit has begun at position `k`: on from the position after it, for the positions before meet the conditions no more (R130). -/
theorem State.ringPhase_next {u : State} {k : Nat} {passed rest : List Nat} (hflight : u.supplyInFlight = []) (hopens : OpensOnly s u)
    (hscan : s.scanOrder = passed ++ k :: rest) (hpointer : u.planner.pointer = s.ringAfter k) (hk : s.ring[k]? = some z)
    (hz : (u.zone z).valve ≠ .shut) (hpassed : ∀ j ∈ passed, ∀ y, s.ring[j]? = some y → ∀ v, ¬s.mayRotate y v) :
    Progress.through u.scanOrder State.ringStep u = Progress.through rest State.ringStep u := by
  have hspent : ∀ j ∈ passed ++ [k], ∀ y, u.ring[j]? = some y → ∀ v, ¬u.mayRotate y v := fun j hj y hy v hv => by
    rw [hopens.quiet.ring] at hy
    rcases List.mem_append.mp hj with hj | hj
    · exact hpassed j hj y hy v (hopens.mayRotate hv)
    · rw [List.mem_singleton.mp hj, hk] at hy
      cases hy
      exact State.not_mayRotate hz v hv
  rw [State.scanOrder_next hscan hopens.quiet.ring hpointer]
  exact Progress.through_before (Q := u.reaches) State.ringStep (fun _ j ht => State.reaches_ringStep j ht)
    (fun _ ht j hj => ht.ringStep_passed (hspent j hj)) rest ⟨hflight, .refl u⟩

/-- The selection by the first position of the ring whose zone meets the conditions, where no suspended zone does (R130). -/
theorem State.quotaSelect_ring (hflight : s.supplyInFlight = []) {k : Nat} {passed rest : List Nat} (hscan : s.scanOrder = passed ++ k :: rest)
    (hk : s.ring[k]? = some z) (h : s.mayRotate z x) (hsuspended : ∀ y ∈ s.planner.suspended, ∀ v, ¬s.mayRotate y v)
    (hpassed : ∀ j ∈ passed, ∀ y, s.ring[j]? = some y → ∀ v, ¬s.mayRotate y v) :
    s.quotaSelect =
      if s.fits x = true then ((s.movePointer (s.ringAfter k) (decide (s.ringAfter k ≤ s.planner.pointer))).newVisit z x).quotaSelect
      else s.movePointer k (decide (k < s.planner.pointer)) := by
  have hscanned : Progress.through s.scanOrder State.ringStep s =
      if s.fits x = true then
        Progress.through rest State.ringStep ((s.movePointer (s.ringAfter k) (decide (s.ringAfter k ≤ s.planner.pointer))).newVisit z x)
      else ⟨s.movePointer k (decide (k < s.planner.pointer)), true⟩ := by
    rw [hscan, Progress.through_after _ fun j hj => State.ringStep_passed (hpassed j hj), Progress.through_cons,
      State.ringStep_taken hflight hk h fun hz => hsuspended z hz x h]
    split <;> rfl
  rw [State.quotaSelect_scan hsuspended, hscanned]
  split
  · have hmoved : (s.movePointer (s.ringAfter k) (decide (s.ringAfter k ≤ s.planner.pointer))).mayRotate z x := h
    have hopens := (s.movePointer_opensOnly (s.ringAfter k) (decide (s.ringAfter k ≤ s.planner.pointer))).trans (State.newVisit_opensOnly hmoved)
    obtain ⟨hz, hpointer, more, hleft, hmore⟩ := State.newVisit_leaves hmoved
    have hwaiting : ∀ y ∈ ((s.movePointer (s.ringAfter k) (decide (s.ringAfter k ≤ s.planner.pointer))).newVisit z x).planner.suspended,
        ∀ v, ¬((s.movePointer (s.ringAfter k) (decide (s.ringAfter k ≤ s.planner.pointer))).newVisit z x).mayRotate y v := fun y hy v hv => by
      rw [hleft] at hy
      rcases List.mem_append.mp hy with hy | hy
      · exact hsuspended y hy v (hopens.mayRotate hv)
      · exact State.not_mayRotate (hmore y hy) v hv
    rw [State.quotaSelect_scan hwaiting,
      State.ringPhase_next (hopens.quiet.supplyInFlight.trans hflight) hopens hscan hpointer hk hz hpassed]
  · rfl

/-! ### The statement's terms -/

/-- A rise of the round count, in the statement's form (R130). -/
theorem State.movePointer_eq (s : State) (n : Nat) (p : Prop) [Decidable p] :
    s.movePointer n (decide p) =
      { s with planner := { s.planner with pointer := n, round := if p then (s.planner.round + 1) % 65536 else s.planner.round } } := by
  unfold State.movePointer wrapAdd Config.countTop
  simp only [decide_eq_true_eq]

theorem State.continueVisit_eq {target : Nat} (h : (s.zone z).visitTarget = some target) :
    s.continueVisit z x =
      State.openChannel
        { s.updZone z (fun y => { y with visit := .openVisit, guardTimer := some (guardOf x (target - y.visitVolume)) }) with
          planner := { s.planner with suspended := s.planner.suspended.filter fun i => decide (i ≠ z) } } z .quota := by
  have hrecord : s.updZone z (fun y => y.startVisit x (y.visitTarget.getD 0) y.visitVolume) =
      s.updZone z fun y => { y with visit := .openVisit, guardTimer := some (guardOf x (target - y.visitVolume)) } := by
    refine State.updZone_congr ?_
    have htarget : (s.zone z).visitTarget.getD 0 = target := by rw [h, Option.getD_some]
    unfold Zone.startVisit
    rw [htarget, h]
    rfl
  unfold State.continueVisit
  rw [hrecord]

theorem State.newVisit_eq {target : Nat}
    (h : target = min (((s.zone z).effectiveQuota * 100 + (x.cycles - 1)) / x.cycles) ((s.zone z).effectiveQuota * 100 - (s.zone z).quotaVolume)) :
    s.newVisit z x =
      (s.updZone z fun y =>
        { y with visit := .openVisit, visitTarget := some target, visitVolume := 0, guardTimer := some (guardOf x target) }).openChannel z .quota := by
  unfold State.newVisit
  congr 1
  refine State.updZone_congr ?_
  rw [h]
  rfl

end

end Sys2Proof.Machine

open Sys2Proof Sys2Proof.Machine

/-- Settles O50: the first turn by `State.quotaSelect_suspended` and `State.quotaSelect_ring`; the rest of the walk is the selection of the state after it, for what
was passed or opened meets the conditions no more (`OpensOnly.mayRotate`). -/
theorem quotaSelectionFollowsTheListAndTheRing : Obligations.QuotaSelectionFollowsTheListAndTheRing := by
  intro s hregime hrun hflight
  have hselect : ∀ {t : State}, Quiet s t → t.selectOnce = t.quotaSelect := fun q => by
    have hengine := q.engine
    exact State.selectOnce_quota (by rw [hengine, hregime]) (by rw [hengine, hrun])
  rw [hselect (.refl s)]
  refine ⟨State.quotaSelect_none, fun z x passed rest hlist h hpassed => ?_, fun z x k passed rest hscan hk h hsuspended hpassed => ?_⟩
  · rw [State.quotaSelect_suspended hflight hlist h hpassed]
    refine ⟨fun hroom => if_neg fun k => hroom ((s.fits_iff x).mp k), fun target htarget hroom => ?_⟩
    rw [if_pos ((s.fits_iff x).mpr hroom), ← State.continueVisit_eq htarget, hselect (State.continueVisit_opensOnly h).quiet]
  · rw [State.quotaSelect_ring hflight hscan hk h hsuspended hpassed]
    refine ⟨fun hroom => ?_, fun hroom next target hnext htarget => ?_⟩
    · rw [if_neg fun k => hroom ((s.fits_iff x).mp k), State.movePointer_eq]
    · have hafter : next = s.ringAfter k := by
        obtain ⟨hin, -⟩ := List.getElem?_eq_some_iff.mp hk
        rw [hnext, State.ringAfter]
        split <;> split <;> omega
      have hmoved : (s.movePointer next (decide (next ≤ s.planner.pointer))).mayRotate z x := h
      have hquiet := (s.movePointer_opensOnly next (decide (next ≤ s.planner.pointer))).trans (State.newVisit_opensOnly hmoved)
      have hopened := State.newVisit_eq (s := s.movePointer next (decide (next ≤ s.planner.pointer))) htarget
      rw [if_pos ((s.fits_iff x).mpr hroom), ← hafter, ← hselect hquiet.quiet, hopened, State.movePointer_eq]
      rfl

end

section
/-! The manual walk by its first WAITING entry (R110, R116). -/

namespace Sys2Proof.Machine

/-! ### The entries -/

theorem modify_length_append {α : Type} (done rest : List α) (a : α) (f : α → α) :
    (done ++ a :: rest).modify done.length f = done ++ f a :: rest := by
  induction done with
  | nil => rfl
  | cons b done ih => simpa using ih

/-- The positions of a run list, cut at one of them. -/
theorem range_length_append {α : Type} (done rest : List α) (a : α) :
    List.range (done ++ a :: rest).length = List.range done.length ++ done.length :: List.range' (done.length + 1) rest.length := by
  have hcut := List.range'_append_1 (s := 0) (m := done.length) (n := rest.length + 1)
  rw [Nat.zero_add, List.range'_succ] at hcut
  rw [List.length_append, List.length_cons, List.range_eq_range', List.range_eq_range', hcut]

section
variable {s : State} {e : Entry} {done rest : List Entry} {x : Programme}

/-- The run list in force. -/
theorem State.entries_eq {es : List Entry} (h : s.engine.manual = some es) : s.engine.entries = es := by
  unfold Engine.entries
  rw [h]
  rfl

/-- The entry in its new state, in the statement's form (R116). -/
theorem State.setEntry_eq (h : s.engine.manual = some (done ++ e :: rest)) (k : EntryState) :
    s.setEntry done.length k = { s with engine := { s.engine with manual := some (done ++ { e with state := k } :: rest) } } := by
  unfold State.setEntry
  rw [h, Option.map_some, modify_length_append]

/-! ### The steps of the walk -/

theorem State.walkStep_passed {i : Nat} (h : ∀ y, s.engine.entries[i]? = some y → y.state ≠ .waiting) : s.walkStep i = ⟨s, false⟩ := by
  unfold State.walkStep
  cases hi : s.engine.entries[i]? with
  | none => rfl
  | some y => exact if_neg (h y hi)

theorem State.walkStep_waiting (h : s.engine.manual = some (done ++ e :: rest)) (he : e.state = .waiting) :
    s.walkStep done.length =
      match (s.zone e.zone).programme with
      | none => ⟨s.skipEntry done.length e.zone 2, false⟩
      | some p =>
        if (s.zone e.zone).lockout.isSome then ⟨s.skipEntry done.length e.zone 1, false⟩
        else if (s.zone e.zone).valve ≠ .shut then ⟨s, true⟩
        else s.ifFits p (fun t => (t.setEntry done.length .running).openChannel e.zone .manual) id := by
  have hat : (done ++ e :: rest)[done.length]? = some e := by simp
  unfold State.walkStep
  rw [State.entries_eq h, hat]
  exact if_pos he

/-- The walk begins at the first WAITING entry (R116). -/
theorem State.walk_first (h : s.engine.manual = some (done ++ e :: rest)) (hdone : ∀ y ∈ done, y.state ≠ .waiting) :
    s.walk =
      if (s.walkStep done.length).ended = true then (s.walkStep done.length).state
      else (Progress.through (List.range' (done.length + 1) rest.length) State.walkStep (s.walkStep done.length).state).state := by
  have hpassed : ∀ i ∈ List.range done.length, s.walkStep i = ⟨s, false⟩ := fun i hi => by
    have hlt := List.mem_range.mp hi
    refine State.walkStep_passed fun y hy => ?_
    rw [State.entries_eq h, List.getElem?_append_left hlt] at hy
    exact hdone y (List.mem_of_getElem? hy)
  unfold State.walk
  rw [State.entries_eq h, range_length_append, Progress.through_after _ hpassed, Progress.through_cons]
  split <;> rfl

/-- A turn after which its entry waits no more leaves the walk of the state that it comes to (R116). -/
theorem State.walk_next {u : State} {e' : Entry} (h : s.engine.manual = some (done ++ e :: rest)) (hdone : ∀ y ∈ done, y.state ≠ .waiting)
    (hstep : s.walkStep done.length = ⟨u, false⟩) (hu : u.engine.manual = some (done ++ e' :: rest)) (he' : e'.state ≠ .waiting) :
    s.walk = u.walk := by
  have hpassed : u.walkStep done.length = ⟨u, false⟩ := State.walkStep_passed fun y hy => by
    rw [State.entries_eq hu] at hy
    obtain rfl : e' = y := by simpa using hy
    exact he'
  rw [State.walk_first h hdone, State.walk_first hu hdone, hstep, hpassed]

theorem State.walk_idle {es : List Entry} (h : s.engine.manual = some es) (hnone : ∀ y ∈ es, y.state ≠ .waiting) : s.walk = s := by
  have hidle : Progress.through (List.range s.engine.entries.length) State.walkStep s = ⟨s, false⟩ :=
    Progress.through_idle State.walkStep fun i _ => State.walkStep_passed fun y hy => by
      rw [State.entries_eq h] at hy
      exact hnone y (List.mem_of_getElem? hy)
  unfold State.walk
  rw [hidle]

/-! ### The selection -/

theorem State.selectOnce_manual (hregime : s.engine.regime = .manual) (hrun : s.engine.runState = .running) :
    s.selectOnce = if s.walk.listComplete = true then (s.walk.pop none).selectTurns s.engine.stack.length else s.walk := by
  unfold State.selectOnce
  rw [State.selectTurns, if_pos hrun, hregime]

/-- Two states with one walk make one selection. -/
theorem State.selectOnce_of_walk {u : State} (hregime : s.engine.regime = .manual) (hrun : s.engine.runState = .running)
    (hengine : u.engine = { s.engine with manual := u.engine.manual }) (hwalk : s.walk = u.walk) : s.selectOnce = u.selectOnce := by
  rw [State.selectOnce_manual hregime hrun, State.selectOnce_manual (by rw [hengine, hregime]) (by rw [hengine, hrun]), hwalk,
    congrArg Engine.stack hengine]

/-- A walk that stops at a WAITING entry leaves the state as it was (R116). -/
theorem State.selectOnce_stopped (hregime : s.engine.regime = .manual) (hrun : s.engine.runState = .running)
    (h : s.engine.manual = some (done ++ e :: rest)) (hdone : ∀ y ∈ done, y.state ≠ .waiting) (he : e.state = .waiting)
    (hstep : s.walkStep done.length = ⟨s, true⟩) : s.selectOnce = s := by
  have hwalk : s.walk = s := by rw [State.walk_first h hdone, hstep]; rfl
  have hopen : s.listComplete = false := by
    unfold State.listComplete
    rw [State.entries_eq h]
    exact List.all_eq_false.mpr ⟨e, by simp, by simp [he]⟩
  rw [State.selectOnce_manual hregime hrun, hwalk, hopen]
  rfl

/-- A turn that passes its entry over or runs it is followed by the selection of the state that it comes to (R116). -/
theorem State.selectOnce_turned {u : State} {k : EntryState} (hregime : s.engine.regime = .manual) (hrun : s.engine.runState = .running)
    (h : s.engine.manual = some (done ++ e :: rest)) (hdone : ∀ y ∈ done, y.state ≠ .waiting) (hk : k ≠ .waiting)
    (hstep : s.walkStep done.length = ⟨u, false⟩)
    (hengine : u.engine = { s.engine with manual := some (done ++ { e with state := k } :: rest) }) : s.selectOnce = u.selectOnce := by
  have hu := congrArg Engine.manual hengine
  exact State.selectOnce_of_walk hregime hrun (by rw [hengine]) (State.walk_next h hdone hstep hu hk)

/-! ### Completion -/

/-- With no entry WAITING the list is complete where none is RUNNING (R116). -/
theorem State.listComplete_iff {es : List Entry} (h : s.engine.manual = some es) (hnone : ∀ y ∈ es, y.state ≠ .waiting) :
    s.listComplete = true ↔ ∀ y ∈ es, y.state ≠ .running := by
  unfold State.listComplete
  rw [State.entries_eq h, List.all_eq_true]
  refine forall₂_congr fun y hy => ?_
  have hy := hnone y hy
  cases hs : y.state <;> simp_all

/-- The pop of a complete list over an empty stack, to IDLE (R110). -/
theorem State.pop_idle (h : s.engine.stack = []) :
    s.pop none = State.post { s with engine := { s.engine with regime := .idle, manual := none } } .regimeChanged none none none (some 0) := by
  have hrestore : s.restore none =
      State.post { s with engine := { s.engine with regime := .idle, manual := none } } .regimeChanged none none none (some 0) := by
    unfold State.restore
    rw [h]
    rfl
  unfold State.pop
  rw [hrestore]
  simp [Engine.nothingWaiting]

/-- The pop of a complete list over a QUOTA frame, to its regime and state (R110). -/
theorem State.pop_quota {i r : Nat} (h : s.engine.stack = [.quota i r]) :
    s.pop none = State.post { s with
      engine := { s.engine with regime := .quota, manual := none, stack := [] }
      planner := { s.planner with pointer := i, round := r } } .regimeChanged none none none (some 1) := by
  have hrestore : s.restore none = State.post { s with
      engine := { s.engine with regime := .quota, manual := none, stack := [] }
      planner := { s.planner with pointer := i, round := r } } .regimeChanged none none none (some 1) := by
    unfold State.restore
    rw [h]
    rfl
  unfold State.pop
  rw [hrestore]
  simp [Engine.nothingWaiting]

end

end Sys2Proof.Machine

open Sys2Proof Sys2Proof.Machine

/-- Settles O51: the first turn by `State.selectOnce_turned` and `State.selectOnce_stopped`, the completion by `State.pop_idle` and `State.pop_quota`. -/
theorem manualWalkTakesTheEntriesInOrder : Obligations.ManualWalkTakesTheEntriesInOrder := by
  intro s hregime hrun hflight
  refine ⟨fun e done rest hlist hdone he became hbecame => ?_, fun es hlist hnone => ⟨?_, fun hrunning => ?_⟩⟩
  · have hstep := State.walkStep_waiting hlist he
    have hset : ∀ k, s.setEntry done.length k = became k := fun k => by rw [State.setEntry_eq hlist, hbecame]
    have hengine : ∀ k, (became k).engine = { s.engine with manual := some (done ++ { e with state := k } :: rest) } := fun k => by rw [hbecame]
    refine ⟨fun hp => ?_, fun x hp => ⟨fun hl => ?_, fun hl hstop => ?_, fun hl hv hroom => ?_⟩⟩
    · rw [hp] at hstep
      refine State.selectOnce_turned hregime hrun hlist hdone (k := .skipped) (by decide) (hstep.trans ?_) ?_
      · unfold State.skipEntry Zone.header
        rw [hset, hp]
        rfl
      · exact (State.post_engine _ _ _ _ _ _).trans (hengine .skipped)
    · rw [hp] at hstep
      refine State.selectOnce_turned hregime hrun hlist hdone (k := .skipped) (by decide) (hstep.trans ?_) ?_
      · unfold State.skipEntry Zone.header
        rw [hset, hp]
        exact if_pos (Option.isSome_iff_ne_none.mpr hl)
      · exact (State.post_engine _ _ _ _ _ _).trans (hengine .skipped)
    · rw [hp] at hstep
      refine State.selectOnce_stopped hregime hrun hlist hdone he (hstep.trans ?_)
      dsimp only
      rw [hl, if_neg (by simp)]
      rcases hstop with hv | hroom
      · exact if_pos hv
      · by_cases hv : (s.zone e.zone).valve = .shut
        · rw [if_neg (not_not.mpr hv), State.ifFits_none hflight, if_neg fun k => hroom ((s.fits_iff x).mp k)]
          rfl
        · exact if_pos hv
    · rw [hp] at hstep
      refine State.selectOnce_turned hregime hrun hlist hdone (k := .running) (by decide) (hstep.trans ?_) ?_
      · dsimp only
        rw [hl, if_neg (by simp), if_neg (not_not.mpr hv), State.ifFits_none hflight, if_pos ((s.fits_iff x).mpr hroom), hset]
      · rw [((became .running).openChannel_quiet e.zone .manual).engine]
        exact hengine .running
  · rintro ⟨e, he, hrunning⟩
    have hopen : ¬s.listComplete = true := fun k => (State.listComplete_iff hlist hnone).mp k e he hrunning
    rw [State.selectOnce_manual hregime hrun, State.walk_idle hlist hnone, if_neg hopen]
  · have hselect := State.selectOnce_manual hregime hrun
    rw [State.walk_idle hlist hnone, if_pos ((State.listComplete_iff hlist hnone).mpr hrunning)] at hselect
    refine ⟨fun hstack => ?_, fun i r hstack => ?_⟩
    · rw [hselect, hstack, State.pop_idle hstack]
      rfl
    · rw [hselect, hstack, State.pop_quota hstack, State.selectOnce, State.post_engine]
      rfl

end

section
/-! The frost selection by its first turn (R161, R162). -/

namespace Sys2Proof.Machine

/-! ### The order of the frost selection -/

theorem Urgent.notAfter_iff (a b : Urgent) : a.notAfter b = true ↔ a.slack < b.slack ∨ (a.slack = b.slack ∧
    (a.programme.frostRank < b.programme.frostRank ∨ (a.programme.frostRank = b.programme.frostRank ∧ a.zone ≤ b.zone))) := by
  simp [Urgent.notAfter]

theorem Urgent.notAfter_total : Std.Total fun a b : Urgent => a.notAfter b = true where
  total := fun a b => by
    simp only [Urgent.notAfter_iff, Fin.le_def]
    omega

theorem Urgent.notAfter_trans : IsTrans Urgent fun a b => a.notAfter b = true where
  trans := fun a b c hab hbc => by
    simp only [Urgent.notAfter_iff, Fin.le_def] at *
    omega

theorem Urgent.insert_eq (a : Urgent) (l : List Urgent) : a.insert l = l.orderedInsert (fun a b => a.notAfter b) a := by
  induction l with
  | nil => rfl
  | cons b rest ih => simp only [Urgent.insert, List.orderedInsert_cons, ih]

theorem State.frostOrder_eq (s : State) : s.frostOrder = (zoneIds.filterMap s.urgent).insertionSort fun a b => a.notAfter b := by
  unfold State.frostOrder List.insertionSort
  congr 1
  funext a l
  exact a.insert_eq l

theorem State.urgent_iff (s : State) (z : ZoneId) (u : Urgent) :
    s.urgent z = some u ↔ u.zone = z ∧ s.mayProtect z u.programme ∧ u.slack = (s.zone z).slack u.programme := by
  unfold State.urgent State.mayProtect
  dsimp only
  cases hp : (s.zone z).programme with
  | none => simp
  | some x =>
    rcases u with ⟨y, v, k⟩
    simp only [Option.map_some, Option.ite_none_right_eq_some, Option.some.injEq, Urgent.mk.injEq, Bool.and_eq_true, decide_eq_true_eq,
      Option.isNone_iff_eq_none]
    constructor
    · rintro ⟨⟨⟨ha, hv⟩, hl⟩, rfl, rfl, rfl⟩
      exact ⟨rfl, ⟨ha, hv, hl, rfl⟩, rfl⟩
    · rintro ⟨rfl, ⟨ha, hv, hl, rfl⟩, rfl⟩
      exact ⟨⟨⟨ha, hv⟩, hl⟩, rfl, rfl, rfl⟩

/-- The zones that a frost selection goes through are those that it may take (R161). -/
theorem State.mem_frostOrder (s : State) (u : Urgent) :
    u ∈ s.frostOrder ↔ s.mayProtect u.zone u.programme ∧ u.slack = (s.zone u.zone).slack u.programme := by
  have hmem : u ∈ s.frostOrder ↔ u ∈ zoneIds.filterMap s.urgent := by
    rw [State.frostOrder_eq]
    exact (List.perm_insertionSort _ _).mem_iff
  rw [hmem, List.mem_filterMap]
  constructor
  · rintro ⟨z, -, hz⟩
    obtain ⟨rfl, hu⟩ := (s.urgent_iff z u).mp hz
    exact hu
  · exact fun hu => ⟨u.zone, List.mem_finRange u.zone, (s.urgent_iff u.zone u).mpr ⟨rfl, hu⟩⟩

theorem State.frostOrder_sorted (s : State) : s.frostOrder.Pairwise fun a b => a.notAfter b = true := by
  have := Urgent.notAfter_total
  have := Urgent.notAfter_trans
  rw [State.frostOrder_eq]
  exact List.pairwise_insertionSort _ _

/-- Two zones that frost selection goes through and that are not after each other are one (R161). -/
theorem State.frostOrder_antisymm {s : State} {a b : Urgent} (ha : a ∈ s.frostOrder) (hb : b ∈ s.frostOrder) (hab : a.notAfter b = true)
    (hba : b.notAfter a = true) : a = b := by
  obtain ⟨⟨-, -, -, hpa⟩, hsa⟩ := (s.mem_frostOrder a).mp ha
  obtain ⟨⟨-, -, -, hpb⟩, hsb⟩ := (s.mem_frostOrder b).mp hb
  have hzone : a.zone = b.zone := by
    simp only [Urgent.notAfter_iff, Fin.le_def] at hab hba
    exact Fin.ext (by omega)
  rcases a with ⟨z, x, k⟩
  rcases b with ⟨y, v, l⟩
  dsimp only at *
  subst hzone
  obtain rfl : x = v := Option.some.inj (hpa.symm.trans hpb)
  rw [hsa, hsb]

/-- Two functions that differ at one zone, which the second leaves out. -/
theorem filterMap_zoneIds_cons {f g : ZoneId → Option Urgent} {z : ZoneId} {u : Urgent} (hf : f z = some u) (hg : g z = none)
    (hother : ∀ y, y ≠ z → g y = f y) : (zoneIds.filterMap f).Perm (u :: zoneIds.filterMap g) := by
  obtain ⟨as, bs, hsplit⟩ := List.append_of_mem (List.mem_finRange z)
  have hzones : zoneIds = as ++ z :: bs := hsplit
  have hnodup : (as ++ z :: bs).Nodup := hsplit ▸ List.nodup_finRange 32
  obtain ⟨-, hbs, hdisjoint⟩ := List.nodup_append'.mp hnodup
  have hleft : as.filterMap g = as.filterMap f := List.filterMap_congr fun y hy => hother y fun k => hdisjoint hy (by simp [k])
  have hright : bs.filterMap g = bs.filterMap f := List.filterMap_congr fun y hy => hother y fun k => (List.nodup_cons.mp hbs).1 (k ▸ hy)
  rw [hzones, List.filterMap_append, List.filterMap_append, List.filterMap_cons_some hf, List.filterMap_cons_none hg, hleft, hright]
  exact List.perm_middle

/-- Where the first zone of the order drops out of it and the others stay as they were, the rest of the order is the order (R161). -/
theorem State.frostOrder_next {s t : State} {z : ZoneId} {u : Urgent} (hu : s.urgent z = some u) (ht : t.urgent z = none)
    (hother : ∀ y, y ≠ z → t.urgent y = s.urgent y) (hfirst : ∀ v ∈ s.frostOrder, u.notAfter v = true) : s.frostOrder = u :: t.frostOrder := by
  have hperm : s.frostOrder.Perm (u :: t.frostOrder) := by
    rw [State.frostOrder_eq, State.frostOrder_eq]
    exact (List.perm_insertionSort _ _).trans
      ((filterMap_zoneIds_cons hu ht hother).trans ((List.perm_insertionSort _ _).symm.cons u))
  refine hperm.eq_of_pairwise (le := fun a b => a.notAfter b = true)
    (fun a b ha hb => State.frostOrder_antisymm ha (hperm.symm.subset hb)) s.frostOrder_sorted ?_
  exact List.pairwise_cons.mpr ⟨fun v hv => hfirst v (hperm.symm.subset (List.mem_cons_of_mem u hv)), t.frostOrder_sorted⟩

/-! ### The selection by its first turn -/

section
variable {s : State} {z : ZoneId} {x : Programme}

theorem State.selectOnce_frost (hregime : s.engine.regime = .frost) (hrun : s.engine.runState = .running) : s.selectOnce = s.frostSelect := by
  unfold State.selectOnce State.selectTurns
  rw [if_pos hrun, hregime]

theorem State.frostSelect_none (h : ∀ z x, ¬s.mayProtect z x) : s.frostSelect = s := by
  have hempty : s.frostOrder = [] := List.eq_nil_iff_forall_not_mem.mpr fun u hu => h _ _ ((s.mem_frostOrder u).mp hu).1
  unfold State.frostSelect
  rw [hempty]
  rfl

/-- The beginning of a frost visit leaves its own channel not SHUT, and each other zone as it was, or shed (R87, R162). -/
theorem State.frostVisit_zones (h : s.mayProtect z x) :
    ((s.frostVisit z x).zone z).valve ≠ .shut ∧ ∀ y, y ≠ z → (s.zone y).ShedFrom ((s.frostVisit z x).zone y) := by
  obtain ⟨-, hv, hl, hp⟩ := h
  have hself := s.zone_updZone_same z fun y => { y with frostVisit := true, dwellRemaining := some x.dwell }
  obtain ⟨hopened, hrest⟩ := State.openChannel_zones (x := x) .frost ((congrArg Zone.programme hself).trans hp)
    ((congrArg Zone.valve hself).trans hv) ((congrArg Zone.lockout hself).trans hl)
  refine ⟨hopened, fun y hy => ?_⟩
  have hother := hrest y hy
  rwa [State.zone_updZone_other _ _ hy] at hother

theorem State.urgent_notShut (h : (s.zone z).valve ≠ .shut) : s.urgent z = none := by
  unfold State.urgent
  simp [h]

/-- A shed walk leaves a zone where it was for the frost selection: outside it where it closes the zone, and as it was otherwise. -/
theorem State.urgent_shedFrom {t : State} (h : (s.zone z).ShedFrom (t.zone z)) : t.urgent z = s.urgent z := by
  rcases h with hsame | ⟨hopen, hclosing, -⟩
  · unfold State.urgent
    rw [hsame]
  · have hs : (s.zone z).valve ≠ .shut := fun k => by simp [Zone.isOpen, k] at hopen
    have ht : (t.zone z).valve ≠ .shut := by rw [hclosing]; exact fun k => by cases k
    rw [State.urgent_notShut hs, State.urgent_notShut ht]

/-- The selection by the zone of least slack, then rank, then number (R161). -/
theorem State.frostSelect_first (hflight : s.supplyInFlight = []) (h : s.mayProtect z x)
    (hfirst : ∀ v ∈ s.frostOrder, Urgent.notAfter ⟨z, x, (s.zone z).slack x⟩ v = true) :
    s.frostSelect = if s.fits x = true then (s.frostVisit z x).frostSelect else s := by
  have hu : s.urgent z = some ⟨z, x, (s.zone z).slack x⟩ := (s.urgent_iff z _).mpr ⟨rfl, h, rfl⟩
  obtain ⟨hopened, hrest⟩ := State.frostVisit_zones h
  have horder := State.frostOrder_next hu (State.urgent_notShut hopened) (fun y hy => State.urgent_shedFrom (hrest y hy)) hfirst
  have hstep : s.frostStep ⟨z, x, (s.zone z).slack x⟩ = if s.fits x = true then ⟨s.frostVisit z x, false⟩ else ⟨s, true⟩ :=
    State.ifFits_none hflight x _ _
  unfold State.frostSelect
  rw [horder, Progress.through_cons, hstep]
  split <;> rfl

/-- The order of the statement, for the zones that the selection goes through (R161). -/
theorem State.notAfter_of_protectsBefore (hfirst : ∀ y v, y ≠ z → s.mayProtect y v → s.protectsBefore z x y v) (h : s.mayProtect z x) (u : Urgent)
    (hu : u ∈ s.frostOrder) : Urgent.notAfter ⟨z, x, (s.zone z).slack x⟩ u = true := by
  obtain ⟨hmay, hslack⟩ := (s.mem_frostOrder u).mp hu
  rw [Urgent.notAfter_iff]
  dsimp only
  by_cases hy : u.zone = z
  · obtain ⟨-, -, -, hp⟩ := h
    obtain ⟨-, -, -, hpu⟩ := hmay
    rw [hy, hp] at hpu
    rw [hslack, hy, ← Option.some.inj hpu]
    exact .inr ⟨rfl, .inr ⟨rfl, le_rfl⟩⟩
  · have hbefore := hfirst u.zone u.programme hy hmay
    rw [hslack]
    exact hbefore.imp id fun k => ⟨k.1, k.2.imp id fun k => ⟨k.1, k.2.le⟩⟩

end

end Sys2Proof.Machine

open Sys2Proof Sys2Proof.Machine

/-- Settles O52: the first turn by `State.frostSelect_first`, after which the rest of the order is the order of the state it comes to (`State.frostOrder_next`). -/
theorem frostSelectionServesTheLeastSlack : Obligations.FrostSelectionServesTheLeastSlack := by
  intro s hregime hrun hflight
  rw [State.selectOnce_frost hregime hrun]
  refine ⟨State.frostSelect_none, fun z x h hfirst => ?_⟩
  rw [State.frostSelect_first hflight h (State.notAfter_of_protectsBefore hfirst h)]
  refine ⟨fun hroom => if_neg fun k => hroom ((s.fits_iff x).mp k), fun hroom => ?_⟩
  have hengine : (s.frostVisit z x).engine = s.engine := (State.openChannel_quiet _ z .frost).engine
  rw [if_pos ((s.fits_iff x).mpr hroom), ← State.selectOnce_frost (by rw [hengine, hregime]) (by rw [hengine, hrun])]
  rfl

end

section
/-! DECLARE-SUPPLY, SET-FALLBACK and the validity expiry (R79 to R84, R87). -/

namespace Sys2Proof.Machine

/-! ### The checks -/

/-- One chain of checks after another is the chain of both (R12). -/
theorem checkedAs_andThen {α β : Type} {strict : Bool} {k : Nat} {es fs : List (Nat × Nat × Nat)} {w : α} {v : β} {f : α → Checked β}
    (h : f w = checkedAs strict (k + es.length) fs v) : (checkedAs strict k es w).andThen f = checkedAs strict k (es ++ fs) v := by
  unfold checkedAs at h ⊢
  rw [List.findIdx?_append]
  cases es.findIdx? outOfRange with
  | none =>
    dsimp only
    rw [Checked.andThen_unmarked, h]
    cases fs.findIdx? outOfRange with
    | none => rfl
    | some j => simp [Nat.add_assoc, Nat.add_comm j]
  | some i =>
    cases strict with
    | true => rfl
    | false =>
      have hpassed : f w = .ok v (fs.findIdx? outOfRange).isSome := by
        rw [h]
        cases fs.findIdx? outOfRange <;> rfl
      simp [Checked.andThen, hpassed]

/-- The five flows with the ends of their ranges (R79, R83). -/
def flowFields (f : FlowFields) : List (Nat × Nat × Nat) := f.values.map fun v => (v, 0, 20000)

/-- The five flows brought into range (R79, R83). -/
def clampedFlows (f : FlowFields) : Flows := ⟨min 20000 f.total, #v[min 20000 f.h0, min 20000 f.h1, min 20000 f.h2, min 20000 f.h3]⟩

theorem checkFlows_eq (strict : Bool) (f : FlowFields) : checkFlows strict f = checkedAs strict 0 (flowFields f) (clampedFlows f) := by
  have hrange : ∀ v, min 20000 v = intoRange (v, 0, 20000) := fun v => by simp [intoRange]
  unfold clampedFlows
  simp only [hrange]
  exact checkNat_andThen (by decide) (checkNat_andThen (by decide) (checkNat_andThen (by decide) (checkNat_andThen (by decide)
    (checkNat_andThen (by decide) rfl))))

theorem checkDeclaration_eq (strict : Bool) (f : FlowFields) (v : Nat) :
    checkDeclaration strict f v = checkedAs strict 0 (flowFields f ++ [(v, 30, 3600)]) (clampedFlows f, max 30 (min 3600 v)) := by
  have hrange : max 30 (min 3600 v) = intoRange (v, 30, 3600) := rfl
  unfold checkDeclaration
  rw [checkFlows_eq, hrange]
  exact checkedAs_andThen (checkNat_andThen (by decide) rfl)

/-- The first flow above 20,000 (R83). -/
theorem flowFields_outside (f : FlowFields) : (flowFields f).findIdx? outOfRange = f.values.findIdx? fun x => decide (20000 < x) := by
  have hout : (outOfRange ∘ fun v => (v, 0, 20000)) = fun x : Nat => decide (20000 < x) := by
    funext v
    simp [outOfRange]
  rw [flowFields, List.findIdx?_map, hout]

/-- The first value out of its range by its position in a numbered list. -/
theorem findIdx?_eq_findSome? (es : List (Nat × Nat × Nat)) (k : Nat) :
    (es.zipIdx k).findSome? (fun e => if outOfRange e.1 = true then some e.2 else none) = (es.findIdx? outOfRange).map fun i => k + i := by
  induction es generalizing k with
  | nil => rfl
  | cons e rest ih =>
    rw [List.zipIdx_cons, List.findSome?_cons, List.findIdx?_cons, ih]
    cases outOfRange e
    · simp [Function.comp_def, Nat.add_comm 1, Nat.add_assoc]
    · rfl

/-- The first field of a declaration out of its range, in the statement's form (R79). -/
theorem declarationFields_outside (f : FlowFields) (v : Nat) :
    (flowFields f ++ [(v, 30, 3600)]).findIdx? outOfRange =
      (f.values ++ [v]).zipIdx.findSome? fun e => if (e.2 < 5 ∧ 20000 < e.1) ∨ (e.2 = 5 ∧ (e.1 < 30 ∨ 3600 < e.1)) then some e.2 else none := by
  have hnumbered := findIdx?_eq_findSome? (flowFields f ++ [(v, 30, 3600)]) 0
  simp only [Nat.zero_add, Option.map_id'] at hnumbered
  rw [← hnumbered]
  simp [flowFields, FlowFields.values, outOfRange, List.findSome?_cons]

/-! ### The report of a ceiling change -/

section
variable {s : State} {p : Port} {d : Directive}

theorem State.answer_clearsReport {u : State} (h : u.ceilingReportOwed = false) (code : ReplyCode) (clamped : Bool) (payload : List Byte) :
    { State.answer { u with ceilingReportOwed := true } p d code clamped payload with ceilingReportOwed := false } = u.answer p d code clamped payload := by
  cases u
  cases h
  rfl

/-- After a directive the report of a ceiling change, where there was one, is taken after its reply (R84; log entry 30). -/
theorem State.ceilingChange_answered (h : s.ceilingReportOwed = false) (before : Flows) (port : Option Port) (clamped : Bool) :
    ((s.ceilingChange before port).answer p d .done clamped []).reportCeilings =
      if s.supply.inForce = before then s.answer p d .done clamped []
      else ((s.shedWalk port).answer p d .done clamped []).retriage.select := by
  unfold State.ceilingChange
  split
  · exact State.reportCeilings_none h
  · have hwalk : (s.shedWalk port).ceilingReportOwed = false := (s.shedWalk_quiet port).ceilingReportOwed.trans h
    exact (if_pos rfl).trans (congrArg (fun t => (State.retriage t).select) (State.answer_clearsReport hwalk .done clamped []))

/-- The same for a change that no directive makes (R84). -/
theorem State.ceilingChange_reported (h : s.ceilingReportOwed = false) (before : Flows) (port : Option Port) :
    (s.ceilingChange before port).reportCeilings = if s.supply.inForce = before then s else (s.shedWalk port).retriage.select := by
  unfold State.ceilingChange
  split
  · exact State.reportCeilings_none h
  · have hwalk : (s.shedWalk port).ceilingReportOwed = false := (s.shedWalk_quiet port).ceilingReportOwed.trans h
    have hclear : { s.shedWalk port with ceilingReportOwed := false } = s.shedWalk port := by rw [← hwalk]
    exact (if_pos rfl).trans (congrArg (fun t => (State.retriage t).select) hclear)

/-! ### Supply events sent into a selection -/

/-- The mailbox holds the directive, waiting for its turn or EXECUTING (R87). -/
theorem State.carries_iff (hr : s.resetLow = false) :
    s.carries p d = true ↔ (s.port p).mailbox = .pending d ∨ ∃ broken, (s.port p).mailbox = .executing d broken := by
  unfold State.carries
  rw [hr, Bool.not_false, Bool.true_and]
  cases (s.port p).mailbox <;> simp

/-- A supply directive to be taken inside a selection is sent on its way while its mailbox holds it (R87, R124; log entry 10). -/
theorem State.sendInto_carried (hr : s.resetLow = false) (ev : SupplyEvent) (n : Nat) :
    (((s.port p).mailbox = .pending d ∨ ∃ broken, (s.port p).mailbox = .executing d broken) →
      s.sendInto ev n (s.carries p d) = { s with supplyInFlight := s.supplyInFlight ++ [⟨ev, n⟩] }) ∧
    ((s.port p).mailbox ≠ .pending d → (∀ broken, (s.port p).mailbox ≠ .executing d broken) → s.sendInto ev n (s.carries p d) = s) := by
  refine ⟨fun h => if_pos ((State.carries_iff hr).mpr h), fun hpending hexecuting => if_neg fun k => ?_⟩
  exact ((State.carries_iff hr).mp k).elim hpending fun ⟨broken, hb⟩ => hexecuting broken hb

end

end Sys2Proof.Machine

open Sys2Proof Sys2Proof.Machine

/-- Settles O36: the check by `checkDeclaration_eq`, the completion by `State.complete_done`, what follows it by `State.ceilingChange_answered`. -/
theorem declarationReplacesTheCeilings : Obligations.DeclarationReplacesTheCeilings := by
  refine ⟨fun s p f v n hr => ?_, fun s p f v h howed outside ho => ?_⟩
  · obtain ⟨hsent, hstays⟩ := s.sendInto_carried (p := p) (d := .declareSupply f v) hr (.declare p f v) n
    exact ⟨fun k => congrArg Host.Outcome.next (hsent k), fun k l => congrArg Host.Outcome.next (hstays k l)⟩
  · rw [← declarationFields_outside] at ho
    have hchecked : s.runDeclare p f v = _ := congrArg (fun c => Checked.orRange c s _) (checkDeclaration_eq (s.strict p) f v)
    refine ⟨fun i hs hi => ?_, fun hp c hc t ht => ?_⟩
    · rw [show s.strict p = true from hs, checkedAs_strict_outside (ho.symm.trans hi), Nat.zero_add] at hchecked
      have hrefused : s.takeSupplyEvent (.declare p f v) = s.answer p (.declareSupply f v) .range false [BitVec.ofNat 8 i] :=
        State.complete_named (run := fun u => u.runDeclare p f v) h hchecked (by decide)
      exact congrArg Host.Outcome.next ((congrArg State.reportCeilings hrefused).trans (State.reportCeilings_none howed))
    · rw [checkedAs_passes (by rwa [← ho]), ← ho] at hchecked
      have hchange : s.declare p (clampedFlows f) (max 30 (min 3600 v)) = t.ceilingChange s.supply.inForce (some p) := by
        rw [ht, hc]
        rfl
      have htaken : s.takeSupplyEvent (.declare p f v) =
          (t.ceilingChange s.supply.inForce (some p)).answer p (.declareSupply f v) .done outside.isSome [] := by
        rw [← hchange]
        exact State.complete_done (run := fun u => u.runDeclare p f v) h hchecked (State.declare_inHand p _ _ h.inHand)
      obtain ⟨hforce, hnone⟩ : t.supply.inForce = c ∧ t.ceilingReportOwed = false := by
        rw [ht, State.post_supply, State.post_eq]
        exact ⟨rfl, howed⟩
      have hreported := State.ceilingChange_answered (p := p) (d := .declareSupply f v) hnone s.supply.inForce (some p) outside.isSome
      rw [hforce, ← htaken] at hreported
      exact congrArg Host.Outcome.next hreported

end

section
/-! SET-FALLBACK and the validity expiry, on the checks and reports of the declaration (R81 to R83). -/

namespace Sys2Proof.Machine

section
variable {s : State} {p : Port} {f : FlowFields}

/-- In strict mode the first fallback above 20,000 decides (R83). -/
theorem State.runSetFallback_refused {i : Nat} (hs : (s.port p).strict = true) (hi : f.values.findIdx? (fun x => decide (20000 < x)) = some i) :
    s.runSetFallback p f = (s, .naming .range i) := by
  rw [← flowFields_outside] at hi
  have hchecked : s.runSetFallback p f = _ := congrArg (fun c => Checked.orRange c s _) (checkFlows_eq (s.strict p) f)
  rw [show s.strict p = true from hs, checkedAs_strict_outside hi, Nat.zero_add] at hchecked
  exact hchecked

theorem State.runSetFallback_passes (h : (s.port p).strict = false ∨ ∀ x ∈ f.values, x ≤ 20000) :
    s.runSetFallback p f = (s.replaceFallback p (clampedFlows f), .done (f.values.any fun x => decide (20000 < x))) := by
  have hnone : s.strict p = false ∨ (flowFields f).findIdx? outOfRange = none := h.imp id fun hall => by
    rw [flowFields_outside, List.findIdx?_eq_none_iff]
    exact fun x hx => decide_eq_false (Nat.not_lt.mpr (hall x hx))
  have hchecked : s.runSetFallback p f = _ := congrArg (fun c => Checked.orRange c s _) (checkFlows_eq (s.strict p) f)
  rw [checkedAs_passes hnone, flowFields_outside, List.findIdx?_isSome] at hchecked
  exact hchecked

/-- The completion of a SET-FALLBACK that has passed its checks (R83). -/
theorem State.setFallback_taken (h : s.completing p (.setFallback f)) (hp : (s.port p).strict = false ∨ ∀ x ∈ f.values, x ≤ 20000) :
    s.takeSupplyEvent (.fallback p f) =
      (s.replaceFallback p (clampedFlows f)).answer p (.setFallback f) .done (f.values.any fun x => decide (20000 < x)) [] :=
  State.complete_done (run := fun u => u.runSetFallback p f) h (State.runSetFallback_passes hp) (State.replaceFallback_inHand p _ h.inHand)

/-- An expiry that finds no validity timer run out (R81; log entry 1). -/
theorem State.lapse_notDue (h : ¬(s.supply.status = .declared ∧ s.supply.validity = some 0)) : s.lapse = s := if_neg h

theorem State.exec_validityTimerExpiry (hr : s.resetLow = false) (k : Taking) :
    exec (.validityTimerExpiry k) s = .next
      (match k with
      | .atOnce => s.lapse.reportCeilings
      | .inSelection n => s.sendInto .lapse n (decide (s.supply.status = .declared ∧ s.supply.validity = some 0))) := by
  have hlive : ∀ g : State → State, s.live g = g s := fun g => if_neg (by simp [hr])
  exact congrArg Host.Outcome.next (hlive _)

end

end Sys2Proof.Machine

open Sys2Proof Sys2Proof.Machine

/-- Settles O37: the completion by `State.setFallback_taken`, the expiry by `State.lapse`, what follows a ceiling change by `State.ceilingChange_answered` and
`State.ceilingChange_reported`. -/
theorem fallbacksAreReplacedAndLapsedTo : Obligations.FallbacksAreReplacedAndLapsedTo := by
  refine ⟨fun s p f n hr => ?_, fun s p f h howed => ⟨fun i hs hi => ?_, ?_⟩, fun s hr howed => ⟨fun hnot k => ?_, fun hstatus hspent => ⟨fun n => ?_, ?_⟩⟩⟩
  · obtain ⟨hsent, hstays⟩ := s.sendInto_carried (p := p) (d := .setFallback f) hr (.fallback p f) n
    exact ⟨fun k => congrArg Host.Outcome.next (hsent k), fun k l => congrArg Host.Outcome.next (hstays k l)⟩
  · have hrefused : s.takeSupplyEvent (.fallback p f) = s.answer p (.setFallback f) .range false [BitVec.ofNat 8 i] :=
      State.complete_named (run := fun u => u.runSetFallback p f) h (State.runSetFallback_refused hs hi) (by decide)
    exact congrArg Host.Outcome.next ((congrArg State.reportCeilings hrefused).trans (State.reportCeilings_none howed))
  · rintro hp c rfl clamped rfl
    have htaken := State.setFallback_taken h hp
    refine ⟨fun hstatus => ?_, fun hstatus t ht => ?_⟩
    · have hreplaced : s.replaceFallback p (clampedFlows f) = { s with supply := { s.supply with fallback := clampedFlows f } } := if_pos hstatus
      rw [hreplaced] at htaken
      exact congrArg Host.Outcome.next ((congrArg State.reportCeilings htaken).trans (State.reportCeilings_none howed))
    · have hreplaced : s.replaceFallback p (clampedFlows f) = t.ceilingChange s.supply.inForce (some p) := by
        rw [ht]
        exact if_neg hstatus
      obtain ⟨hforce, hnone⟩ : t.supply.inForce = clampedFlows f ∧ t.ceilingReportOwed = false := by
        rw [ht]
        exact ⟨rfl, howed⟩
      have hreported := State.ceilingChange_answered (p := p) (d := .setFallback f) hnone s.supply.inForce (some p)
        (f.values.any fun x => decide (20000 < x))
      rw [hforce, ← hreplaced, ← htaken] at hreported
      exact congrArg Host.Outcome.next hreported
  · rw [State.exec_validityTimerExpiry hr]
    cases k with
    | atOnce => exact congrArg Host.Outcome.next ((congrArg State.reportCeilings (State.lapse_notDue hnot)).trans (State.reportCeilings_none howed))
    | inSelection n => exact congrArg Host.Outcome.next (if_neg (by simpa using hnot))
  · rw [State.exec_validityTimerExpiry hr]
    exact congrArg Host.Outcome.next (if_pos (decide_eq_true ⟨hstatus, hspent⟩))
  · intro t ht
    have hlapse : s.lapse = t.ceilingChange s.supply.inForce none := by
      rw [ht]
      exact if_pos ⟨hstatus, hspent⟩
    obtain ⟨hforce, hnone⟩ : t.supply.inForce = s.supply.fallback ∧ t.ceilingReportOwed = false := by
      rw [ht, State.post_supply, State.post_eq]
      exact ⟨rfl, howed⟩
    have hreported := State.ceilingChange_reported hnone s.supply.inForce none
    rw [hforce, ← hlapse] at hreported
    rw [State.exec_validityTimerExpiry hr]
    exact congrArg Host.Outcome.next hreported

end

section
/-! The effective quotas as shares of the allotment, and what every operation of an event makes of their sum (R104, R105). -/

namespace Sys2Proof.Machine

/-! ### The shares -/

/-- Where the programmed quotas exceed the allotment, the rounded-down shares sum to no more than it (R104). -/
theorem sumOver_shares_le {α : Type} (l : List α) (q : α → Nat) {a : Nat} (h : a < sumOver l q) : sumOver l (fun z => q z * a / sumOver l q) ≤ a := by
  obtain ⟨hdown, -⟩ := sumOver_div_bounds l (fun z => q z * a) (Nat.zero_lt_of_lt h)
  have htotal : sumOver l (fun z => q z * a) = a * sumOver l q := (List.sum_map_mul_right ..).trans (Nat.mul_comm _ _)
  rw [htotal] at hdown
  exact Nat.le_of_mul_le_mul_right hdown (Nat.zero_lt_of_lt h)

theorem State.sumOver_quotaShare (s : State) : sumOver zoneIds s.quotaShare = sumOver (zoneIds.filter s.inQuotaSet) s.quotaShare := by
  have hall : zoneIds = zoneIds.filter fun _ => true := by simp
  conv_lhs => rw [hall]
  rw [sumOver_filter_zoneIds, sumOver_filter_zoneIds]
  refine Finset.sum_congr rfl fun z _ => ?_
  cases hin : s.inQuotaSet z
  · simp [State.quotaShare, hin]
  · rfl

/-- The shares of all zones sum to no more than the allotment (R104). -/
theorem State.sumOver_quotaShare_le {s : State} {a : Nat} (h : s.clock.allotment = some a) : sumOver zoneIds s.quotaShare ≤ a := by
  rw [State.sumOver_quotaShare]
  have hshare : ∀ z ∈ zoneIds.filter s.inQuotaSet, s.quotaShare z =
      if a < s.quotaSum then (s.zone z).programmedQuota * a / s.quotaSum else (s.zone z).programmedQuota := fun z hz => by
    unfold State.quotaShare
    rw [if_pos (List.mem_filter.mp hz).2, h]
  rw [sumOver_congr hshare]
  split
  · rename_i hscaled
    exact sumOver_shares_le _ _ hscaled
  · rename_i hfits
    exact Nat.not_lt.mp hfits

/-- A recomputation brings the law about, whatever held before it (R104). -/
theorem State.recomputeQuotas_quotasWithin (s : State) : s.recomputeQuotas.quotasWithin := fun a h => by
  simp only [State.recomputeQuotas_zone]
  exact State.sumOver_quotaShare_le (s := s) h

theorem State.inQuotaSet_eq (s : State) (z : ZoneId) :
    s.inQuotaSet z = (decide (z ∈ s.ring) && ((s.zone z).programme.map (·.enabled)).getD false) := by
  unfold State.inQuotaSet
  cases (s.zone z).programme <;> simp [Bool.and_comm]

/-! ### What leaves the effective quotas as they stand -/

namespace State.quotasWithin
variable {s t : State}

/-- The law reads the allotment and the effective quotas alone. -/
theorem of_same (h : s.quotasWithin) (ha : t.clock.allotment = s.clock.allotment)
    (hq : ∀ z, (t.zone z).effectiveQuota = (s.zone z).effectiveQuota) : t.quotasWithin := fun a hset => by
  simp only [hq]
  exact h a (ha ▸ hset)

theorem quiet (h : s.quotasWithin) (q : Quiet s t) : t.quotasWithin := h.of_same (by rw [q.clock]) fun z => (q.zone z).effectiveQuota

theorem judged (h : s.quotasWithin) (j : Judged s t) : t.quotasWithin := h.of_same (by rw [j.rest]) fun z => by rw [j.zone z]

theorem portsOnly (h : s.quotasWithin) (k : PortsOnly s t) : t.quotasWithin := by
  rw [k]
  exact h

theorem updZone (h : s.quotasWithin) {z : ZoneId} {f : Zone → Zone} (hf : (f (s.zone z)).effectiveQuota = (s.zone z).effectiveQuota) :
    (s.updZone z f).quotasWithin := h.of_same rfl fun z' => by
  rw [State.zone_updZone]
  split
  · subst_vars; exact hf
  · rfl

theorem mapZones (h : s.quotasWithin) {f : ZoneId → Zone → Zone} (hf : ∀ z x, (f z x).effectiveQuota = x.effectiveQuota) :
    (s.mapZones f).quotasWithin := h.of_same rfl fun z => by
  rw [State.zone_mapZones]
  exact hf z _

theorem post (h : s.quotasWithin) {n : NoticeKind} {z : Option ZoneId} {i : Option HeaderId} {p : Option Port} {v : Option Int} :
    (s.post n z i p v).quotasWithin := h.quiet (s.post_quiet n z i p v)

theorem close (h : s.quotasWithin) (z : ZoneId) (e : Ending) : (s.closeChannel z e).quotasWithin := h.quiet (s.closeChannel_quiet z e)

theorem retriage (h : s.quotasWithin) : s.retriage.quotasWithin := h.judged s.retriage_judged

theorem complete (h : s.quotasWithin) {p : Port} {d : Directive} {run : State → State × Answer} (hrun : (run s).1.quotasWithin) :
    (s.complete p d run).quotasWithin := State.complete_keeps (fun _ _ _ ht => ht) h hrun

theorem pruneSuspended (h : s.quotasWithin) (sel : ZoneId → Bool) : (s.pruneSuspended sel).quotasWithin := by
  have hzones : (s.mapZones fun z x => if decide (z ∈ s.planner.suspended) && sel z then x.noVisit else x).quotasWithin :=
    h.mapZones fun z x => by split <;> rfl
  exact hzones

/-! ### Supply events and selections -/

theorem served (h : s.quotasWithin) (k : Served s t) : t.quotasWithin := by
  rw [k]
  exact h

theorem ceilingChange (h : s.quotasWithin) (before : Flows) (port : Option Port) : (s.ceilingChange before port).quotasWithin :=
  State.ceilingChange_keeps (fun q h => h.quiet q) (fun k h => h.served k) h

theorem takeAtPoint (h : s.quotasWithin) (ev : SupplyEvent) : (s.takeAtPoint ev).quotasWithin :=
  State.takeAtPoint_keeps (fun q h => h.quiet q) (fun k h => h.served k) ev h

theorem lapse (h : s.quotasWithin) : s.lapse.quotasWithin := h.takeAtPoint .lapse

theorem takeUp (h : s.quotasWithin) : s.takeUp.quotasWithin := by
  rcases s.takeUp_cases with hnone | ⟨p, d, -, -, htaken⟩
  · rw [hnone]; exact h
  · rw [htaken]; exact h

theorem runDeclare (h : s.quotasWithin) (p : Port) (flows : FlowFields) (validity : Nat) : (s.runDeclare p flows validity).1.quotasWithin := by
  refine Checked.orRange_keeps _ h fun v _ => ?_
  have hset : State.quotasWithin { s with supply := { s.supply with inForce := v.1, validity := some v.2, status := .declared } } := h
  exact hset.post.ceilingChange _ _

theorem runSetFallback (h : s.quotasWithin) (p : Port) (flows : FlowFields) : (s.runSetFallback p flows).1.quotasWithin := by
  refine Checked.orRange_keeps _ h fun v _ => ?_
  have hset : State.quotasWithin { s with supply := { s.supply with fallback := v, inForce := v } } := h
  change (s.replaceFallback p v).quotasWithin
  unfold State.replaceFallback
  split
  · exact h
  · exact hset.ceilingChange _ _

theorem sendInto (h : s.quotasWithin) (ev : SupplyEvent) (n : Nat) (due : Bool) : (s.sendInto ev n due).quotasWithin := by
  unfold State.sendInto
  split <;> exact h

end State.quotasWithin

/-- No operation of a selection changes an effective quota or the allotment (R105, R124). -/
theorem keptInSelection_quotasWithin : KeptInSelection State.quotasWithin where
  quiet := fun _ _ q h => h.quiet q
  engine := fun _ _ _ h => h
  triage := fun s h => h.judged s.triage_judged
  inFlight := fun _ _ h => h
  owed := fun _ _ h => h
  event := fun _ ev h => h.takeAtPoint ev

namespace State.quotasWithin
variable {s : State}

theorem select (h : s.quotasWithin) : s.select.quotasWithin := keptInSelection_quotasWithin.select h

theorem pop (h : s.quotasWithin) (port : Option Port) : (s.pop port).quotasWithin := keptInSelection_quotasWithin.pop port h

theorem selectIf (h : s.quotasWithin) (due : Bool) : (s.selectIf due).quotasWithin := by
  cases due
  · exact h
  · exact h.select

theorem reportCeilings (h : s.quotasWithin) : s.reportCeilings.quotasWithin := by
  have hclear : State.quotasWithin { s with ceilingReportOwed := false } := h
  unfold State.reportCeilings
  split
  · exact hclear.retriage.select
  · exact h

/-! ### Edits and SHUT reports -/

theorem applyEdit (h : s.quotasWithin) (z : ZoneId) (e : PendingEdit) : (s.applyEdit z e).quotasWithin := by
  have happlied : ((s.zone z).applied e).effectiveQuota = (s.zone z).effectiveQuota := by cases e <;> rfl
  refine h.of_same (by rw [State.applyEdit_eq]) fun z' => ?_
  rw [State.applyEdit_zone]
  split
  · subst_vars
    split <;> exact happlied
  · rfl

/-- An application keeps the law: it leaves every effective quota, or has all of them recomputed (R19). -/
theorem applyNow (h : s.quotasWithin) (z : ZoneId) (e : PendingEdit) : (s.applyNow z e).quotasWithin := by
  refine State.quotasWithin.judged ?_ (State.handOff_judged _ z (s.zone z))
  unfold State.handOffQuotas
  split
  · exact State.recomputeQuotas_quotasWithin _
  · exact h.applyEdit z e

theorem applyPending (h : s.quotasWithin) (z : ZoneId) : (s.applyPending z).quotasWithin := by
  unfold State.applyPending
  split
  · obtain ⟨hrest, -, -⟩ := State.landEdits_eq (s.applyNow z _) (s.zone z)
    rw [hrest]
    exact h.applyNow z _
  · exact h

theorem setLockout (h : s.quotasWithin) (z : ZoneId) (l : Lockout) : (s.setLockout z l).quotasWithin := by
  have hlocked : (s.updZone z fun x => { x with lockout := some l, lockedSinceOpen := true }).quotasWithin := h.updZone rfl
  unfold State.setLockout
  dsimp only
  split
  · exact hlocked.post
  · exact h

theorem finishEntry (h : s.quotasWithin) (z : ZoneId) (e : Ending) : (s.finishEntry z e).quotasWithin := by
  have hset : ∀ x : Engine, State.quotasWithin { s with engine := x } := fun _ => h
  unfold State.finishEntry
  split
  · dsimp only
    split
    · exact (hset _).post
    · exact hset _
  · exact h

theorem takeShut (h : s.quotasWithin) (z : ZoneId) (r : ShutReport) : (s.takeShut z r).quotasWithin := by
  unfold State.takeShut
  split
  · exact (h.quiet (s.endOpenVisit_quiet z .dropped)).updZone rfl
  · exact h.finishEntry z _
  · split
    · exact h.quiet (s.endFrostVisit_quiet z)
    · exact h
  · exact h

theorem shutReports (h : s.quotasWithin) (z : ZoneId) (r : ShutReport) : (s.shutReports z r).quotasWithin := by
  have hlowered : (s.lowerCommitted (s.zone z).opened).quotasWithin := by cases (s.zone z).opened <;> exact h
  have hsettled : (if r.direct && r.wetEnded then (s.lowerCommitted (s.zone z).opened).markSettling (s.zone z).openedHeader
      else s.lowerCommitted (s.zone z).opened).quotasWithin := by
    split
    · exact hlowered.quiet (State.markSettling_quiet _ _)
    · exact hlowered
  have hshut := ((hsettled.applyPending z).takeShut z r).quiet (State.startDryClock_quiet _ z (r.direct && r.wetEnded))
  refine State.quotasWithin.select ?_
  unfold State.triageAtShut
  split
  · exact hshut.retriage
  · exact hshut

theorem driveFault (h : s.quotasWithin) (z : ZoneId) : (s.driveFault z).quotasWithin := by
  have hshut : ((s.updZone z Zone.shut).leaveOrders z).quotasWithin := h.updZone (f := Zone.shut) rfl
  unfold State.driveFault
  dsimp only
  split
  · exact (hshut.setLockout z .driveFault).shutReports z _
  · exact h

theorem requestLockout (h : s.quotasWithin) (z : ZoneId) (l : Lockout) : (s.requestLockout z l).quotasWithin := by
  have hlocked := h.setLockout z l
  have hjudged : (if ((s.setLockout z l).zone z).frostMember then (s.setLockout z l).retriage else s.setLockout z l).quotasWithin := by
    split
    · exact hlocked.retriage
    · exact hlocked
  unfold State.requestLockout
  dsimp only
  split
  · split
    · exact hlocked.close z _
    · exact hlocked.close z _
    · exact hlocked
    · unfold State.lockoutWhileShut
      extract_lets t
      split
      · exact hjudged
      · exact hjudged.select
  · exact h

/-! ### Meters and the allotment -/

theorem testAllotment (h : s.quotasWithin) (port : Option Port) : (s.testAllotment port).quotasWithin := by
  have hmark : ∀ b, State.quotasWithin { s with planner := { s.planner with allotmentReached := b } } := fun _ => h
  unfold State.testAllotment
  split
  · split
    · exact h
    · exact (hmark true).post.quiet (State.closeVisits_quiet _ _ _)
  · exact hmark false

theorem reportProgress (h : s.quotasWithin) (r : Option (List ZoneId)) : (s.reportProgress r).quotasWithin := by
  cases r with
  | none => exact h
  | some zs =>
    refine State.quotasWithin.testAllotment (State.forZones_keeps _ (fun z t ht => ?_) zs s h) none
    split
    · exact ht.close z _
    · exact ht

theorem apportion (h : s.quotasWithin) (i : HeaderId) : (s.apportion i).quotasWithin := by
  refine h.of_same (by rw [State.apportion_eq]) fun z => ?_
  rw [State.apportion_zone]
  split
  · unfold Zone.credit
    split <;> rfl
  · rfl

theorem rawPulse (h : s.quotasWithin) (i : HeaderId) : (s.rawPulse i).quotasWithin := by
  have hset : ∀ f, (s.updMeter i f).quotasWithin := fun _ => h
  rw [State.rawPulse_eq]
  split
  · exact hset _
  · split
    · exact hset _
    · split
      · exact hset _
      · exact (hset _).post

theorem postFlow (h : s.quotasWithin) (i : HeaderId) (called : Option Direction) (only : Option ZoneId) (flow : Nat) :
    (s.postFlow i called only flow).quotasWithin := by
  cases called
  · exact h
  · exact h.post

theorem sendLockout (h : s.quotasWithin) (called : Option Direction) (only : Option ZoneId) (later : Bool) :
    (s.sendLockout called only later).quotasWithin := by
  unfold State.sendLockout
  split
  · split
    · exact h
    · exact h.requestLockout _ _
  · exact h

/-- An expiry of an interval, in whatever order its reports are taken (R59; log entry 9). -/
theorem expireInterval (h : s.quotasWithin) (i : HeaderId) (order : ExpiryOrder) : (s.expireInterval i order).quotasWithin := by
  have hcredit : ∀ f, ((s.apportion i).updMeter i f).quotasWithin := fun _ => h.apportion i
  have hbegin : ∀ t : State, t.quotasWithin → (t.beginInterval i).quotasWithin := fun _ ht => ht
  unfold State.expireInterval
  refine hbegin _ ?_
  cases order with
  | progressFirst => exact (((hcredit _).reportProgress _).postFlow _ _ _ _).sendLockout _ _ _
  | noticeFirst => exact (((hcredit _).postFlow _ _ _ _).reportProgress _).sendLockout _ _ _
  | lockoutFirst => exact (((hcredit _).postFlow _ _ _ _).sendLockout _ _ _).reportProgress _
  | lockoutLater => exact (((hcredit _).reportProgress _).postFlow _ _ _ _).sendLockout _ _ _
  | noticeFirstLockoutLater => exact (((hcredit _).postFlow _ _ _ _).reportProgress _).sendLockout _ _ _

theorem replaceMeter (h : s.quotasWithin) (i : HeaderId) (v : MeterSettings) : (s.replaceMeter i v).quotasWithin := (h.apportion i).reportProgress _

/-! ### The clock, the ring and the allotment -/

theorem windows (h : s.quotasWithin) (gs : List GroupId) : (s.evaluateWindows gs).1.quotasWithin := by
  have hstored : (gs.foldl State.storeWindow s).quotasWithin := List.foldlRecOn gs _ h fun _ ht _ _ => ht
  unfold State.evaluateWindows
  dsimp only
  split
  · exact hstored
  · exact hstored.quiet (State.closeVisits_quiet _ _ _)

theorem takeRoll (h : s.quotasWithin) : s.takeRoll.quotasWithin := by
  have hrenew : ∀ t : State, t.quotasWithin → State.quotasWithin
      { t.mapZones (fun _ x => { x with cyclesRemaining := (x.programme.map (·.cycles)).getD 0 }) with
        planner := { t.planner with allotmentReached := false } } := fun _ ht =>
    ht.mapZones (f := fun _ x => { x with cyclesRemaining := (x.programme.map (·.cycles)).getD 0 }) fun _ _ => rfl
  exact hrenew _ ((h.quiet (s.closeVisits_quiet _ _)).pruneSuspended _)

/-- A period roll brings the law about: nothing after its recomputation touches an effective quota (R99, R105). -/
theorem of_roll (s : State) (cause : Int) (port : Option Port) : (s.rollPeriod cause port).quotasWithin :=
  (State.recomputeQuotas_quotasWithin _).post.takeRoll

theorem advanceClock (h : s.quotasWithin) : s.advanceClock.quotasWithin := by
  have hadvanced : State.quotasWithin { s with clock := s.clock.advance } := by
    refine h.of_same ?_ fun _ => rfl
    change s.clock.advance.allotment = _
    unfold Clock.advance
    split <;> rfl
  have hpass : ∀ t : State, t.quotasWithin → t.takePass.1.quotasWithin := fun t ht => by
    unfold State.takePass
    split
    · split
      · exact ht
      · exact of_roll _ _ _
    · exact ht
  unfold State.advanceClock State.minuteChange
  dsimp only
  split
  · refine State.quotasWithin.selectIf ?_ _
    split
    · exact hpass _ (hadvanced.windows _)
    · exact hadvanced.windows _
  · exact hadvanced

/-- A SET-PERIOD keeps the law: it leaves the allotment, or has the quotas recomputed under the new one (R103). -/
theorem replacePeriod (h : s.quotasWithin) (p : Port) (v : PeriodSettings) : (s.replacePeriod p v).quotasWithin := by
  unfold State.replacePeriod
  dsimp only
  split
  · rename_i hsame
    exact h.of_same hsame.symm fun _ => rfl
  · exact ((State.recomputeQuotas_quotasWithin _).testAllotment _).select

theorem countSecond (h : s.quotasWithin) : s.countSecond.quotasWithin :=
  h.of_same (by rw [State.countSecond_eq]) fun z => by rw [State.countSecond_zone]

/-! ### The regime, frost and stops -/

theorem enterRegime (h : s.quotasWithin) (r : Regime) (manual : Option (List Entry)) (stack : List Frame) (port : Option Port) :
    (s.enterRegime r manual stack port).quotasWithin := by
  have hset : State.quotasWithin { s with engine := { s.engine with regime := r, manual := manual, stack := stack } } := h
  exact hset.post

theorem pushFrost (h : s.quotasWithin) : s.pushFrost.quotasWithin := by
  have hframed : (s.reportFramed s.engine.entries).quotasWithin := by
    refine List.foldlRecOn s.engine.entries _ h fun t ht e _ => ?_
    split
    · exact ht.post
    · exact ht
  unfold State.pushFrost
  split
  · exact h.enterRegime _ _ _ _
  · exact (h.quiet (s.closeTagged_quiet _ _)).enterRegime _ _ _ _
  · exact (hframed.quiet (State.closeTagged_quiet _ _ _)).enterRegime _ _ _ _
  · exact h

theorem armingChanges (h : s.quotasWithin) : s.armingChanges.quotasWithin := by
  have hcleared : (s.mapZones fun _ x => { x with dryClock := 0, overdue := false }).quotasWithin := h.mapZones fun _ _ => rfl
  exact State.quotasWithin.judged (s := { s.mapZones (fun _ x => { x with dryClock := 0, overdue := false }) with
    engine := { s.engine with runState := if s.engine.runState = .paused then .running else s.engine.runState } }) hcleared (State.triage_judged _)

theorem armFrost (h : s.quotasWithin) (target : FrostState) (inhibit : Bool) (port : Option Port) (value : Int) :
    (s.armFrost target inhibit port value).quotasWithin := by
  have hset : State.quotasWithin { s with climate := { s.climate with frost := target, thawTimer := 0, inhibit := inhibit } } := h
  exact hset.post.pushFrost.armingChanges.select

theorem clearAdmitted (h : s.quotasWithin) : s.clearAdmitted.quotasWithin := by
  have hcleared : (s.mapZones fun _ x => { x with admitted := false, requiredFlow := none, overdue := false }).quotasWithin :=
    h.mapZones fun _ _ => rfl
  exact hcleared

theorem disarmFrost (h : s.quotasWithin) (inhibit : Bool) (port : Option Port) (value : Int) : (s.disarmFrost inhibit port value).quotasWithin := by
  have hset : State.quotasWithin { s with climate := { s.climate with frost := .disarmed, thawTimer := 0, inhibit := inhibit } } := h
  exact (hset.post.clearAdmitted.pop port).select

theorem evaluateClimate (h : s.quotasWithin) (isReport : Bool) (port : Option Port) : (s.evaluateClimate isReport port).quotasWithin := by
  have hjudge : ∀ t : State, t.quotasWithin → (t.judgeFrost port).quotasWithin := fun t ht => by
    unfold State.judgeFrost
    dsimp only
    split
    · split
      · exact ht.armFrost _ _ _ _
      · exact ht
    · split
      · split
        · exact ht.disarmFrost _ _ _
        · exact ht
      · exact ht
    · exact ht
  have hset : State.quotasWithin
      { s with climate := Climate.judgeInhibit { s.climate with effective := lowest s.climate.freshTemperatures } isReport } := h
  unfold State.evaluateClimate State.judgeStale
  split
  · exact (hjudge _ hset).post
  · exact hjudge _ hset

theorem setSlot (h : s.quotasWithin) (p : Port) (x : Option Slot) : (s.setSlot p x).quotasWithin := h

theorem expireSlot (h : s.quotasWithin) (p : Port) : (s.expireSlot p).quotasWithin := by
  unfold State.expireSlot
  split
  · split
    · exact (h.setSlot p _).evaluateClimate false none
    · exact h
  · exact h

theorem reinitialise (h : s.quotasWithin) (p : Port) (x : Straps) : (s.reinitialise p x).quotasWithin := by
  have hreset : (s.updPort p fun q => q.reinitialised x (decide (s.hold planEntry = .held p))).quotasWithin := h
  rw [State.reinitialise_eq]
  exact (hreset.setSlot p none).evaluateClimate false none

theorem stopEngine (h : s.quotasWithin) (cause : StopCause) (port : Option Port) (value : Int) : (s.stopEngine cause port value).quotasWithin := by
  have hset : State.quotasWithin { s with engine := { s.engine with runState := .stopped, stopCause := some cause } } := h
  exact (hset.quiet (State.closeAll_quiet _ .stop)).post

theorem takeStop (h : s.quotasWithin) : s.takeStop.quotasWithin := by
  have hset : State.quotasWithin { s with engine := { s.engine with stopCause := some .stopLine } } := h
  unfold State.takeStop
  split
  · exact h.stopEngine _ _ _
  · exact h.stopEngine _ _ _
  · split
    · exact h
    · exact hset.post

/-! ### The RESET line -/

/-- The release of the RESET line keeps the law: pending edits have the quotas recomputed once, and so has a pending roll (R21, R92). -/
theorem releaseReset (h : s.quotasWithin) (a b c : Straps) : (s.releaseReset a b c).quotasWithin := by
  have hblocks : (s.releaseBlocks a b c).quotasWithin := h.of_same rfl fun z => by rw [State.releaseBlocks_zone]; rfl
  rw [State.releaseReset_eq]
  split
  · exact of_roll _ _ _
  · unfold State.restarted State.applyAllPending
    split
    · exact hblocks
    · exact State.recomputeQuotas_quotasWithin _

end State.quotasWithin
end Sys2Proof.Machine
end

section
/-! The law of R104 through the effect of every directive, and through every step. -/

namespace Sys2Proof.Machine
namespace State.quotasWithin
variable {s : State}

/-! ### The effects of directives -/

theorem carryOutEdit (h : s.quotasWithin) (z : ZoneId) (e : PendingEdit) (clamped : Bool) : (s.carryOutEdit z e clamped).1.quotasWithin := by
  unfold State.carryOutEdit
  split
  · exact (h.applyNow z e).select
  · exact h.updZone (f := fun x => { x with pendingEdit := some e }) rfl

theorem runClearZone (h : s.quotasWithin) (p : Port) (zone : Nat) : (s.runClearZone p zone).1.quotasWithin := by
  refine KeptInEvents.withIndex _ h fun z => ?_
  split
  · exact h
  · exact State.requireGroups_keeps h (h.carryOutEdit z _ _)

theorem runSetRing (h : s.quotasWithin) (p : Port) (zones : List Nat) : (s.runSetRing p zones).1.quotasWithin := by
  have hreplaced : ∀ ring, (s.replaceRing ring).quotasWithin := fun _ => (State.recomputeQuotas_quotasWithin _).select
  unfold State.runSetRing
  split
  · exact h
  · split
    · exact h
    · rw [State.requirePlan_eq]
      split
      · exact hreplaced _
      · exact h

theorem runTakeHold (h : s.quotasWithin) (p : Port) (e : EntryId) : (s.runTakeHold p e).1.quotasWithin := by
  unfold State.runTakeHold
  split
  · exact h
  · split <;> exact h
  · split <;> exact h

theorem runReleaseHold (h : s.quotasWithin) (p : Port) (e : EntryId) : (s.runReleaseHold p e).1.quotasWithin := by
  unfold State.runReleaseHold
  split
  · split <;> exact h
  · exact h

theorem runBreakHold (h : s.quotasWithin) (e : EntryId) : (s.runBreakHold e).1.quotasWithin := by
  have hfreed : (s.setHold e .free).quotasWithin := h
  unfold State.runBreakHold
  split
  · exact hfreed.post
  · exact hfreed.post
  · exact h

theorem runStartQuota (h : s.quotasWithin) (p : Port) : (s.runStartQuota p).1.quotasWithin := by
  unfold State.runStartQuota
  split
  · exact h
  · exact (h.enterRegime _ _ _ _).select
  · split <;> exact h
  · split <;> exact h

theorem runStopQuota (h : s.quotasWithin) (p : Port) : (s.runStopQuota p).1.quotasWithin := by
  have hcleared : ∀ t : State, t.quotasWithin → t.clearSuspended.quotasWithin := fun _ ht => ht.pruneSuspended fun _ => true
  have hremoved : s.removeQuotaFrame.quotasWithin := h
  unfold State.runStopQuota
  split
  · dsimp only
    exact ((hcleared (s.closeTagged .quota .stopQuota) (h.quiet (s.closeTagged_quiet _ _))).pop (some p)).select
  · split
    · exact hcleared _ hremoved
    · exact h

theorem runRunManual (h : s.quotasWithin) (p : Port) (entries : List (Nat × Nat)) : (s.runRunManual p entries).1.quotasWithin := by
  have hstart : ∀ es, (s.startManual p es).quotasWithin := fun es => by
    refine State.quotasWithin.select (State.quotasWithin.enterRegime ?_ _ _ _ _)
    split
    · exact h.quiet (s.closeTagged_quiet _ _)
    · exact h
  have htake : ∀ zones times clamped, (s.takeRunManual p zones times clamped).1.quotasWithin := fun zones times clamped => by
    unfold State.takeRunManual
    split
    · exact h
    · split
      · exact hstart _
      · exact hstart _
      · exact h
      · exact h
  unfold State.runRunManual
  split
  · exact h
  · split
    · exact h
    · exact Checked.orRange_keeps _ h fun times clamped => htake _ times clamped

theorem runCancelManual (h : s.quotasWithin) (p : Port) : (s.runCancelManual p).1.quotasWithin := by
  have hclosed : (s.closeTagged .manual .cancelManual).quotasWithin := h.quiet (s.closeTagged_quiet _ _)
  have hdiscard : ∀ t : State, t.quotasWithin → t.discardManual.quotasWithin := fun _ ht => ht
  unfold State.runCancelManual
  split
  · dsimp only
    exact ((hdiscard _ hclosed).pop (some p)).select
  · split <;> exact h

theorem runPause (h : s.quotasWithin) : s.runPause.1.quotasWithin := by
  unfold State.runPause
  split
  · exact h
  · split <;> exact h

theorem runResume (h : s.quotasWithin) : s.runResume.1.quotasWithin := by
  have hset : State.quotasWithin { s with engine := { s.engine with runState := .running, stopCause := none } } := h
  unfold State.runResume
  split
  · exact h
  · split
    · exact h
    · exact hset.select

theorem runShutdown (h : s.quotasWithin) (p : Port) : (s.runShutdown p).1.quotasWithin := by
  unfold State.runShutdown
  split
  · exact h
  · dsimp only
    exact h.stopEngine _ _ _

theorem runArmFrost (h : s.quotasWithin) (p : Port) : (s.runArmFrost p).1.quotasWithin := by
  have hset : State.quotasWithin { s with climate := { s.climate with frost := .armedManual, thawTimer := 0 } } := h
  unfold State.runArmFrost
  split
  · exact h.armFrost _ _ _ _
  · exact hset.post
  · exact h

theorem runDisarmFrost (h : s.quotasWithin) (p : Port) : (s.runDisarmFrost p).1.quotasWithin := by
  unfold State.runDisarmFrost
  split
  · exact h.disarmFrost _ _ _
  · split <;> exact h

theorem runCloseZone (h : s.quotasWithin) (z : ZoneId) : (s.runCloseZone z).1.quotasWithin := by
  unfold State.runCloseZone
  split
  · exact h.close z _
  · exact h

theorem runClearLockout (h : s.quotasWithin) (z : ZoneId) : (s.runClearLockout z).1.quotasWithin := by
  have hcleared : (s.updZone z fun x => { x with lockout := none }).quotasWithin := h.updZone rfl
  have hremoved : (s.removeLockout z).quotasWithin := by
    refine State.quotasWithin.select ?_
    split
    · exact hcleared.retriage
    · exact hcleared
  unfold State.runClearLockout
  split
  · exact h
  · split
    · exact h
    · exact hremoved

/-- NEW-PERIOD rolls the period (R101). -/
theorem of_newPeriod (s : State) (p : Port) : (s.runNewPeriod p).1.quotasWithin := by
  unfold State.runNewPeriod
  dsimp only
  exact (of_roll _ _ _).select

/-- The effect of every directive keeps the law (R172). -/
theorem run (h : s.quotasWithin) (p : Port) (d : Directive) : (d.run p s).1.quotasWithin := by
  have windowed : ∀ (t : State) (gs : List GroupId), t.quotasWithin → ((t.evaluateWindows gs).1.selectIf (t.evaluateWindows gs).2).quotasWithin :=
    fun _ gs ht => (ht.windows gs).selectIf _
  have judged : ∀ (t : State) (isReport : Bool), t.quotasWithin → (t.evaluateClimate isReport (some p)).quotasWithin :=
    fun _ _ ht => ht.evaluateClimate _ _
  cases d with
  | readZone z => exact KeptInEvents.withIndex _ h fun _ => h
  | readGroup g => exact KeptInEvents.withIndex _ h fun _ => h
  | readRing => exact h
  | readHeader i => exact KeptInEvents.withIndex _ h fun _ => h
  | readEngine => exact h
  | readClimate => exact h
  | readClock => exact h
  | readHolds => exact h
  | readPort => exact h
  | selectZones f t => exact KeptInEvents.runSelectZones _ h
  | fetchNotice =>
    change (s.runFetchNotice p).1.quotasWithin
    unfold State.runFetchNotice
    split <;> exact h
  | takeHold e => exact KeptInEvents.withIndex _ h fun _ => h.runTakeHold p _
  | releaseHold e => exact KeptInEvents.withIndex _ h fun _ => h.runReleaseHold p _
  | editZone z f =>
    exact KeptInEvents.withIndex _ h fun _ => Checked.orRange_keeps _ h fun _ _ => State.requireGroups_keeps h (h.carryOutEdit _ _ _)
  | clearZone z => exact h.runClearZone p z
  | setWindow g a b =>
    exact KeptInEvents.withIndex _ h fun _ => Checked.orRange_keeps _ h fun _ _ => State.requireGroups_keeps h (windowed _ _ h)
  | setRing zs => exact h.runSetRing p zs
  | setPeriod l m a => exact Checked.orRange_keeps _ h fun _ _ => KeptInEvents.requirePlanOverBreak _ h (h.replacePeriod p _)
  | setMeter i f =>
    exact KeptInEvents.withIndex _ h fun _ => Checked.orRange_keeps _ h fun _ _ => KeptInEvents.requirePlanOverBreak _ h (h.replaceMeter _ _)
  | declareSupply f v => exact h.runDeclare p f v
  | setFallback f => exact h.runSetFallback p f
  | reportTemperature t => exact Checked.orRange_keeps _ h fun _ _ => judged _ _ h
  | armFrost => exact h.runArmFrost p
  | disarmFrost => exact h.runDisarmFrost p
  | setFrostLimits a d i t => exact Checked.orRange_keeps _ h fun _ _ => judged _ _ h
  | startQuota => exact h.runStartQuota p
  | stopQuota => exact h.runStopQuota p
  | runManual es => exact h.runRunManual p es
  | cancelManual => exact h.runCancelManual p
  | pause => exact h.runPause
  | resume => exact h.runResume
  | shutdown => exact h.runShutdown p
  | closeZone z => exact KeptInEvents.withIndex _ h fun _ => h.runCloseZone _
  | clearLockout z => exact KeptInEvents.withIndex _ h fun _ => h.runClearLockout _
  | breakHold e => exact KeptInEvents.withIndex _ h fun _ => h.runBreakHold _
  | setClock d t => exact Checked.orRange_keeps _ h fun _ _ => windowed _ _ h
  | newPeriod => exact of_newPeriod s p
  | setOptions m f t r n => exact Checked.orRange_keeps _ h fun _ _ => h
  | narrowRights a b c d => exact h

/-! ### Every step -/

theorem execDirective {c : Instr} {p : Port} {d : Directive} {t : State} (hc : c.directive = some (p, d)) (h : s.quotasWithin)
    (he : exec c s = .next t) : t.quotasWithin := by
  have hcompleted : (s.complete p d (d.run p)).quotasWithin := h.complete (h.run p d)
  cases hd : d.isSupply with
  | false =>
    rw [exec_directive hc hd] at he
    exact ChannelLaw.of_next he hcompleted
  | true =>
    rcases exec_supplyDirective hc hd s with hx | ⟨ev, n, -, hx⟩
    · rw [hx] at he
      exact ChannelLaw.of_next he hcompleted.reportCeilings
    · rw [hx] at he
      exact ChannelLaw.of_next he (h.sendInto _ _ _)

theorem execEvent {c : Instr} {t : State} (hc : c.directive = none) (h : s.quotasWithin) (he : exec c s = .next t) : t.quotasWithin := by
  cases c with
  | powerOn a b c => exact ChannelLaw.of_next he (P := State.quotasWithin) fun a h => nomatch h
  | resetAsserted =>
    refine ChannelLaw.of_next he (P := State.quotasWithin) ?_
    split
    · exact h
    · exact h.mapZones (f := fun _ x => x.silenced) fun _ _ => rfl
  | resetReleased a b c =>
    refine ChannelLaw.of_next he (P := State.quotasWithin) ?_
    split
    · exact h.releaseReset a b c
    · exact h
  | stopAsserted =>
    have hlow : State.quotasWithin { s with stopLow := true } := h
    refine ChannelLaw.of_next he (P := State.quotasWithin) ?_
    split
    · exact h
    · exact State.live_keeps hlow hlow.takeStop
  | stopReleased => exact ChannelLaw.of_next he (P := State.quotasWithin) h
  | rawPulse i => exact ChannelLaw.of_next he (State.live_keeps h (h.rawPulse i))
  | driveSenseFall z =>
    refine ChannelLaw.of_next he (State.live_keeps h ?_)
    split
    · exact h.driveFault z
    · exact h
  | senseTimerExpiry z high =>
    have hsampled : (s.updZone z fun x => { x with sensePhase := .watching, senseTimer := none }).quotasWithin := h.updZone rfl
    refine ChannelLaw.of_next he (State.live_keeps h ?_)
    split
    · cases high
      · exact hsampled.driveFault z
      · exact hsampled
    · exact h
  | fillTimerExpiry z =>
    refine ChannelLaw.of_next he (State.live_keeps h ?_)
    split
    · exact h.quiet (s.enterWet_quiet z)
    · exact h
  | closeTimerExpiry z =>
    have hshut : (s.updZone z Zone.shut).quotasWithin := h.updZone rfl
    refine ChannelLaw.of_next he (State.live_keeps h ?_)
    split
    · exact hshut.shutReports z _
    · exact h
  | intervalTimerExpiry i order =>
    refine ChannelLaw.of_next he (State.live_keeps h ?_)
    split
    · exact h.expireInterval i order
    · exact h
  | validityTimerExpiry taking =>
    refine ChannelLaw.of_next he (State.live_keeps h ?_)
    cases taking with
    | atOnce => exact h.lapse.reportCeilings
    | inSelection n => exact h.sendInto _ _ _
  | secondAdvance => exact ChannelLaw.of_next he (State.live_keeps h h.countSecond).advanceClock
  | slotExpiry p => exact ChannelLaw.of_next he (State.live_keeps h (h.expireSlot p))
  | thawHoldExpiry =>
    refine ChannelLaw.of_next he (State.live_keeps h ?_)
    split
    · exact h.disarmFrost _ _ _
    · exact h
  | guardTimerExpiry z =>
    refine ChannelLaw.of_next he (State.live_keeps h ?_)
    split
    · exact (h.close z .guardExpired).post
    · exact h
  | soakReached z =>
    refine ChannelLaw.of_next he (State.live_keeps h ?_)
    split
    · exact h.select
    · exact h
  | dwellEnd z =>
    refine ChannelLaw.of_next he (State.live_keeps h ?_)
    split
    · exact h.close z _
    · exact h
  | runTimeSpent z =>
    refine ChannelLaw.of_next he (State.live_keeps h ?_)
    split
    · exact h.close z _
    · exact h
  | overdue z =>
    refine ChannelLaw.of_next he (State.live_keeps h ?_)
    split
    · exact h.judged (s.markOverdue_judged z)
    · exact h
  | frameComplete p frame =>
    refine ChannelLaw.of_next he (P := State.quotasWithin) ?_
    split
    · exact List.foldlRecOn _ _ h fun t ht b _ => ht.portsOnly (t.takeByte_portsOnly p b)
    · exact h
  | silence p => exact ChannelLaw.of_next he (State.live_keeps h (h.portsOnly (s.takeSilence_portsOnly p)))
  | lineBreak p straps =>
    have hlow : (s.updPort p fun q => { q with lineLow := true }).quotasWithin := h
    refine ChannelLaw.of_next he (P := State.quotasWithin) ?_
    split
    · exact h
    · exact State.live_keeps hlow (hlow.reinitialise p straps)
  | takeUp => exact ChannelLaw.of_next he (State.live_keeps h h.takeUp)
  | replySent p => exact ChannelLaw.of_next he (State.live_keeps h h)
  | withdraw p =>
    refine ChannelLaw.of_next he (P := State.quotasWithin) ?_
    split
    · exact h.portsOnly (s.takeWithdraw_portsOnly p)
    · exact h
  | characterReceived p data parity stop =>
    refine ChannelLaw.of_next he (P := State.quotasWithin) ?_
    split
    · split
      · exact h.portsOnly (s.takeByte_portsOnly p data)
      · exact h.portsOnly (s.takeBadCharacter_portsOnly p)
    · exact h
  | receiveLineReturnsHigh p => exact ChannelLaw.of_next he (P := State.quotasWithin) h
  | _ => cases hc

/-- Every step keeps the law of R104: a lockout request on its way, or a command on the queue's rest. -/
theorem step {t : State} (h : s.quotasWithin) (he : step s = .next t) : t.quotasWithin := by
  cases hp : s.pending with
  | nil =>
    rw [step_nil hp] at he
    refine ChannelLaw.of_next he ?_
    rcases s.takeLockoutRequest_cases with hkeep | ⟨r, rest, -, -, htaken⟩
    · rw [hkeep]
      exact h
    · rw [htaken]
      exact State.quotasWithin.requestLockout (s := { s with lockoutRequests := rest }) h r.zone r.kind
  | cons c rest =>
    rw [step_cons hp] at he
    cases hc : c.directive with
    | none => exact State.quotasWithin.execEvent (s := { s with pending := rest }) hc h he
    | some pd => exact State.quotasWithin.execDirective (s := { s with pending := rest }) hc h he

end State.quotasWithin
end Sys2Proof.Machine

open Sys2Proof Sys2Proof.Machine

/-- Settles O31: the law by `State.quotasWithin.step`, the shares by the equation of `State.quotaShare`, their sum by `State.sumOver_quotaShare_le`. -/
theorem effectiveQuotasFitTheAllotment : Obligations.EffectiveQuotasFitTheAllotment := by
  refine ⟨fun s t h he => h.step he, fun s => ?_⟩
  extract_lets inSet quota sum
  have hset : s.inQuotaSet = inSet := funext s.inQuotaSet_eq
  have hsum : s.quotaSum = sum := by
    unfold State.quotaSum
    rw [hset]
    rfl
  refine ⟨s.recomputeQuotas_quotasWithin, rfl, fun z => ⟨s.quotaShare z, s.recomputeQuotas_zone z, fun hout => ?_, ?_⟩⟩
  · exact if_neg (by rw [hset, hout]; decide)
  have hshare : inSet z = true → s.quotaShare z = _ := fun hin => if_pos (by rw [hset]; exact hin)
  refine ⟨fun a hin ha hscaled => ?_, fun hin hfits => ?_⟩
  · rw [hshare hin, ha, ← hsum]
    exact if_pos (by rw [hsum]; exact hscaled)
  · rw [hshare hin]
    cases ha : s.clock.allotment with
    | none => rfl
    | some a => exact if_neg (by rw [hsum]; exact Nat.not_lt.mpr (hfits a ha))

end

section
/-! Close commands in ascending zone number: what the walks that close every channel of a kind leave, in the terms of `State.channelsClosed` (R109, R113, R120, R137,
R140, R141). -/

namespace Sys2Proof.Machine

/-- The record of a closed channel is made up from its own record, the ring and the frost state (R40). -/
theorem State.closedZone_congr {s t : State} {z : ZoneId} (hz : t.zone z = s.zone z) (hc : t.climate = s.climate) (hr : t.ring = s.ring) (e : Ending) :
    t.closedZone z e = s.closedZone z e := by
  unfold State.closedZone
  rw [hz, hc, hr]

/-- Closes every OPENING or WET channel whose record `sel` picks, in the order of a list. -/
def State.closeWhere (s : State) (zs : List ZoneId) (sel : Zone → Bool) (e : Ending) : State :=
  s.forZones zs fun z t => if sel (t.zone z) then t.closeChannel z e else t

theorem State.closeVisits_where (s : State) (sel : Zone → Bool) (e : Ending) :
    s.closeVisits sel e = s.closeWhere zoneIds (fun x => decide (x.visit = .openVisit) && sel x) e := rfl

/-- The joining of the suspended list that a close command brings (R133, R135). -/
def State.joinsSuspended (s : State) (z : ZoneId) (e : Ending) : Bool :=
  decide ((s.zone z).useTag = some .quota ∧ (s.zone z).visit = .openVisit ∧ z ∈ s.ring ∧ e ∈ [Ending.windowClosed, .shed, .stop, .preemption])

/-- `State.channelsClosed` for the zones of a list. -/
structure ClosedAlong (s : State) (zs : List ZoneId) (c : ZoneId → Bool) (e : Ending) (u : State) : Prop where
  zone : ∀ z, u.zone z = if z ∈ zs ∧ c z = true then s.closedZone z e else s.zone z
  meter : ∀ h, u.meter h = { s.meter h with settling := (s.meter h).settling || zs.any fun z => c z && (s.zone z).onHeader h }
  rest : u = { s with
    zones := u.zones
    meters := u.meters
    energising := s.energising.filter fun z => !(decide (z ∈ zs) && c z)
    wetOrder := s.wetOrder.filter fun z => !(decide (z ∈ zs) && c z)
    planner := { s.planner with suspended := s.planner.suspended ++ zs.filter fun z => c z && s.joinsSuspended z e } }

/-- What one close command of an open channel leaves beside the zone records (R37, R40, R58, R133). -/
theorem State.closeChannel_rest {s : State} {z : ZoneId} (e : Ending) (h : (s.zone z).isOpen = true) :
    (∀ i, (s.closeChannel z e).meter i = { s.meter i with settling := (s.meter i).settling || (s.zone z).onHeader i }) ∧
      s.closeChannel z e = { s with
        zones := (s.closeChannel z e).zones
        meters := (s.closeChannel z e).meters
        energising := s.energising.filter fun y => !decide (y = z)
        wetOrder := s.wetOrder.filter fun y => !decide (y = z)
        planner := { s.planner with suspended := s.planner.suspended ++ if s.joinsSuspended z e then [z] else [] } } := by
  obtain ⟨-, hmeter, hrest⟩ := s.closeChannel_channelsClosed e z
  have hpick : ∀ y, (decide (y = z) && (s.zone y).isOpen) = decide (y = z) := fun y => by
    by_cases hy : y = z
    · rw [hy, h, Bool.and_true]
    · simp [hy]
  simp only [hpick] at hmeter hrest
  refine ⟨fun i => ?_, ?_⟩
  · have hany : (zoneIds.any fun y => decide (y = z) && (s.zone y).onHeader i) = (s.zone z).onHeader i := by
      rw [Bool.eq_iff_iff]
      simp [zoneIds]
    rw [← hany]
    exact hmeter i
  · rw [← filter_zoneIds_single z fun y => s.joinsSuspended y e]
    exact hrest

theorem ClosedAlong.nil (s : State) (c : ZoneId → Bool) (e : Ending) : ClosedAlong s [] c e s where
  zone := fun z => by simp
  meter := fun h => by simp
  rest := by simp

/-- A zone that is not to be closed may stand at the front of the list. -/
theorem ClosedAlong.skip {s u : State} {z : ZoneId} {zs : List ZoneId} {c : ZoneId → Bool} {e : Ending} (h : ClosedAlong s zs c e u) (hz : c z = false) :
    ClosedAlong s (z :: zs) c e u := by
  have hmem : ∀ y, (y ∈ z :: zs ∧ c y = true) ↔ y ∈ zs ∧ c y = true := fun y => by
    by_cases hy : y = z
    · simp [hy, hz]
    · simp [hy]
  have hdec : ∀ y, (decide (y ∈ z :: zs) && c y) = (decide (y ∈ zs) && c y) := fun y => by
    rw [Bool.eq_iff_iff]
    simpa using hmem y
  refine ⟨fun y => ?_, fun i => ?_, ?_⟩
  · rw [h.zone, if_congr (hmem y) rfl rfl]
  · rw [h.meter, List.any_cons, hz, Bool.false_and, Bool.false_or]
  · simp only [hdec, List.filter_cons, hz, Bool.false_and, Bool.false_eq_true, if_false]
    exact h.rest

/-- A close command of the zone at the front, then closings along the rest of the list. -/
theorem ClosedAlong.cons {s u : State} {z : ZoneId} {zs : List ZoneId} {c d : ZoneId → Bool} {e : Ending} (hopen : (s.zone z).isOpen = true)
    (hz : c z = true) (hnot : z ∉ zs) (hd : ∀ y ∈ zs, d y = c y) (h : ClosedAlong (s.closeChannel z e) zs d e u) : ClosedAlong s (z :: zs) c e u := by
  obtain ⟨hmeter, hrest⟩ := State.closeChannel_rest e hopen
  have hother : ∀ y, y ≠ z → (s.closeChannel z e).zone y = s.zone y := fun y hy => s.closeChannel_zone_other e hy
  have hne : ∀ y ∈ zs, y ≠ z := fun y hy => ne_of_mem_of_not_mem hy hnot
  have hring : (s.closeChannel z e).ring = s.ring := (s.closeChannel_quiet z e).ring
  have hclimate : (s.closeChannel z e).climate = s.climate := (s.closeChannel_quiet z e).climate
  refine ⟨fun y => ?_, fun i => ?_, ?_⟩
  · rw [h.zone]
    by_cases hy : y = z
    · subst hy
      rw [if_neg fun k => hnot k.1, if_pos ⟨List.mem_cons_self .., hz⟩, State.closeChannel_zone s e hopen]
    · have hmem : (y ∈ zs ∧ d y = true) ↔ (y ∈ z :: zs ∧ c y = true) := by
        rw [List.mem_cons, or_iff_right hy]
        exact and_congr_right fun hin => by rw [hd y hin]
      rw [if_congr hmem rfl rfl, State.closedZone_congr (hother y hy) hclimate hring, hother y hy]
  · have hany : (zs.any fun y => d y && ((s.closeChannel z e).zone y).onHeader i) = zs.any fun y => c y && (s.zone y).onHeader i := by
      rw [Bool.eq_iff_iff, List.any_eq_true, List.any_eq_true]
      exact exists_congr fun y => and_congr_right fun hy => by rw [hd y hy, hother y (hne y hy)]
    rw [h.meter, hmeter, hany, List.any_cons, hz, Bool.true_and]
    simp [Bool.or_assoc]
  · have horder : ∀ y, (!(decide (y ∈ zs) && d y) && !decide (y = z)) = !(decide (y ∈ z :: zs) && c y) := fun y => by
      by_cases hy : y = z
      · simp [hy, hz]
      · by_cases hin : y ∈ zs
        · simp [hy, hin, hd y hin]
        · simp [hy, hin]
    have hjoin : (zs.filter fun y => d y && (s.closeChannel z e).joinsSuspended y e) = zs.filter fun y => c y && s.joinsSuspended y e :=
      List.filter_congr fun y hy => by
        unfold State.joinsSuspended
        rw [hd y hy, hother y (hne y hy), hring]
    have hall := h.rest
    rw [hjoin] at hall
    generalize s.closeChannel z e = t at hrest hall
    rw [hrest] at hall
    simp only [List.filter_filter, horder] at hall
    have hlist : (if s.joinsSuspended z e then [z] else []) ++ (zs.filter fun y => c y && s.joinsSuspended y e) =
        (z :: zs).filter fun y => c y && s.joinsSuspended y e := by
      rw [List.filter_cons, hz, Bool.true_and]
      split <;> rfl
    rw [hall, List.append_assoc, hlist]

/-- A walk that closes every open channel of a kind closes these, and no others. -/
theorem State.closeWhere_along (sel : Zone → Bool) (e : Ending) {zs : List ZoneId} (hn : zs.Nodup) (s : State) :
    ClosedAlong s zs (fun z => sel (s.zone z) && (s.zone z).isOpen) e (s.closeWhere zs sel e) := by
  induction zs generalizing s with
  | nil => exact .nil s _ e
  | cons z rest ih =>
    obtain ⟨hnot, hrest⟩ := List.nodup_cons.mp hn
    change ClosedAlong s (z :: rest) _ e (State.closeWhere (if sel (s.zone z) then s.closeChannel z e else s) rest sel e)
    cases hsel : sel (s.zone z) with
    | false => exact (ih hrest s).skip (by rw [hsel, Bool.false_and])
    | true =>
      cases hopen : (s.zone z).isOpen with
      | false =>
        rw [if_pos rfl, State.closeChannel_shut s e hopen]
        exact (ih hrest s).skip (by rw [hopen, Bool.and_false])
      | true =>
        refine .cons hopen (by rw [hsel, hopen]; rfl) hnot (fun y hy => ?_) (ih hrest _)
        rw [State.closeChannel_zone_other s e (ne_of_mem_of_not_mem hy hnot)]

/-- The same in the statements' terms, for a walk through all zones. -/
theorem State.closeWhere_channelsClosed (s : State) (sel : Zone → Bool) (e : Ending) :
    s.channelsClosed (fun z => sel (s.zone z)) e (s.closeWhere zoneIds sel e) := by
  have h := s.closeWhere_along sel e (zs := zoneIds) (List.nodup_finRange 32)
  have hall : ∀ z, z ∈ zoneIds := List.mem_finRange
  refine ⟨fun z => ?_, h.meter, ?_⟩
  · rw [h.zone, if_congr (and_iff_right (hall z)) rfl rfl]
  · have hrest := h.rest
    simp only [hall, decide_true, Bool.true_and] at hrest
    exact hrest

theorem State.closeVisits_channelsClosed (s : State) (sel : Zone → Bool) (e : Ending) :
    s.channelsClosed (fun z => decide ((s.zone z).visit = .openVisit) && sel (s.zone z)) e (s.closeVisits sel e) :=
  s.closeVisits_where sel e ▸ s.closeWhere_channelsClosed (fun x => decide (x.visit = .openVisit) && sel x) e

end Sys2Proof.Machine
end

section
/-! The evaluation of every window (R95, R96, R137), SET-CLOCK (R94). -/

namespace Sys2Proof.Machine

/-! ### The flags -/

theorem State.windowNow_congr {s t : State} {g : GroupId} (hc : t.clock = s.clock) (ha : (t.group g).start = (s.group g).start)
    (hb : (t.group g).finish = (s.group g).finish) : t.windowNow g = s.windowNow g := by
  unfold State.windowNow
  rw [hc, ha, hb]

/-- The flags of the groups of a list are stored, each as the window stands now (R96). -/
theorem State.storeWindows_spec (gs : List GroupId) (s : State) :
    gs.foldl State.storeWindow s = { s with groups := (gs.foldl State.storeWindow s).groups } ∧
      ∀ g, (gs.foldl State.storeWindow s).group g = if g ∈ gs then { s.group g with windowOpen := s.windowNow g } else s.group g := by
  induction gs generalizing s with
  | nil => exact ⟨rfl, fun g => by simp⟩
  | cons g₀ rest ih =>
    have hstore : ∀ g, (s.storeWindow g₀).group g = if g = g₀ then { s.group g with windowOpen := s.windowNow g } else s.group g := fun g => by
      unfold State.storeWindow
      rw [State.group_updGroup]
      by_cases hg : g = g₀
      · subst hg; rfl
      · rw [if_neg hg, if_neg hg]
    have hsame : ∀ g, ((s.storeWindow g₀).group g).start = (s.group g).start ∧ ((s.storeWindow g₀).group g).finish = (s.group g).finish := fun g => by
      rw [hstore]
      split <;> exact ⟨rfl, rfl⟩
    have hnow : ∀ g, (s.storeWindow g₀).windowNow g = s.windowNow g := fun g => State.windowNow_congr rfl (hsame g).1 (hsame g).2
    obtain ⟨hrest, hgroup⟩ := ih (s.storeWindow g₀)
    refine ⟨hrest, fun g => (hgroup g).trans ?_⟩
    rw [hnow, hstore]
    by_cases hg : g = g₀
    · simp [hg]
    · simp [hg]

/-- The state with every flag stored as the window stands now (R96). -/
def State.flagged (s : State) : State := groupIds.foldl State.storeWindow s

theorem State.flagged_group (s : State) (g : GroupId) : s.flagged.group g = { s.group g with windowOpen := s.windowNow g } :=
  (State.storeWindows_spec groupIds s).2 g |>.trans (if_pos (List.mem_finRange g))

theorem State.flagged_eq (s : State) : s.flagged = { s with groups := tabulate fun g => { s.group g with windowOpen := s.windowNow g } } := by
  have hgroups : s.flagged.groups = tabulate fun g => { s.group g with windowOpen := s.windowNow g } :=
    Vector.ext fun i hi => (s.flagged_group ⟨i, hi⟩).trans (tabulate_get (fun g => { s.group g with windowOpen := s.windowNow g }) ⟨i, hi⟩).symm
  rw [← hgroups]
  exact (State.storeWindows_spec groupIds s).1

/-- With no flag changed, nothing changes (R96). -/
theorem State.flagged_same {s : State} (h : ∀ g, (s.group g).windowOpen = s.windowNow g) : s.flagged = s := by
  have hgroups : s.flagged.groups = s.groups := Vector.ext fun i hi => (s.flagged_group ⟨i, hi⟩).trans (by rw [← h]; rfl)
  have hrest : s.flagged = { s with groups := s.flagged.groups } := (State.storeWindows_spec groupIds s).1
  rw [hrest, hgroups]

/-! ### The report of the changes -/

/-- The groups whose window has closed. -/
def State.closedGroups (s : State) : List GroupId := groupIds.filter fun g => (s.group g).windowOpen && !s.windowNow g

theorem State.evaluateWindows_fst (s : State) :
    (s.evaluateWindows groupIds).1 = if s.resetLow then s.flagged else s.flagged.closeVisits (Zone.inGroups s.closedGroups) .windowClosed := rfl

theorem State.evaluateWindows_snd (s : State) :
    (s.evaluateWindows groupIds).2 = true ↔ ∃ g, (s.group g).windowOpen = false ∧ s.windowNow g = true := by
  have hopened : (s.evaluateWindows groupIds).2 = !(groupIds.filter fun g => !(s.group g).windowOpen && s.windowNow g).isEmpty := rfl
  rw [hopened, Bool.not_eq_true', List.isEmpty_eq_false_iff_exists_mem]
  simp [groupIds]

theorem State.inClosedGroups_iff (s : State) (x : Zone) :
    x.inGroups s.closedGroups = true ↔ ∃ v, x.programme = some v ∧ (s.group v.group).windowOpen = true ∧ s.windowNow v.group = false := by
  unfold Zone.inGroups State.closedGroups
  cases x.programme <;> simp [groupIds]

/-- What a window close leaves of the zone whose visit it ends (R40, R133, R135). -/
theorem State.closedZone_windowClosed (s : State) (z : ZoneId) :
    (s.closedZone z .windowClosed).valve = .closing ∧ (s.closedZone z .windowClosed).endedBy = some .windowClosed ∧
      ((s.zone z).visit = .openVisit → (s.zone z).useTag = some .quota → z ∈ s.ring →
        (s.closedZone z .windowClosed).visit = .suspended ∧ (s.closedZone z .windowClosed).visitTarget = (s.zone z).visitTarget ∧
          (s.closedZone z .windowClosed).visitVolume = (s.zone z).visitVolume ∧ (s.closedZone z .windowClosed).guardTimer = none) := by
  refine ⟨(s.closedZone_keeps .windowClosed z).1, ?_, fun hv ht hr => ?_⟩
  · unfold State.closedZone
    dsimp only
    repeat' split
    all_goals rfl
  · unfold State.closedZone
    simp [hv, ht, hr]

/-- The evaluation of every window with the RESET line released (R96, R137). -/
theorem State.evaluateWindows_taken {s : State} (hr : s.resetLow = false) : s.windowsTaken s.windowNow (s.evaluateWindows groupIds).1 := by
  rw [State.evaluateWindows_fst, hr]
  obtain ⟨hzone, -, hrest⟩ := s.flagged.closeVisits_channelsClosed (Zone.inGroups s.closedGroups) .windowClosed
  have hflagged : s.flagged = { s with groups := s.flagged.groups } := (State.storeWindows_spec groupIds s).1
  have hsame : ∀ z, s.flagged.zone z = s.zone z := fun z => by rw [hflagged]; rfl
  have hring : s.flagged.ring = s.ring := by rw [hflagged]
  have hclosed : ∀ z, s.flagged.closedZone z .windowClosed = s.closedZone z .windowClosed := fun z =>
    State.closedZone_congr (hsame z) (by rw [hflagged]) hring _
  change s.windowsTaken s.windowNow (s.flagged.closeVisits (Zone.inGroups s.closedGroups) .windowClosed)
  generalize s.flagged.closeVisits (Zone.inGroups s.closedGroups) .windowClosed = u at hzone hrest ⊢
  simp only [hsame, hclosed, hring] at hzone hrest
  refine ⟨fun g => ?_, ?_, fun z => ⟨fun hv ho hc => ?_, fun hnot => ?_⟩⟩
  · rw [← s.flagged_group, hrest]
    rfl
  · rw [hrest, hflagged]
  · have hpick := (s.inClosedGroups_iff (s.zone z)).mpr hc
    obtain ⟨hvalve, hended, hsuspended⟩ := s.closedZone_windowClosed z
    rw [hzone, if_pos (by simp [hv, ho, hpick])]
    refine ⟨hvalve, hended, fun ht hz => ?_⟩
    obtain ⟨hvisit, htarget, hvolume, hguard⟩ := hsuspended hv ht hz
    refine ⟨hvisit, htarget, hvolume, hguard, ?_⟩
    rw [hrest]
    simp [zoneIds, hv, ho, hpick, ht, hz]
  · rw [hzone, if_neg]
    rw [← s.inClosedGroups_iff] at hnot
    simpa [and_assoc, and_comm, and_left_comm] using hnot

/-- With no flag changed the evaluation changes nothing (R96). -/
theorem State.evaluateWindows_same {s : State} (h : ∀ g, (s.group g).windowOpen = s.windowNow g) : s.evaluateWindows groupIds = (s, false) := by
  have hnone : s.closedGroups = [] := List.filter_eq_nil_iff.mpr fun g _ => by rw [h g]; simp
  have hempty : ∀ x : Zone, x.inGroups [] = false := fun x => by cases hp : x.programme <;> simp [Zone.inGroups, hp]
  refine Prod.ext ?_ (Bool.eq_false_iff.mpr fun ho => ?_)
  · rw [State.evaluateWindows_fst, State.flagged_same h, hnone, State.closeVisits_none hempty, ite_self]
  · obtain ⟨g, hclosed, hopen⟩ := s.evaluateWindows_snd.mp ho
    rw [h g, hopen] at hclosed
    cases hclosed

/-- Results that agree with the table of R95 are those of the evaluation. -/
theorem State.windowNow_eq {s : State} {w : GroupId → Bool}
    (h : ∀ g, w g = true ↔ inSpan s.clock.valid (s.group g).start (s.group g).finish (s.clock.second / 60)) : w = s.windowNow :=
  funext fun g => Bool.eq_iff_iff.mpr ((h g).trans (windowOpenAt_iff ..).symm)

/-! ### SET-CLOCK -/

/-- The state with the time set and the clock VALID (R94). -/
def State.withTime (s : State) (day second : Nat) : State := { s with clock := { s.clock with day := day, second := second, valid := true } }

/-- The evaluation that follows, with its selection (R94, R96). -/
def State.clockSet (s : State) (day second : Nat) : State :=
  ((s.withTime day second).evaluateWindows groupIds).1.selectIf ((s.withTime day second).evaluateWindows groupIds).2

theorem State.runSetClock_refused {s : State} {p : Port} {d n : Nat} (hd : d ≤ 65535) (hs : (s.port p).strict = true) (hn : 86399 < n) :
    s.runSetClock p d n = (s, .naming .range 1) := by
  have hday : checkNat (s.strict p) 0 0 Config.countTop d = .ok d false := checkNat_inside (by simpa [outOfRange, Config.countTop] using hd)
  have hsecond : checkNat (s.strict p) 1 0 Config.lastSecond n = .out 1 := by
    rw [show s.strict p = true from hs]
    exact checkNat_strict_outside (by simpa [outOfRange, Config.lastSecond] using hn)
  unfold State.runSetClock
  rw [hday, hsecond]
  rfl

theorem State.runSetClock_passes {s : State} {p : Port} {d n : Nat} (hd : d ≤ 65535) (h : (s.port p).strict = false ∨ n ≤ 86399) :
    s.runSetClock p d n = (s.clockSet d (min 86399 n), .done (decide (86399 < n))) := by
  have hday : checkNat (s.strict p) 0 0 Config.countTop d = .ok d false := checkNat_inside (by simpa [outOfRange, Config.countTop] using hd)
  have hsecond : checkNat (s.strict p) 1 0 Config.lastSecond n = .ok (min 86399 n) (decide (86399 < n)) := by
    by_cases hn : 86399 < n
    · rw [show s.strict p = false from h.resolve_right (Nat.not_le.mpr hn), checkNat_clamp_outside (by decide)]
      · simp [intoRange, Config.lastSecond, hn]
      · simpa [outOfRange, Config.lastSecond] using hn
    · rw [checkNat_inside]
      · simp [hn, Nat.min_eq_right (Nat.not_lt.mp hn)]
      · simpa [outOfRange, Config.lastSecond] using hn
  have hpair : ((Checked.ok (min 86399 n) (decide (86399 < n))).andThen fun v => Checked.ok (d, v) false) =
      Checked.ok (d, min 86399 n) (decide (86399 < n)) := by simp [Checked.andThen]
  unfold State.runSetClock
  rw [hday, Checked.andThen_unmarked, hsecond, hpair]
  rfl

end Sys2Proof.Machine

open Sys2Proof Sys2Proof.Machine

/-- Settles O27: the check by `State.runSetClock_refused` and `State.runSetClock_passes`, the windows by `State.evaluateWindows_taken`. -/
theorem setClockMakesTheClockValid : Obligations.SetClockMakesTheClockValid := by
  refine fun s p d n hd h => ⟨fun hs hn => ?_, fun hp t w ht hw => ?_⟩
  · exact congrArg Host.Outcome.next (State.complete_named h (State.runSetClock_refused hd hs hn) (by decide))
  · have htime : t = s.withTime d (min 86399 n) := ht
    have hnow : w = t.windowNow := State.windowNow_eq (by rw [htime]; exact hw)
    have hr : t.resetLow = false := by rw [htime]; exact h.1
    have hset : exec (.setClock p d n) s = .next ((s.clockSet d (min 86399 n)).answer p (.setClock d n) .done (decide (86399 < n)) []) := by
      have hk : (s.clockSet d (min 86399 n)).inHand p (.setClock d n) none (s.port p).replies :=
        have k := keptInEvents_inHand none (s.port p).replies rfl
        k.selectIf (k.evaluateWindows h.inHand)
      exact congrArg Host.Outcome.next (State.complete_done h (State.runSetClock_passes hd hp) hk)
    have hgroup : ∀ g, s.group g = t.group g := fun g => by rw [htime]; rfl
    simp only [hgroup]
    unfold State.clockSet at hset
    rw [← htime] at hset
    refine ⟨fun hsame => ?_, (t.evaluateWindows groupIds).1, ?_, hnow ▸ State.evaluateWindows_taken hr⟩
    · rw [hset, State.evaluateWindows_same (hnow ▸ hsame)]
      rfl
    · rw [hset, hnow]
      exact congrArg (fun u => Host.Outcome.next (State.answer u p _ _ _ _)) (if_congr t.evaluateWindows_snd rfl rfl)

end

section
/-! Period rolls (R99 to R101, R141) and minute changes (R92, R96, R97). -/

namespace Sys2Proof.Machine

/-! ### The accounts -/

/-- The share of a zone is made up from the programmes, the ring and the allotment (R104). -/
theorem State.quotaShare_congr {s t : State} (hp : ∀ z, (t.zone z).programme = (s.zone z).programme) (hr : t.ring = s.ring)
    (ha : t.clock.allotment = s.clock.allotment) : t.quotaShare = s.quotaShare := by
  have hset : t.inQuotaSet = s.inQuotaSet := funext fun z => by unfold State.inQuotaSet; rw [hp, hr]
  have hquota : ∀ z, (t.zone z).programmedQuota = (s.zone z).programmedQuota := fun z => by unfold Zone.programmedQuota; rw [hp]
  have hsum : t.quotaSum = s.quotaSum := by
    unfold State.quotaSum
    rw [hset]
    simp only [hquota]
  funext z
  unfold State.quotaShare
  rw [hset, hsum, hquota, ha]

/-- The state with the old period's accounts closed and the effective quotas recomputed (R99 steps 1 to 3). -/
def State.accountsClosed (s : State) : State := (s.mapZones fun _ x => x.closePeriod).recomputeQuotas

theorem State.accountsClosed_zone (s : State) (z : ZoneId) :
    s.accountsClosed.zone z = { (s.zone z).closePeriod with effectiveQuota := s.quotaShare z } := by
  have hclosed : ∀ y, (s.mapZones fun _ x => x.closePeriod).zone y = (s.zone y).closePeriod := s.zone_mapZones fun _ x => x.closePeriod
  have hshare : (s.mapZones fun _ x => x.closePeriod).quotaShare = s.quotaShare :=
    State.quotaShare_congr (fun y => by rw [hclosed]; rfl) rfl rfl
  unfold State.accountsClosed
  rw [State.recomputeQuotas_zone, hclosed, hshare]

/-! ### The planner's part of a roll -/

/-- The open visits dropped and their channels closed (R141). -/
def State.visitsDropped (s : State) : State := s.closeVisits (fun _ => true) .periodRoll

theorem State.visitsDropped_eq (s : State) :
    s.visitsDropped = { s with
      zones := s.visitsDropped.zones, meters := s.visitsDropped.meters, energising := s.visitsDropped.energising, wetOrder := s.visitsDropped.wetOrder } := by
  obtain ⟨-, -, hrest⟩ := s.closeVisits_channelsClosed (fun _ => true) .periodRoll
  change State.visitsDropped s = _ at hrest
  generalize s.visitsDropped = u at hrest ⊢
  rw [hrest]
  simp

/-- A visit that a roll drops leaves its channel CLOSING and no visit (R133, R141). -/
theorem State.visitsDropped_open {s : State} {z : ZoneId} (hv : (s.zone z).visit = .openVisit) (ho : (s.zone z).isOpen = true)
    (ht : (s.zone z).useTag = some .quota) :
    (s.visitsDropped.zone z).valve = .closing ∧ (s.visitsDropped.zone z).visit = .noVisit ∧ (s.visitsDropped.zone z).visitTarget = none := by
  obtain ⟨hzone, -, -⟩ := s.closeVisits_channelsClosed (fun _ => true) .periodRoll
  have hclosed : s.visitsDropped.zone z = s.closedZone z .periodRoll := (hzone z).trans (if_pos (by simp [hv, ho]))
  rw [hclosed]
  unfold State.closedZone
  simp [hv, ht]

theorem State.visitsDropped_other {s : State} {z : ZoneId} (hv : (s.zone z).visit ≠ .openVisit) : s.visitsDropped.zone z = s.zone z := by
  obtain ⟨hzone, -, -⟩ := s.closeVisits_channelsClosed (fun _ => true) .periodRoll
  exact (hzone z).trans (if_neg (by simp [hv]))

/-- The suspended list cleared, the cycles renewed and the mark cleared (R141). -/
def State.rollFinished (s : State) : State :=
  { (s.pruneSuspended fun _ => true).mapZones (fun _ x => { x with cyclesRemaining := (x.programme.map (·.cycles)).getD 0 }) with
    planner := { (s.pruneSuspended fun _ => true).planner with allotmentReached := false } }

theorem State.takeRoll_finished (s : State) : s.takeRoll = s.visitsDropped.rollFinished := by
  unfold State.takeRoll State.rollFinished State.visitsDropped
  rfl

theorem State.rollFinished_zone (s : State) (z : ZoneId) :
    s.rollFinished.zone z =
      { (if z ∈ s.planner.suspended then (s.zone z).noVisit else s.zone z) with cyclesRemaining := ((s.zone z).programme.map (·.cycles)).getD 0 } := by
  have hpruned : (s.pruneSuspended fun _ => true).zone z = if z ∈ s.planner.suspended then (s.zone z).noVisit else s.zone z := by
    refine (s.zone_mapZones (fun z x => if decide (z ∈ s.planner.suspended) && true then x.noVisit else x) z).trans ?_
    simp
  have hcycles : s.rollFinished.zone z = _ :=
    (s.pruneSuspended fun _ => true).zone_mapZones (fun _ x => { x with cyclesRemaining := (x.programme.map (·.cycles)).getD 0 }) z
  rw [hcycles, hpruned]
  split <;> rfl

theorem State.rollFinished_eq (s : State) :
    s.rollFinished = { s with zones := s.rollFinished.zones, planner := ⟨s.planner.pointer, s.planner.round, [], false⟩ } := by
  have hempty : (s.planner.suspended.filter fun _ => !true) = [] := by simp
  rw [← hempty]
  rfl

theorem State.takeRoll_eq (s : State) :
    s.takeRoll = { s with
      zones := s.takeRoll.zones, meters := s.takeRoll.meters, energising := s.takeRoll.energising, wetOrder := s.takeRoll.wetOrder
      planner := ⟨s.planner.pointer, s.planner.round, [], false⟩ } := by
  have hdropped := s.visitsDropped_eq
  have hfinished := s.visitsDropped.rollFinished_eq
  rw [State.takeRoll_finished]
  generalize s.visitsDropped = t at hdropped hfinished ⊢
  generalize t.rollFinished = u at hfinished ⊢
  rw [hfinished, hdropped]

/-- The parts of a zone record that the planner's part of a roll leaves, and the cycles that it renews (R141). -/
theorem State.takeRoll_settled (s : State) (z : ZoneId) :
    (s.zone z).SettledAs (s.takeRoll.zone z) ∧
      (s.takeRoll.zone z).cyclesRemaining = match (s.zone z).programme with | some v => v.cycles | none => 0 := by
  have hdropped : (s.zone z).SettledAs (s.visitsDropped.zone z) := (s.closeVisits_quiet _ _).zone z
  rw [State.takeRoll_finished, State.rollFinished_zone, ← hdropped.programme]
  generalize s.visitsDropped.zone z = x at hdropped ⊢
  refine ⟨hdropped.trans ?_, ?_⟩
  · split <;> exact ⟨rfl, rfl, rfl, rfl, rfl, rfl, rfl, rfl, rfl, rfl, rfl⟩
  · cases x.programme <;> rfl

/-- The channel and the visit of a zone after the planner's part of a roll (R133, R141). -/
theorem State.takeRoll_visit (s : State) (z : ZoneId) :
    ((s.zone z).visit = .openVisit → (s.zone z).isOpen = true → (s.zone z).useTag = some .quota →
      (s.takeRoll.zone z).valve = .closing ∧ (s.takeRoll.zone z).visit = .noVisit ∧ (s.takeRoll.zone z).visitTarget = none) ∧
    ((s.zone z).visit ≠ .openVisit → (s.takeRoll.zone z).valve = (s.zone z).valve ∧ (s.takeRoll.zone z).useTag = (s.zone z).useTag) := by
  rw [State.takeRoll_finished, State.rollFinished_zone]
  refine ⟨fun hv ho ht => ?_, fun hv => ?_⟩
  · obtain ⟨hvalve, hvisit, htarget⟩ := State.visitsDropped_open hv ho ht
    generalize s.visitsDropped.zone z = x at hvalve hvisit htarget ⊢
    split
    · exact ⟨hvalve, rfl, rfl⟩
    · exact ⟨hvalve, hvisit, htarget⟩
  · rw [State.visitsDropped_other hv]
    split <;> exact ⟨rfl, rfl⟩

/-! ### The roll -/

/-- The state that the planner's part of a roll starts from: PERIOD-ROLLED has been posted (R99, R100). -/
theorem State.rollPeriod_eq (s : State) (cause : Int) (port : Option Port) :
    s.rollPeriod cause port = (s.accountsClosed.post .periodRolled none none port (some cause)).takeRoll := rfl

theorem State.rollPeriod_frame (s : State) (cause : Int) (port : Option Port) :
    s.rollPeriod cause port = { s with
      zones := (s.rollPeriod cause port).zones, meters := (s.rollPeriod cause port).meters, energising := (s.rollPeriod cause port).energising
      wetOrder := (s.rollPeriod cause port).wetOrder, planner := ⟨s.planner.pointer, s.planner.round, [], false⟩
      ports := (s.accountsClosed.post .periodRolled none none port (some cause)).ports } := by
  have htaken := State.takeRoll_eq (s.accountsClosed.post .periodRolled none none port (some cause))
  rw [← State.rollPeriod_eq] at htaken
  have hposted := s.accountsClosed.post_eq .periodRolled none none port (some cause)
  generalize s.accountsClosed.post .periodRolled none none port (some cause) = t at htaken hposted ⊢
  generalize s.rollPeriod cause port = u at htaken ⊢
  rw [htaken, hposted]
  rfl

theorem State.accountsPosted_zone (s : State) (cause : Int) (port : Option Port) (z : ZoneId) :
    (s.accountsClosed.post .periodRolled none none port (some cause)).zone z = { (s.zone z).closePeriod with effectiveQuota := s.quotaShare z } := by
  rw [State.post_zone, State.accountsClosed_zone]

/-- The accounts of a zone after a roll, and what the roll leaves of its record (R99, R141). -/
theorem State.rollPeriod_accounts (s : State) (cause : Int) (port : Option Port) (z : ZoneId) :
    let x := (s.rollPeriod cause port).zone z
    let y := s.zone z
    x.lastPeriodVolume = y.quotaVolume / 100 ∧ x.quotaVolume = 0 ∧ x.manualVolume = 0 ∧ x.frostVolume = 0 ∧
      x.effectiveQuota = s.quotaShare z ∧ x.cyclesRemaining = (match y.programme with | some v => v.cycles | none => 0) ∧
      x.programme = y.programme ∧ x.soakTimer = y.soakTimer ∧ x.lockout = y.lockout := by
  obtain ⟨hsettled, hcycles⟩ := State.takeRoll_settled (s.accountsClosed.post .periodRolled none none port (some cause)) z
  rw [State.accountsPosted_zone, ← State.rollPeriod_eq] at hsettled hcycles
  exact ⟨hsettled.lastPeriodVolume, hsettled.quotaVolume, hsettled.manualVolume, hsettled.frostVolume, hsettled.effectiveQuota, hcycles,
    hsettled.programme, hsettled.soakTimer, hsettled.lockout⟩

/-- The channel and the visit of a zone after a roll (R133, R141). -/
theorem State.rollPeriod_visit (s : State) (cause : Int) (port : Option Port) (z : ZoneId) :
    let x := (s.rollPeriod cause port).zone z
    let y := s.zone z
    (y.visit = .openVisit → y.isOpen = true → y.useTag = some .quota → x.valve = .closing ∧ x.visit = .noVisit ∧ x.visitTarget = none) ∧
      (y.visit ≠ .openVisit → x.valve = y.valve ∧ x.useTag = y.useTag) := by
  have hvisit := State.takeRoll_visit (s.accountsClosed.post .periodRolled none none port (some cause)) z
  rw [State.accountsPosted_zone, ← State.rollPeriod_eq] at hvisit
  exact hvisit

/-- The state that NEW-PERIOD leaves (R101). -/
def State.periodStarted (s : State) (p : Port) : State := (State.rollPeriod { s with clock := { s.clock with daysInto := 0 } } 2 (some p)).select

theorem State.runNewPeriod_eq (s : State) (p : Port) : s.runNewPeriod p = (s.periodStarted p, .done false) := by
  unfold State.runNewPeriod
  rfl

theorem State.periodStarted_inHand {s : State} {p : Port} {m : Option Bool} {rs : List Reply} (h : s.inHand p .newPeriod m rs) :
    (s.periodStarted p).inHand p .newPeriod m rs :=
  have k := keptInEvents_inHand m rs rfl
  k.select (k.rollPeriod h)

theorem exec_newPeriod {s : State} {p : Port} (h : s.completing p .newPeriod) :
    exec (.newPeriod p) s = .next ((s.periodStarted p).answer p .newPeriod .done false []) :=
  congrArg Host.Outcome.next (State.complete_done h (s.runNewPeriod_eq p) (State.periodStarted_inHand h.inHand))

/-! ### Minute changes -/

theorem Clock.advance_eq (c : Clock) : c.advance = { c with second := c.advance.second, day := c.advance.day } := by
  unfold Clock.advance
  split <;> rfl

theorem Clock.advance_passes (c : Clock) : c.advance.passes = (c.valid && decide (c.advance.second / 60 = c.startMinute)) := by
  have hadvance := c.advance_eq
  have hkept : c.advance.valid = c.valid ∧ c.advance.startMinute = c.startMinute := by
    rw [hadvance]
    exact ⟨rfl, rfl⟩
  obtain ⟨hvalid, hstart⟩ := hkept
  unfold Clock.passes
  rw [hvalid, hstart]
  rfl

theorem State.advanceClock_minute {s : State} {c : Clock} (hc : c = s.clock.advance) (hm : c.second % 60 = 0) :
    s.advanceClock = State.minuteChange { s with clock := c } := by
  subst hc
  unfold State.advanceClock
  exact if_pos hm

/-- The state with one more day into the period, as a pass that ends no period leaves it (R97). -/
def State.dayPassed (s : State) : State := { s with clock := { s.clock with daysInto := s.clock.daysInto + 1 } }

theorem State.takePass_reset {s : State} (hr : s.resetLow = true) :
    s.takePass =
      ({ s with clock :=
          if s.clock.daysInto + 1 = s.clock.periodLength then { s.clock with daysInto := 0, pendingRoll := true }
          else { s.clock with daysInto := s.clock.daysInto + 1 } }, false) := by
  unfold State.takePass
  rw [if_pos hr]
  split <;> rfl

theorem State.takePass_released {s : State} (hr : s.resetLow = false) :
    s.takePass =
      if s.clock.daysInto + 1 = s.clock.periodLength then (State.rollPeriod { s with clock := { s.clock with daysInto := 0 } } 1 none, true)
      else (s.dayPassed, false) := by
  unfold State.takePass
  split
  · exact if_neg (by simp [hr])
  · rfl

/-- A minute change while the RESET line is asserted: the flags, and the pass with its mark (R92). -/
theorem State.minuteChange_reset {s : State} (hr : s.resetLow = true) :
    s.minuteChange =
      { s.flagged with clock :=
          if s.clock.passes = true then
            if s.clock.daysInto + 1 = s.clock.periodLength then { s.clock with daysInto := 0, pendingRoll := true }
            else { s.clock with daysInto := s.clock.daysInto + 1 }
          else s.clock } := by
  have hflagged : (s.evaluateWindows groupIds).1 = s.flagged := by rw [State.evaluateWindows_fst, hr, if_pos rfl]
  have hclock : s.flagged.clock = s.clock := by rw [State.flagged_eq]
  have hlow : s.flagged.resetLow = true := by rw [State.flagged_eq]; exact hr
  unfold State.minuteChange
  dsimp only
  rw [hflagged, hr, State.takePass_reset hlow, ← hclock]
  cases s.flagged.clock.passes <;> rfl

/-- A minute change with the RESET line released, by what the evaluation of the windows leaves (R92, R96, R97). -/
theorem State.minuteChange_released {s u : State} {opened : Bool} (hr : s.resetLow = false) (hu : (s.evaluateWindows groupIds).1 = u)
    (ho : (s.evaluateWindows groupIds).2 = opened) (hlow : u.resetLow = false) :
    s.minuteChange =
      if u.clock.passes = true ∧ u.clock.daysInto + 1 = u.clock.periodLength then
        (State.rollPeriod { u with clock := { u.clock with daysInto := 0 } } 1 none).select
      else (if u.clock.passes = true then u.dayPassed else u).selectIf opened := by
  unfold State.minuteChange
  dsimp only
  rw [hu, ho, hr]
  rw [State.takePass_released hlow]
  cases hp : u.clock.passes with
  | false => simp
  | true =>
    by_cases hd : u.clock.daysInto + 1 = u.clock.periodLength
    · simp [hd, State.selectIf]
    · simp [hd]

theorem State.windowsTaken.clock {s u : State} {w : GroupId → Bool} (h : s.windowsTaken w u) : u.clock = s.clock := by
  obtain ⟨-, hrest, -⟩ := h
  rw [hrest]

theorem State.windowsTaken.resetLow {s u : State} {w : GroupId → Bool} (h : s.windowsTaken w u) : u.resetLow = s.resetLow := by
  obtain ⟨-, hrest, -⟩ := h
  rw [hrest]

end Sys2Proof.Machine

open Sys2Proof Sys2Proof.Machine

/-- Settles O29: the roll by `State.rollPeriod_frame`, `State.rollPeriod_accounts` and `State.rollPeriod_visit`, the minute change by `State.minuteChange_reset` and
`State.minuteChange_released`, its windows by `State.evaluateWindows_taken`. -/
theorem periodRollsByDirectiveAndByPass : Obligations.PeriodRollsByDirectiveAndByPass := by
  refine ⟨?_, fun s p h => ?_, ?_⟩
  · rintro s cause port hr u rfl
    have hframe := s.rollPeriod_frame cause port
    have hport : ∀ q, (s.rollPeriod cause port).port q = (s.port q).file ⟨.periodRolled, s.stamp, none, none, port, some cause⟩ := fun q => by
      rw [hframe]
      exact State.port_post (s := s.accountsClosed) hr .periodRolled none none port (some cause) q
    refine ⟨by rw [hframe], by rw [hframe], fun z => ?_, by rw [hframe], by rw [hframe], by rw [hframe], by rw [hframe], by rw [hframe],
      by rw [hframe], by rw [hframe], hport⟩
    obtain ⟨hlast, hquota, hmanual, hfrost, heffective, hcycles, hprogramme, hsoak, hlockout⟩ := s.rollPeriod_accounts cause port z
    exact ⟨hlast, hquota, hmanual, hfrost, heffective, hcycles, hprogramme, hsoak, hlockout, s.rollPeriod_visit cause port z⟩
  · exact exec_newPeriod h
  · rintro s c w passes hc hminute hw hpasses
    obtain ⟨hvalid, hdays, hlength⟩ : c.valid = s.clock.valid ∧ c.daysInto = s.clock.daysInto ∧ c.periodLength = s.clock.periodLength := by
      rw [hc, Clock.advance_eq]
      exact ⟨rfl, rfl, rfl⟩
    have hpass : c.passes = passes := by rw [hpasses, hc, Clock.advance_passes]
    have hexec : exec .secondAdvance s = .next (s.live State.countSecond).advanceClock := rfl
    rw [← hvalid] at hw
    refine ⟨fun hr => ?_, fun hr => ?_⟩
    · have hnow : w = State.windowNow { s with clock := c } := State.windowNow_eq hw
      have hlive : s.live State.countSecond = s := if_pos hr
      have hreset := State.minuteChange_reset (s := { s with clock := c }) hr
      rw [State.flagged_eq, ← hnow] at hreset
      dsimp only at hreset
      rw [hexec, hlive, State.advanceClock_minute hc hminute, hreset, hpass, hdays, hlength]
      rfl
    · let t : State := { s.countSecond with clock := c }
      have hnow : w = t.windowNow := State.windowNow_eq hw
      have hlive : s.live State.countSecond = s.countSecond := if_neg (by simp [hr])
      have htaken : t.windowsTaken w (t.evaluateWindows groupIds).1 := hnow ▸ State.evaluateWindows_taken hr
      have hopened : (t.evaluateWindows groupIds).2 = true ↔ ∃ g, (s.group g).windowOpen = false ∧ w g = true := hnow ▸ t.evaluateWindows_snd
      generalize hu : (t.evaluateWindows groupIds).1 = u at htaken
      generalize ho : (t.evaluateWindows groupIds).2 = opened at hopened
      have ⟨hclock, hlow⟩ : u.clock = c ∧ u.resetLow = false := ⟨htaken.clock, htaken.resetLow.trans hr⟩
      have hminutes := State.minuteChange_released (s := t) hr hu ho hlow
      rw [State.dayPassed, hclock, hpass, hdays, hlength] at hminutes
      refine ⟨u, htaken, ?_⟩
      rw [hexec, hlive, State.advanceClock_minute (s := s.countSecond) hc hminute]
      exact congrArg Host.Outcome.next (hminutes.trans (if_congr Iff.rfl rfl (if_congr hopened rfl rfl)))

end

section
/-! What the laws of R108 and R155 read of the state, and the operations that leave it as it stands, in the order of the model's files. -/

namespace Sys2Proof.Machine

/-- The regime in force, the ranks of the frames from the bottom of the stack, and whether frost is armed. -/
structure RegimeSheet where
  regime : Regime
  ranks : List Nat
  armed : Bool

def State.regimeSheet (s : State) : RegimeSheet := ⟨s.engine.regime, s.engine.stack.map Frame.rank, s.armed⟩

/-- The law of R108 on a sheet. -/
def RegimeSheet.ranked (x : RegimeSheet) : Prop := (x.ranks ++ [x.regime.number]).Pairwise (· < ·)

/-- The law of R155 on a sheet. -/
def RegimeSheet.frostWhileArmed (x : RegimeSheet) : Prop := x.regime = .frost ↔ x.armed = true

theorem State.stackRanked_iff (s : State) : s.stackRanked ↔ s.regimeSheet.ranked := Iff.rfl

theorem State.frostWhileArmed_iff (s : State) : s.frostWhileArmed ↔ s.regimeSheet.frostWhileArmed := Iff.rfl

theorem State.regimeSheet_congr {s t : State} (he : t.engine = s.engine) (hc : t.climate = s.climate) : t.regimeSheet = s.regimeSheet := by
  unfold State.regimeSheet State.armed
  rw [he, hc]

theorem Quiet.regimeSheet {s t : State} (q : Quiet s t) : t.regimeSheet = s.regimeSheet := State.regimeSheet_congr q.engine q.climate

theorem Quiet.armed {s t : State} (q : Quiet s t) : t.armed = s.armed := by
  unfold State.armed
  rw [q.climate]

theorem Judged.regimeSheet {s t : State} (j : Judged s t) : t.regimeSheet = s.regimeSheet :=
  State.regimeSheet_congr (by rw [j.rest]) (by rw [j.rest])

theorem PortsOnly.regimeSheet {s t : State} (k : PortsOnly s t) : t.regimeSheet = s.regimeSheet := State.regimeSheet_congr (by rw [k]) (by rw [k])

theorem Served.regimeSheet {s t : State} (k : Served s t) : t.regimeSheet = s.regimeSheet := State.regimeSheet_congr (by rw [k]) (by rw [k])

section
variable (s : State)

theorem State.post_regimeSheet (n : NoticeKind) (z : Option ZoneId) (i : Option HeaderId) (p : Option Port) (v : Option Int) :
    (s.post n z i p v).regimeSheet = s.regimeSheet := (s.post_quiet n z i p v).regimeSheet

/-! ### Supply events -/

theorem State.ceilingChange_regimeSheet (before : Flows) (port : Option Port) : (s.ceilingChange before port).regimeSheet = s.regimeSheet :=
  State.ceilingChange_keeps (P := fun t => t.regimeSheet = s.regimeSheet) (fun q h => q.regimeSheet.trans h) (fun k h => k.regimeSheet.trans h) rfl

theorem State.takeAtPoint_regimeSheet (ev : SupplyEvent) : (s.takeAtPoint ev).regimeSheet = s.regimeSheet :=
  State.takeAtPoint_keeps (P := fun t => t.regimeSheet = s.regimeSheet) (fun q h => q.regimeSheet.trans h) (fun k h => k.regimeSheet.trans h) ev rfl

theorem State.passPoint_regimeSheet : s.passPoint.regimeSheet = s.regimeSheet :=
  State.passPoint_keeps (P := fun t => t.regimeSheet = s.regimeSheet) (fun q h => q.regimeSheet.trans h) (fun k h => k.regimeSheet.trans h)
    (fun _ _ h => h) rfl

theorem State.takeUp_regimeSheet : s.takeUp.regimeSheet = s.regimeSheet := by
  rcases s.takeUp_cases with he | ⟨p, d, -, -, he⟩
  · rw [he]
  · rw [he]; rfl

theorem State.runDeclare_regimeSheet (p : Port) (flows : FlowFields) (validity : Nat) :
    (s.runDeclare p flows validity).1.regimeSheet = s.regimeSheet :=
  Checked.orRange_keeps (P := fun t => t.regimeSheet = s.regimeSheet) _ rfl fun _ _ =>
    (State.ceilingChange_regimeSheet _ _ _).trans (State.post_regimeSheet _ _ _ _ _ _)

theorem State.runSetFallback_regimeSheet (p : Port) (flows : FlowFields) : (s.runSetFallback p flows).1.regimeSheet = s.regimeSheet := by
  refine Checked.orRange_keeps (P := fun t => t.regimeSheet = s.regimeSheet) _ rfl fun v _ => ?_
  change (s.replaceFallback p v).regimeSheet = _
  unfold State.replaceFallback
  split
  · rfl
  · exact State.ceilingChange_regimeSheet _ _ _

theorem State.sendInto_regimeSheet (ev : SupplyEvent) (n : Nat) (due : Bool) : (s.sendInto ev n due).regimeSheet = s.regimeSheet := by
  rcases s.sendInto_cases ev n due with he | he
  · rw [he]
  · rw [he]; rfl

/-! ### The walks of a selection -/

theorem State.ifFits_regimeSheet {x : Programme} {f g : State → State} (hf : ∀ t, (f t).regimeSheet = t.regimeSheet)
    (hg : ∀ t, (g t).regimeSheet = t.regimeSheet) : (s.ifFits x f g).state.regimeSheet = s.regimeSheet := by
  unfold State.ifFits
  dsimp only
  split
  · exact (hf _).trans ((State.passPoint_regimeSheet _).trans s.passPoint_regimeSheet)
  · exact (hg _).trans s.passPoint_regimeSheet

theorem State.suspendedStep_regimeSheet (z : ZoneId) : (s.suspendedStep z).state.regimeSheet = s.regimeSheet := by
  unfold State.suspendedStep
  split
  · split
    · exact s.ifFits_regimeSheet (fun t => (t.continueVisit_quiet z _).regimeSheet) fun _ => rfl
    · rfl
  · rfl

theorem State.ringStep_regimeSheet (i : Nat) : (s.ringStep i).state.regimeSheet = s.regimeSheet := by
  unfold State.ringStep
  split
  · rfl
  · rename_i z _
    split
    · rfl
    · split
      · exact s.ifFits_regimeSheet (fun t => (State.newVisit_quiet (t.movePointer _ _) z _).regimeSheet) fun _ => rfl
      · rfl

theorem State.quotaSelect_regimeSheet : s.quotaSelect.regimeSheet = s.regimeSheet := by
  have hfirst := Progress.through_keeps (P := fun t => t.regimeSheet = s.regimeSheet) State.suspendedStep
    (fun z t ht => (t.suspendedStep_regimeSheet z).trans ht) s.planner.suspended s rfl
  unfold State.quotaSelect
  dsimp only
  split
  · exact hfirst
  · exact Progress.through_keeps (P := fun t => t.regimeSheet = s.regimeSheet) State.ringStep
      (fun i t ht => (t.ringStep_regimeSheet i).trans ht) _ _ hfirst

theorem State.frostSelect_regimeSheet : s.frostSelect.regimeSheet = s.regimeSheet :=
  Progress.through_keeps (P := fun t => t.regimeSheet = s.regimeSheet) State.frostStep
    (fun u t ht => (t.ifFits_regimeSheet (fun t => (t.frostVisit_quiet u.zone u.programme).regimeSheet) fun _ => rfl).trans ht) _ s rfl

theorem State.walkStep_regimeSheet (i : Nat) : (s.walkStep i).state.regimeSheet = s.regimeSheet := by
  have hskip : ∀ z v, (s.skipEntry i z v).regimeSheet = s.regimeSheet := fun z v => State.post_regimeSheet (s.setEntry i .skipped) _ _ _ _ _
  unfold State.walkStep
  split
  · rfl
  · rename_i e _
    split
    · split
      · exact hskip _ _
      · split
        · exact hskip _ _
        · split
          · rfl
          · exact s.ifFits_regimeSheet (fun t => (State.openChannel_quiet (t.setEntry i .running) e.zone .manual).regimeSheet) fun _ => rfl
    · rfl

theorem State.walk_regimeSheet : s.walk.regimeSheet = s.regimeSheet :=
  Progress.through_keeps (P := fun t => t.regimeSheet = s.regimeSheet) State.walkStep (fun i t ht => (t.walkStep_regimeSheet i).trans ht) _ s rfl

/-! ### Edits, lockouts and SHUT reports -/

theorem State.applyNow_regimeSheet (z : ZoneId) (e : PendingEdit) : (s.applyNow z e).regimeSheet = s.regimeSheet := by
  have hedited : (s.applyEdit z e).regimeSheet = s.regimeSheet := State.regimeSheet_congr (by rw [State.applyEdit_eq]) (by rw [State.applyEdit_eq])
  refine ((State.handOff_judged _ z _).regimeSheet.trans ?_).trans hedited
  unfold State.handOffQuotas
  split <;> rfl

theorem State.applyPending_regimeSheet (z : ZoneId) : (s.applyPending z).regimeSheet = s.regimeSheet := by
  unfold State.applyPending
  split
  · obtain ⟨hrest, -, -⟩ := State.landEdits_eq (s.applyNow z _) (s.zone z)
    rw [hrest]
    exact s.applyNow_regimeSheet z _
  · rfl

theorem State.setLockout_regimeSheet (z : ZoneId) (l : Lockout) : (s.setLockout z l).regimeSheet = s.regimeSheet := by
  unfold State.setLockout
  dsimp only
  split
  · exact State.post_regimeSheet _ _ _ _ _ _
  · rfl

theorem State.finishEntry_regimeSheet (z : ZoneId) (e : Ending) : (s.finishEntry z e).regimeSheet = s.regimeSheet := by
  unfold State.finishEntry
  split
  · dsimp only
    split
    · exact State.post_regimeSheet _ _ _ _ _ _
    · rfl
  · rfl

theorem State.takeShut_regimeSheet (z : ZoneId) (r : ShutReport) : (s.takeShut z r).regimeSheet = s.regimeSheet := by
  unfold State.takeShut
  split
  · exact (s.endOpenVisit_quiet z .dropped).regimeSheet
  · exact s.finishEntry_regimeSheet z _
  · split
    · rfl
    · rfl
  · rfl

theorem State.triageAtShut_regimeSheet (before : Zone) : (s.triageAtShut before).regimeSheet = s.regimeSheet := by
  unfold State.triageAtShut
  split
  · exact s.retriage_judged.regimeSheet
  · rfl

/-! ### Visits, windows and periods -/

theorem State.testAllotment_regimeSheet (port : Option Port) : (s.testAllotment port).regimeSheet = s.regimeSheet := by
  unfold State.testAllotment
  split
  · split
    · rfl
    · exact (State.closeVisits_quiet _ _ _).regimeSheet.trans (State.post_regimeSheet _ _ _ _ _ _)
  · rfl

theorem State.reportProgress_regimeSheet (r : Option (List ZoneId)) : (s.reportProgress r).regimeSheet = s.regimeSheet := by
  cases r with
  | none => rfl
  | some zs =>
    refine (State.testAllotment_regimeSheet _ none).trans (State.forZones_quiet _ (fun z t => ?_) zs s).regimeSheet
    split
    · exact t.closeChannel_quiet z _
    · exact .refl t

theorem State.evaluateWindows_regimeSheet (gs : List GroupId) : (s.evaluateWindows gs).1.regimeSheet = s.regimeSheet := by
  have hstore : (gs.foldl State.storeWindow s).regimeSheet = s.regimeSheet :=
    List.foldlRecOn (motive := fun t : State => t.regimeSheet = s.regimeSheet) _ _ rfl fun _ ht _ _ => ht
  unfold State.evaluateWindows
  dsimp only
  split
  · exact hstore
  · exact (State.closeVisits_quiet _ _ _).regimeSheet.trans hstore

theorem State.rollPeriod_regimeSheet (cause : Int) (port : Option Port) : (s.rollPeriod cause port).regimeSheet = s.regimeSheet := by
  have hframe := s.rollPeriod_frame cause port
  exact State.regimeSheet_congr (by rw [hframe]) (by rw [hframe])

theorem State.takePass_regimeSheet : s.takePass.1.regimeSheet = s.regimeSheet := by
  unfold State.takePass
  split
  · split
    · rfl
    · exact State.rollPeriod_regimeSheet _ _ _
  · rfl

/-! ### Meters -/

theorem State.apportion_regimeSheet (i : HeaderId) : (s.apportion i).regimeSheet = s.regimeSheet :=
  State.regimeSheet_congr (by rw [State.apportion_eq]) (by rw [State.apportion_eq])

theorem State.rawPulse_regimeSheet (i : HeaderId) : (s.rawPulse i).regimeSheet = s.regimeSheet := by
  rw [State.rawPulse_eq]
  split
  · rfl
  · split
    · rfl
    · split
      · rfl
      · exact State.post_regimeSheet _ _ _ _ _ _

theorem State.postFlow_regimeSheet (i : HeaderId) (called : Option Direction) (only : Option ZoneId) (flow : Nat) :
    (s.postFlow i called only flow).regimeSheet = s.regimeSheet := by
  cases called with
  | none => rfl
  | some d => exact s.post_regimeSheet _ _ _ _ _

/-! ### Stops and frost -/

theorem State.stopEngine_regimeSheet (cause : StopCause) (port : Option Port) (value : Int) :
    (s.stopEngine cause port value).regimeSheet = s.regimeSheet :=
  (State.post_regimeSheet _ _ _ _ _ _).trans (State.closeAll_quiet _ .stop).regimeSheet

theorem State.takeStop_regimeSheet : s.takeStop.regimeSheet = s.regimeSheet := by
  unfold State.takeStop
  split
  · exact s.stopEngine_regimeSheet _ _ _
  · exact s.stopEngine_regimeSheet _ _ _
  · split
    · rfl
    · exact State.post_regimeSheet _ _ _ _ _ _

theorem State.armingChanges_regimeSheet : s.armingChanges.regimeSheet = s.regimeSheet := (State.triage_judged _).regimeSheet

theorem State.judgeStale_regimeSheet (wasFresh : Bool) : (s.judgeStale wasFresh).regimeSheet = s.regimeSheet := by
  unfold State.judgeStale
  split
  · exact s.post_regimeSheet _ _ _ _ _
  · rfl

end
end Sys2Proof.Machine
end

section
/-! Pops for any port, by the top of the stack (R110, R111). -/

namespace Sys2Proof.Machine

section
variable {s : State} (port : Option Port)

/-- Over an empty stack the regime becomes IDLE. -/
theorem State.restore_empty (h : s.engine.stack = []) :
    s.restore port = State.post { s with engine := { s.engine with regime := .idle, manual := none } } .regimeChanged none none port (some 0) := by
  unfold State.restore
  rw [h]
  rfl

/-- A QUOTA frame on top gives back its pointer and round count. -/
theorem State.restore_quotaFrame {below : List Frame} {i r : Nat} (h : s.engine.stack = below ++ [.quota i r]) :
    s.restore port = State.post { s with
      engine := { s.engine with regime := .quota, manual := none, stack := below }
      planner := { s.planner with pointer := i, round := r } } .regimeChanged none none port (some 1) := by
  unfold State.restore
  rw [h, List.getLast?_concat, List.dropLast_concat]
  rfl

/-- A MANUAL frame on top gives back its run list. -/
theorem State.restore_manualFrame {below : List Frame} {es : List Entry} (h : s.engine.stack = below ++ [.manual es]) :
    s.restore port =
      State.post { s with engine := { s.engine with regime := .manual, manual := some es, stack := below } } .regimeChanged none none port (some 2) := by
  unfold State.restore
  rw [h, List.getLast?_concat, List.dropLast_concat]
  rfl

/-- The pop over an empty stack (R110). -/
theorem State.pop_empty (h : s.engine.stack = []) :
    s.pop port = State.post { s with engine := { s.engine with regime := .idle, manual := none } } .regimeChanged none none port (some 0) := by
  unfold State.pop
  rw [State.restore_empty port h]
  simp [Engine.nothingWaiting]

/-- The pop of a QUOTA frame (R110). -/
theorem State.pop_quotaFrame {below : List Frame} {i r : Nat} (h : s.engine.stack = below ++ [.quota i r]) :
    s.pop port = State.post { s with
      engine := { s.engine with regime := .quota, manual := none, stack := below }
      planner := { s.planner with pointer := i, round := r } } .regimeChanged none none port (some 1) := by
  unfold State.pop
  rw [State.restore_quotaFrame port h]
  simp [Engine.nothingWaiting]

/-- The pop of a MANUAL frame: over a list with nothing left WAITING the stack is popped once more (R110; log entry 13). -/
theorem State.pop_manualFrame {below : List Frame} {es : List Entry} (h : s.engine.stack = below ++ [.manual es]) :
    s.pop port = if ∀ e ∈ es, e.state ≠ .waiting then (s.restore port).restore port else s.restore port := by
  have hengine : (s.restore port).engine = { s.engine with regime := .manual, manual := some es, stack := below } := by
    rw [State.restore_manualFrame port h, State.post_engine]
  have hdone : (s.restore port).engine.nothingWaiting = true ↔ ∀ e ∈ es, e.state ≠ .waiting := by
    rw [hengine]
    simp [Engine.nothingWaiting, Engine.entries]
  unfold State.pop
  exact if_congr hdone rfl rfl

end
end Sys2Proof.Machine
end

section
/-! The changes of regime (R108 to R118, R163, R164), and the laws of R108 and R155 through the operations that make them or select. -/

namespace Sys2Proof.Machine

/-! ### Stacks -/

namespace RegimeSheet
variable {x : RegimeSheet}

theorem ranked_iff : x.ranked ↔ x.ranks.Pairwise (· < ·) ∧ ∀ n ∈ x.ranks, n < x.regime.number := by
  simp [ranked, List.pairwise_append]

/-- A higher regime may take the place of the one in force. -/
theorem ranked.raise (h : x.ranked) {r : Regime} (hr : x.regime.number ≤ r.number) (a : Bool) : ranked ⟨r, x.ranks, a⟩ := by
  obtain ⟨hranks, hbelow⟩ := ranked_iff.mp h
  exact ranked_iff.mpr ⟨hranks, fun n hn => (hbelow n hn).trans_le hr⟩

/-- A higher regime may be entered with a frame of the one in force pushed (R109). -/
theorem ranked.push (h : x.ranked) {r : Regime} (hr : x.regime.number < r.number) (a : Bool) : ranked ⟨r, x.ranks ++ [x.regime.number], a⟩ := by
  refine ranked_iff.mpr ⟨h, fun n hn => ?_⟩
  rcases List.mem_append.mp hn with hin | hlast
  · exact ((ranked_iff.mp h).2 n hin).trans hr
  · rw [List.mem_singleton.mp hlast]
    exact hr

/-- Frames may be taken out of the stack (R113, R118). -/
theorem ranked.thin (h : x.ranked) {l : List Nat} (hl : l.Sublist x.ranks) (a : Bool) : ranked ⟨x.regime, l, a⟩ :=
  List.Pairwise.sublist (hl.append_right _) h

/-- A frame that ranks below all the others and the regime in force may be put at the bottom (R112). -/
theorem ranked.lift (h : x.ranked) {n : Nat} (hn : ∀ m ∈ x.ranks, n < m) (hr : n < x.regime.number) (a : Bool) :
    ranked ⟨x.regime, n :: x.ranks, a⟩ := by
  refine List.pairwise_cons.mpr ⟨fun m hm => ?_, h⟩
  rcases List.mem_append.mp hm with hin | hlast
  · exact hn m hin
  · rw [List.mem_singleton.mp hlast]
    exact hr

end RegimeSheet

/-- The regime of a frame (R108). -/
def Frame.regime : Frame → Regime
  | .quota _ _ => .quota
  | .manual _ => .manual

theorem Frame.regime_number (f : Frame) : f.regime.number = f.rank := by cases f <;> rfl

section
variable (s : State)

theorem State.enterRegime_regimeSheet (r : Regime) (manual : Option (List Entry)) (stack : List Frame) (port : Option Port) :
    (s.enterRegime r manual stack port).regimeSheet = ⟨r, stack.map Frame.rank, s.armed⟩ := State.post_regimeSheet _ _ _ _ _ _

/-- A restored frame's regime is in force over the frames below it; IDLE over an empty stack (R110). -/
theorem State.restore_regimeSheet (port : Option Port) :
    (s.engine.stack = [] ∧ (s.restore port).regimeSheet = ⟨.idle, [], s.armed⟩) ∨
      ∃ below f, s.engine.stack = below ++ [f] ∧ (s.restore port).regimeSheet = ⟨f.regime, below.map Frame.rank, s.armed⟩ := by
  rcases List.eq_nil_or_concat' s.engine.stack with hempty | ⟨below, f, hstack⟩
  · refine .inl ⟨hempty, ?_⟩
    rw [State.restore_empty port hempty, State.post_regimeSheet]
    unfold State.regimeSheet
    rw [hempty]
    rfl
  · refine .inr ⟨below, f, hstack, ?_⟩
    cases f with
    | quota i r =>
      rw [State.restore_quotaFrame port hstack, State.post_regimeSheet]
      rfl
    | manual es =>
      rw [State.restore_manualFrame port hstack, State.post_regimeSheet]
      rfl

/-- A pop leaves the stack ranked (R108, R110). -/
theorem State.restore_ranked (port : Option Port) (h : s.regimeSheet.ranked) : (s.restore port).regimeSheet.ranked := by
  rcases s.restore_regimeSheet port with ⟨-, he⟩ | ⟨below, f, hstack, he⟩
  · rw [he]
    exact List.pairwise_singleton _ _
  · rw [he]
    unfold RegimeSheet.ranked
    have hranks := (RegimeSheet.ranked_iff.mp h).1
    rw [State.regimeSheet, hstack, List.map_append] at hranks
    rw [Frame.regime_number]
    exact hranks

/-- A pop restores no FROST, and leaves frost armed or disarmed as it is. -/
theorem State.restore_frost (port : Option Port) : (s.restore port).regimeSheet.regime ≠ .frost ∧ (s.restore port).regimeSheet.armed = s.armed := by
  rcases s.restore_regimeSheet port with ⟨-, he⟩ | ⟨below, f, -, he⟩
  · rw [he]
    exact ⟨nofun, rfl⟩
  · rw [he]
    cases f <;> exact ⟨nofun, rfl⟩

theorem State.pop_ranked (port : Option Port) (h : s.regimeSheet.ranked) : (s.pop port).regimeSheet.ranked := by
  have honce := s.restore_ranked port h
  unfold State.pop
  dsimp only
  split
  · exact State.restore_ranked _ port honce
  · exact honce

theorem State.pop_frost (port : Option Port) : (s.pop port).regimeSheet.regime ≠ .frost ∧ (s.pop port).regimeSheet.armed = s.armed := by
  have honce := s.restore_frost port
  unfold State.pop
  dsimp only
  split
  · obtain ⟨hregime, harmed⟩ := (s.restore port).restore_frost port
    exact ⟨hregime, harmed.trans honce.2⟩
  · exact honce

theorem State.reportFramed_regimeSheet (es : List Entry) : (s.reportFramed es).regimeSheet = s.regimeSheet :=
  List.foldlRecOn (motive := fun t : State => t.regimeSheet = s.regimeSheet) _ _ rfl fun t ht e _ => by
    split
    · exact (t.post_regimeSheet _ _ _ _ _).trans ht
    · exact ht

/-- Arming brings FROST in force, with a frame of the regime that it finds (R109). -/
theorem State.pushFrost_regimeSheet :
    s.pushFrost.regimeSheet =
      ⟨.frost, s.engine.stack.map Frame.rank ++ (if s.engine.regime = .quota ∨ s.engine.regime = .manual then [s.engine.regime.number] else []),
        s.armed⟩ := by
  have hframed : (s.reportFramed s.engine.entries).armed = s.armed := congrArg RegimeSheet.armed (s.reportFramed_regimeSheet _)
  unfold State.pushFrost
  split
  · rename_i hr
    simp [State.enterRegime_regimeSheet, hr]
  · rename_i hr
    simp [State.enterRegime_regimeSheet, hr, (s.closeTagged_quiet _ _).armed, State.quotaFrame, Frame.rank, Regime.number]
  · rename_i hr
    simp [State.enterRegime_regimeSheet, hr, (State.closeTagged_quiet _ _ _).armed, hframed, Frame.rank, Regime.number]
  · rename_i hr
    simp [State.regimeSheet, hr]

theorem State.pushFrost_ranked (h : s.regimeSheet.ranked) : s.pushFrost.regimeSheet.ranked := by
  rw [State.pushFrost_regimeSheet]
  cases hr : s.engine.regime with
  | idle => simpa [State.regimeSheet] using h.raise (r := .frost) (by simp [State.regimeSheet, hr, Regime.number]) _
  | quota => simpa [State.regimeSheet, hr] using h.push (r := .frost) (by simp [State.regimeSheet, hr, Regime.number]) _
  | manual => simpa [State.regimeSheet, hr] using h.push (r := .frost) (by simp [State.regimeSheet, hr, Regime.number]) _
  | frost => simpa [State.regimeSheet] using h.raise (r := .frost) (by simp [State.regimeSheet, hr, Regime.number]) _

end

/-- From `r` to `s` the law of R108 is kept, and so is the law of R155. -/
def KeepsRegimes (r s : State) : Prop :=
  (r.regimeSheet.ranked → s.regimeSheet.ranked) ∧ (r.regimeSheet.frostWhileArmed → s.regimeSheet.frostWhileArmed)

namespace KeepsRegimes
variable {r s t : State}

theorem refl (s : State) : KeepsRegimes s s := ⟨id, id⟩

/-- The laws read the sheet alone. -/
theorem same (h : KeepsRegimes r s) (ht : t.regimeSheet = s.regimeSheet) : KeepsRegimes r t := by
  unfold KeepsRegimes
  rw [ht]
  exact h

theorem quiet (h : KeepsRegimes r s) (q : Quiet s t) : KeepsRegimes r t := h.same q.regimeSheet

theorem judged (h : KeepsRegimes r s) (j : Judged s t) : KeepsRegimes r t := h.same j.regimeSheet

/-- While the regime is not FROST and frost is disarmed, a pop keeps both laws. -/
theorem pop (h : KeepsRegimes r s) (hr : s.engine.regime ≠ .frost) (port : Option Port) : KeepsRegimes r (s.pop port) := by
  obtain ⟨hranked, hfrost⟩ := h
  obtain ⟨hregime, harmed⟩ := s.pop_frost port
  refine ⟨fun k => s.pop_ranked port (hranked k), fun k => ?_⟩
  have hdisarmed : ¬s.armed = true := fun ha => hr ((hfrost k).mpr ha)
  exact iff_of_false hregime (harmed ▸ hdisarmed)

/-! ### Selections -/

theorem selectTurns (h : KeepsRegimes r s) (n : Nat) : KeepsRegimes r (s.selectTurns n) := by
  induction n generalizing s with
  | zero => exact h
  | succ n ih =>
    unfold State.selectTurns
    split
    · split
      · exact h
      · exact h.same s.quotaSelect_regimeSheet
      · exact h.same s.frostSelect_regimeSheet
      · rename_i hmanual
        have hwalk : s.walk.engine.regime = .manual := (congrArg RegimeSheet.regime s.walk_regimeSheet).trans hmanual
        dsimp only
        split
        · exact ih ((h.same s.walk_regimeSheet).pop (by rw [hwalk]; decide) none)
        · exact h.same s.walk_regimeSheet
    · exact h

theorem reportTurns (h : KeepsRegimes r s) (n : Nat) : KeepsRegimes r (s.reportTurns n) := by
  induction n generalizing s with
  | zero => exact h
  | succ n ih =>
    have howed : KeepsRegimes r { s with ceilingReportOwed := false } := h
    unfold State.reportTurns
    split
    · exact ih ((howed.judged (State.retriage_judged _)).selectTurns _)
    · exact h

theorem select (h : KeepsRegimes r s) : KeepsRegimes r s.select := (h.selectTurns _).reportTurns _

theorem selectIf (h : KeepsRegimes r s) (due : Bool) : KeepsRegimes r (s.selectIf due) := by
  cases due
  · exact h
  · exact h.select

theorem reportCeilings (h : KeepsRegimes r s) : KeepsRegimes r s.reportCeilings := by
  have howed : KeepsRegimes r { s with ceilingReportOwed := false } := h
  unfold State.reportCeilings
  split
  · exact (howed.judged (State.retriage_judged _)).select
  · exact h

end KeepsRegimes
end Sys2Proof.Machine
end

section
/-! The laws of R108 and R155 through the events that select, and through every step. -/

namespace Sys2Proof.Machine
theorem State.clearSuspended_engine (s : State) : s.clearSuspended.engine = s.engine := rfl

namespace KeepsRegimes
variable {r s t : State}

/-! ### Arrival at SHUT and lockouts -/

theorem shutReports (h : KeepsRegimes r s) (z : ZoneId) (x : ShutReport) : KeepsRegimes r (s.shutReports z x) := by
  have hlowered : KeepsRegimes r (s.lowerCommitted (s.zone z).opened) := by cases (s.zone z).opened <;> exact h
  have hsettled : KeepsRegimes r (if x.direct && x.wetEnded then (s.lowerCommitted (s.zone z).opened).markSettling (s.zone z).openedHeader
      else s.lowerCommitted (s.zone z).opened) := by
    split
    · exact hlowered.quiet (State.markSettling_quiet _ _)
    · exact hlowered
  have htaken := (hsettled.same (State.applyPending_regimeSheet _ z)).same (State.takeShut_regimeSheet _ z x)
  have hshut := htaken.quiet (State.startDryClock_quiet _ z (x.direct && x.wetEnded))
  exact (hshut.same (State.triageAtShut_regimeSheet _ (s.zone z))).select

theorem driveFault (h : KeepsRegimes r s) (z : ZoneId) : KeepsRegimes r (s.driveFault z) := by
  have hshut : KeepsRegimes r ((s.updZone z Zone.shut).leaveOrders z) := h
  unfold State.driveFault
  dsimp only
  split
  · exact (hshut.same (State.setLockout_regimeSheet _ z .driveFault)).shutReports z _
  · exact h

theorem requestLockout (h : KeepsRegimes r s) (z : ZoneId) (l : Lockout) : KeepsRegimes r (s.requestLockout z l) := by
  have hlocked := h.same (s.setLockout_regimeSheet z l)
  have hjudged : KeepsRegimes r (if ((s.setLockout z l).zone z).frostMember then (s.setLockout z l).retriage else s.setLockout z l) := by
    split
    · exact hlocked.judged (State.retriage_judged _)
    · exact hlocked
  unfold State.requestLockout
  dsimp only
  split
  · split
    · exact hlocked.quiet (State.closeChannel_quiet _ z _)
    · exact hlocked.quiet (State.closeChannel_quiet _ z _)
    · exact hlocked
    · unfold State.lockoutWhileShut
      extract_lets t
      split
      · exact hjudged
      · exact hjudged.select
  · exact h

theorem removeLockout (h : KeepsRegimes r s) (z : ZoneId) : KeepsRegimes r (s.removeLockout z) := by
  have hcleared : KeepsRegimes r (s.updZone z fun x => { x with lockout := none }) := h
  refine KeepsRegimes.select ?_
  split
  · exact hcleared.judged (State.retriage_judged _)
  · exact hcleared

/-! ### Meters and the clock -/

theorem sendLockout (h : KeepsRegimes r s) (called : Option Direction) (only : Option ZoneId) (later : Bool) :
    KeepsRegimes r (s.sendLockout called only later) := by
  unfold State.sendLockout
  split
  · split
    · exact h
    · exact h.requestLockout _ _
  · exact h

/-- An expiry of an interval, in whatever order its reports are taken (R59; log entry 9). -/
theorem expireInterval (h : KeepsRegimes r s) (i : HeaderId) (order : ExpiryOrder) : KeepsRegimes r (s.expireInterval i order) := by
  have hcredit : ∀ f, KeepsRegimes r ((s.apportion i).updMeter i f) := fun _ => h.same (s.apportion_regimeSheet i)
  have hbegin : ∀ t : State, KeepsRegimes r t → KeepsRegimes r (t.beginInterval i) := fun _ ht => ht
  have report : ∀ {t : State} x, KeepsRegimes r t → KeepsRegimes r (t.reportProgress x) := fun x ht => ht.same (State.reportProgress_regimeSheet _ x)
  have notice : ∀ {t : State} c o f, KeepsRegimes r t → KeepsRegimes r (t.postFlow i c o f) :=
    fun c o f ht => ht.same (State.postFlow_regimeSheet _ i c o f)
  unfold State.expireInterval
  refine hbegin _ ?_
  cases order with
  | progressFirst => exact (notice _ _ _ (report _ (hcredit _))).sendLockout _ _ _
  | noticeFirst => exact (report _ (notice _ _ _ (hcredit _))).sendLockout _ _ _
  | lockoutFirst => exact report _ ((notice _ _ _ (hcredit _)).sendLockout _ _ _)
  | lockoutLater => exact (notice _ _ _ (report _ (hcredit _))).sendLockout _ _ _
  | noticeFirstLockoutLater => exact (report _ (notice _ _ _ (hcredit _))).sendLockout _ _ _

theorem replaceMeter (h : KeepsRegimes r s) (i : HeaderId) (v : MeterSettings) : KeepsRegimes r (s.replaceMeter i v) :=
  (h.same (s.apportion_regimeSheet i)).same (State.reportProgress_regimeSheet _ _)

theorem windows (h : KeepsRegimes r s) (gs : List GroupId) :
    KeepsRegimes r ((s.evaluateWindows gs).1.selectIf (s.evaluateWindows gs).2) := (h.same (s.evaluateWindows_regimeSheet gs)).selectIf _

theorem advanceClock (h : KeepsRegimes r s) : KeepsRegimes r s.advanceClock := by
  have hadvanced : KeepsRegimes r { s with clock := s.clock.advance } := h
  unfold State.advanceClock State.minuteChange
  dsimp only
  split
  · refine KeepsRegimes.selectIf ?_ _
    split
    · exact (hadvanced.same (State.evaluateWindows_regimeSheet _ _)).same (State.takePass_regimeSheet _)
    · exact hadvanced.same (State.evaluateWindows_regimeSheet _ _)
  · exact hadvanced

theorem replacePeriod (h : KeepsRegimes r s) (p : Port) (v : PeriodSettings) : KeepsRegimes r (s.replacePeriod p v) := by
  have hset : KeepsRegimes r (State.recomputeQuotas { s with clock := s.clock.withSettings v }) := h
  unfold State.replacePeriod
  dsimp only
  split
  · exact h
  · exact (hset.same (State.testAllotment_regimeSheet _ _)).select

/-! ### Frost -/

/-- Arming brings FROST in force over a frame of the regime that it finds, and frost is armed (R109, R155). -/
theorem armFrost (h : KeepsRegimes r s) {target : FrostState} (ht : target ≠ .disarmed) (inhibit : Bool) (port : Option Port) (value : Int) :
    KeepsRegimes r (s.armFrost target inhibit port value) := by
  let t := State.post { s with climate := { s.climate with frost := target, thawTimer := 0, inhibit := inhibit } } .frostArmed none none port (some value)
  have hsheet : t.regimeSheet = ⟨s.engine.regime, s.engine.stack.map Frame.rank, decide (target ≠ .disarmed)⟩ := State.post_regimeSheet _ _ _ _ _ _
  have hpushed : KeepsRegimes r t.pushFrost := by
    refine ⟨fun k => t.pushFrost_ranked ?_, fun _ => ?_⟩
    · rw [hsheet]
      exact h.1 k
    · rw [State.pushFrost_regimeSheet]
      exact iff_of_true rfl ((congrArg RegimeSheet.armed hsheet).trans (decide_eq_true ht))
  exact (hpushed.same (State.armingChanges_regimeSheet _)).select

/-- Disarming pops, and frost is disarmed (R155, R164). -/
theorem disarmFrost (h : KeepsRegimes r s) (inhibit : Bool) (port : Option Port) (value : Int) : KeepsRegimes r (s.disarmFrost inhibit port value) := by
  let t := (State.post { s with climate := { s.climate with frost := .disarmed, thawTimer := 0, inhibit := inhibit } } .frostDisarmed none none port
    (some value)).clearAdmitted
  have hsheet : t.regimeSheet = ⟨s.engine.regime, s.engine.stack.map Frame.rank, false⟩ := State.post_regimeSheet _ _ _ _ _ _
  obtain ⟨hregime, harmed⟩ := t.pop_frost port
  have hpopped : KeepsRegimes r (t.pop port) := by
    refine ⟨fun k => t.pop_ranked port ?_, fun _ => iff_of_false hregime ?_⟩
    · rw [hsheet]
      exact h.1 k
    · rw [harmed, show t.armed = false from congrArg RegimeSheet.armed hsheet]
      decide
  exact hpopped.select

theorem evaluateClimate (h : KeepsRegimes r s) (isReport : Bool) (port : Option Port) : KeepsRegimes r (s.evaluateClimate isReport port) := by
  have hjudged : KeepsRegimes r
      { s with climate := Climate.judgeInhibit { s.climate with effective := lowest s.climate.freshTemperatures } isReport } := by
    refine h.same ?_
    unfold Climate.judgeInhibit
    split <;> rfl
  refine KeepsRegimes.same (s := State.judgeFrost _ port) ?_ (State.judgeStale_regimeSheet _ _)
  unfold State.judgeFrost
  dsimp only
  split
  · split
    · exact hjudged.armFrost (by decide) _ _ _
    · exact hjudged
  · split
    · split
      · exact hjudged.disarmFrost _ _ _
      · exact hjudged
    · exact hjudged
  · exact hjudged

theorem expireSlot (h : KeepsRegimes r s) (p : Port) : KeepsRegimes r (s.expireSlot p) := by
  have hset : ∀ x, KeepsRegimes r (s.setSlot p x) := fun _ => h
  unfold State.expireSlot
  split
  · split
    · exact (hset _).evaluateClimate false none
    · exact h
  · exact h

theorem reinitialise (h : KeepsRegimes r s) (p : Port) (x : Straps) : KeepsRegimes r (s.reinitialise p x) := by
  have hreset : KeepsRegimes r ((s.updPort p fun q => q.reinitialised x (decide (s.hold planEntry = .held p))).setSlot p none) := h
  exact hreset.evaluateClimate false none

/-- The release of the RESET line: IDLE over an empty stack, and frost disarmed (R107, R143). -/
theorem releaseReset (r s : State) (a b c : Straps) : KeepsRegimes r (s.releaseReset a b c) := by
  have hsheet : (s.restarted a b c).regimeSheet = ⟨.idle, [], false⟩ := by
    rw [State.restarted_eq]
    rfl
  have hrestarted : KeepsRegimes r (s.restarted a b c) := by
    unfold KeepsRegimes
    rw [hsheet]
    exact ⟨fun _ => List.pairwise_singleton _ _, fun _ => iff_of_false nofun nofun⟩
  have hpending : KeepsRegimes r { s.restarted a b c with clock := { s.clock with pendingRoll := false } } := hrestarted
  rw [State.releaseReset_eq]
  split
  · exact hpending.same (State.rollPeriod_regimeSheet _ 3 none)
  · exact hrestarted

/-! ### The directives of the engine -/

theorem runStartQuota (h : KeepsRegimes r s) (p : Port) : KeepsRegimes r (s.runStartQuota p).1 := by
  have hinsert : s.engine.regime = .manual ∨ s.engine.regime = .frost → s.engine.hasQuotaFrame ≠ true → KeepsRegimes r s.insertQuotaFrame :=
    fun hr hn => ⟨fun k => by
      refine (h.1 k).lift (n := 1) (fun m hm => ?_) ?_ s.armed
      · obtain ⟨f, hf, rfl⟩ := List.mem_map.mp hm
        cases f with
        | quota i n => exact absurd (List.any_eq_true.mpr ⟨_, hf, rfl⟩) hn
        | manual es => exact Nat.lt_succ_self 1
      · rcases hr with hr | hr <;> simp [State.regimeSheet, hr, Regime.number], h.2⟩
  unfold State.runStartQuota
  split
  · exact h
  · rename_i hidle
    refine KeepsRegimes.select ⟨fun k => ?_, fun k => ?_⟩
    · rw [State.enterRegime_regimeSheet]
      exact (h.1 k).raise (by simp [State.regimeSheet, hidle, Regime.number]) _
    · rw [State.enterRegime_regimeSheet]
      exact iff_of_false nofun fun ha => absurd (hidle.symm.trans ((h.2 k).mpr ha)) nofun
  · rename_i hr
    split
    · exact h
    · rename_i hn
      exact hinsert (.inl hr) hn
  · rename_i hr
    split
    · exact h
    · rename_i hn
      exact hinsert (.inr hr) hn

/-- Taking frames out of the stack keeps both laws (R113, R118). -/
theorem thin (h : KeepsRegimes r s) (q : Frame → Bool) : KeepsRegimes r { s with engine := { s.engine with stack := s.engine.stack.filter q } } :=
  ⟨fun k => (h.1 k).thin (List.filter_sublist.map Frame.rank) s.armed, h.2⟩

theorem clearSuspended (h : KeepsRegimes r s) : KeepsRegimes r s.clearSuspended := h

theorem runStopQuota (h : KeepsRegimes r s) (p : Port) : KeepsRegimes r (s.runStopQuota p).1 := by
  have hclosed := h.quiet (s.closeTagged_quiet .quota .stopQuota)
  unfold State.runStopQuota
  split
  · rename_i hr
    have hquota : (s.closeTagged .quota .stopQuota).engine.regime = .quota := by rw [(s.closeTagged_quiet _ _).engine, hr]
    dsimp only
    exact ((clearSuspended hclosed).pop (by rw [State.clearSuspended_engine, hquota]; decide) (some p)).select
  · split
    · exact h.thin fun f => !f.isQuota
    · exact h

theorem startManual (h : KeepsRegimes r s) (hr : s.engine.regime = .idle ∨ s.engine.regime = .quota) (p : Port) (es : List Entry) :
    KeepsRegimes r (s.startManual p es) := by
  refine KeepsRegimes.select ⟨fun k => ?_, fun k => ?_⟩
  · rw [State.enterRegime_regimeSheet]
    rcases hr with hr | hr
    · simpa [hr, State.regimeSheet] using (h.1 k).raise (r := .manual) (by simp [State.regimeSheet, hr, Regime.number]) _
    · simpa [hr, State.regimeSheet, State.quotaFrame, Frame.rank, Regime.number] using
        (h.1 k).push (r := .manual) (by simp [State.regimeSheet, hr, Regime.number]) _
  · have hdisarmed : ¬s.armed = true := fun ha => by
      have hfrost := (h.2 k).mpr ha
      rcases hr with hr | hr <;> exact absurd (hr.symm.trans hfrost) nofun
    have harmed : (if s.engine.regime = .quota then s.closeTagged .quota .preemption else s).armed = s.armed := by
      split
      · exact (s.closeTagged_quiet .quota .preemption).armed
      · rfl
    rw [State.enterRegime_regimeSheet, harmed]
    exact iff_of_false nofun hdisarmed

theorem runRunManual (h : KeepsRegimes r s) (p : Port) (entries : List (Nat × Nat)) : KeepsRegimes r (s.runRunManual p entries).1 := by
  have htake : ∀ zones times clamped, KeepsRegimes r (s.takeRunManual p zones times clamped).1 := fun zones times clamped => by
    unfold State.takeRunManual
    split
    · exact h
    · split
      · rename_i hr
        exact h.startManual (.inl hr) p _
      · rename_i hr
        exact h.startManual (.inr hr) p _
      · exact h
      · exact h
  unfold State.runRunManual
  split
  · exact h
  · split
    · exact h
    · exact Checked.orRange_keeps _ h fun times clamped => htake _ times clamped

theorem runCancelManual (h : KeepsRegimes r s) (p : Port) : KeepsRegimes r (s.runCancelManual p).1 := by
  have hclosed := h.quiet (s.closeTagged_quiet .manual .cancelManual)
  have hdiscard : ∀ {u : State}, KeepsRegimes r u → u.engine.regime = .manual → KeepsRegimes r (u.discardManual.pop (some p)) :=
    fun {u} hu hr => KeepsRegimes.pop (s := u.discardManual) hu (by rw [show u.discardManual.engine.regime = _ from hr]; decide) _
  unfold State.runCancelManual
  split
  · rename_i hr
    dsimp only
    exact (hdiscard hclosed (by rw [(s.closeTagged_quiet _ _).engine, hr])).select
  · split
    · exact h.thin fun f => f.isQuota
    · exact h

theorem runPause (h : KeepsRegimes r s) : KeepsRegimes r s.runPause.1 := by
  unfold State.runPause
  split
  · exact h
  · split <;> exact h

theorem runResume (h : KeepsRegimes r s) : KeepsRegimes r s.runResume.1 := by
  have hset : KeepsRegimes r { s with engine := { s.engine with runState := .running, stopCause := none } } := h
  unfold State.runResume
  split
  · exact h
  · split
    · exact h
    · exact hset.select

theorem runShutdown (h : KeepsRegimes r s) (p : Port) : KeepsRegimes r (s.runShutdown p).1 := by
  unfold State.runShutdown
  split
  · exact h
  · dsimp only
    exact h.same (s.stopEngine_regimeSheet _ _ _)

/-! ### The directives of the other blocks -/

theorem runArmFrost (h : KeepsRegimes r s) (p : Port) : KeepsRegimes r (s.runArmFrost p).1 := by
  unfold State.runArmFrost
  split
  · exact h.armFrost (by decide) _ _ _
  · rename_i hauto
    refine h.same ((State.post_regimeSheet _ _ _ _ _ _).trans ?_)
    unfold State.regimeSheet State.armed
    rw [hauto]
    rfl
  · exact h

theorem runDisarmFrost (h : KeepsRegimes r s) (p : Port) : KeepsRegimes r (s.runDisarmFrost p).1 := by
  unfold State.runDisarmFrost
  split
  · exact h.disarmFrost _ _ _
  · split <;> exact h

theorem carryOutEdit (h : KeepsRegimes r s) (z : ZoneId) (e : PendingEdit) (clamped : Bool) : KeepsRegimes r (s.carryOutEdit z e clamped).1 := by
  unfold State.carryOutEdit
  split
  · exact (h.same (s.applyNow_regimeSheet z e)).select
  · exact h

theorem runClearZone (h : KeepsRegimes r s) (p : Port) (zone : Nat) : KeepsRegimes r (s.runClearZone p zone).1 := by
  refine KeptInEvents.withIndex _ h fun z => ?_
  split
  · exact h
  · exact State.requireGroups_keeps h (h.carryOutEdit z _ _)

/-- A new ring rewinds the pointers of the frames, which keep their ranks (R10). -/
theorem replaceRing (h : KeepsRegimes r s) (ring : List ZoneId) : KeepsRegimes r (s.replaceRing ring) := by
  have hrank : Frame.rank ∘ Frame.rewound = Frame.rank := funext fun f => by cases f <;> rfl
  refine KeepsRegimes.select (h.same ?_)
  unfold State.regimeSheet
  change RegimeSheet.mk _ ((s.engine.stack.map Frame.rewound).map Frame.rank) _ = _
  rw [List.map_map, hrank]
  rfl

theorem runSetRing (h : KeepsRegimes r s) (p : Port) (zones : List Nat) : KeepsRegimes r (s.runSetRing p zones).1 := by
  unfold State.runSetRing
  split
  · exact h
  · split
    · exact h
    · rw [State.requirePlan_eq]
      split
      · exact h.replaceRing _
      · exact h

theorem runNewPeriod (h : KeepsRegimes r s) (p : Port) : KeepsRegimes r (s.runNewPeriod p).1 := by
  have hbegun : KeepsRegimes r { s with clock := { s.clock with daysInto := 0 } } := h
  have hrolled := hbegun.same (State.rollPeriod_regimeSheet _ 2 (some p))
  unfold State.runNewPeriod
  dsimp only
  exact hrolled.select

theorem runCloseZone (h : KeepsRegimes r s) (z : ZoneId) : KeepsRegimes r (s.runCloseZone z).1 := by
  unfold State.runCloseZone
  split
  · exact h.quiet (s.closeChannel_quiet z _)
  · exact h

theorem runClearLockout (h : KeepsRegimes r s) (z : ZoneId) : KeepsRegimes r (s.runClearLockout z).1 := by
  unfold State.runClearLockout
  split
  · exact h
  · split
    · exact h
    · exact h.removeLockout z

theorem runTakeHold (h : KeepsRegimes r s) (p : Port) (e : EntryId) : KeepsRegimes r (s.runTakeHold p e).1 := by
  unfold State.runTakeHold
  split
  · exact h
  all_goals split <;> exact h

theorem runReleaseHold (h : KeepsRegimes r s) (p : Port) (e : EntryId) : KeepsRegimes r (s.runReleaseHold p e).1 := by
  unfold State.runReleaseHold
  split
  · split <;> exact h
  · exact h

theorem runBreakHold (h : KeepsRegimes r s) (e : EntryId) : KeepsRegimes r (s.runBreakHold e).1 := by
  have hbroken : ∀ q, KeepsRegimes r (s.breakEntry e q) := fun _ => h.same (State.post_regimeSheet _ _ _ _ _ _)
  unfold State.runBreakHold
  split
  · exact hbroken _
  · exact hbroken _
  · exact h

/-- The effect of every directive (R172). -/
theorem run (h : KeepsRegimes r s) (p : Port) (d : Directive) : KeepsRegimes r (d.run p s).1 := by
  have range : ∀ {α : Type} (c : Checked α) {f : α → Bool → State × Answer}, (∀ v b, KeepsRegimes r (f v b).1) →
      KeepsRegimes r (c.orRange s f).1 :=
    fun c _ hf => Checked.orRange_keeps c h hf
  have index : ∀ {n v : Nat} {f : Fin n → State × Answer}, (∀ i, KeepsRegimes r (f i).1) → KeepsRegimes r (withIndex n v s f).1 :=
    fun hf => KeptInEvents.withIndex _ h hf
  have groups : ∀ {gs : List GroupId} {x : State × Answer}, KeepsRegimes r x.1 → KeepsRegimes r (s.requireGroups p gs x).1 :=
    fun hx => State.requireGroups_keeps h hx
  have plan : ∀ {x : State × Answer}, KeepsRegimes r x.1 → KeepsRegimes r (s.requirePlanOverBreak p x).1 :=
    fun hx => KeptInEvents.requirePlanOverBreak _ h hx
  cases d with
  | readZone z => exact index fun _ => h
  | readGroup g => exact index fun _ => h
  | readRing => exact h
  | readHeader i => exact index fun _ => h
  | readEngine => exact h
  | readClimate => exact h
  | readClock => exact h
  | readHolds => exact h
  | readPort => exact h
  | selectZones f t => exact KeptInEvents.runSelectZones _ h
  | fetchNotice =>
    change KeepsRegimes r (s.runFetchNotice p).1
    unfold State.runFetchNotice
    split <;> exact h
  | takeHold e => exact index fun i => h.runTakeHold p i
  | releaseHold e => exact index fun i => h.runReleaseHold p i
  | editZone z f => exact index fun i => range _ fun _ _ => groups (h.carryOutEdit i _ _)
  | clearZone z => exact h.runClearZone p z
  | setWindow g a b =>
    exact index fun i => range _ fun v _ => groups (KeepsRegimes.windows (s := s.updGroup i fun x => { x with start := v.1, finish := v.2 }) h [i])
  | setRing zs => exact h.runSetRing p zs
  | setPeriod l m a => exact range _ fun v _ => plan (h.replacePeriod p v)
  | setMeter i f => exact index fun i => range _ fun v _ => plan (h.replaceMeter i v)
  | declareSupply f v => exact h.same (s.runDeclare_regimeSheet p f v)
  | setFallback f => exact h.same (s.runSetFallback_regimeSheet p f)
  | reportTemperature t => exact range _ fun v _ => KeepsRegimes.evaluateClimate (s := s.setSlot p (some ⟨v, 0, true⟩)) h true (some p)
  | armFrost => exact h.runArmFrost p
  | disarmFrost => exact h.runDisarmFrost p
  | setFrostLimits a d i t =>
    exact range _ fun v _ => KeepsRegimes.evaluateClimate (s := { s with climate := { s.climate with
      limits := v, slots := s.climate.slots.map fun x => x.map fun y => y.judged v.timeout } }) h false (some p)
  | startQuota => exact h.runStartQuota p
  | stopQuota => exact h.runStopQuota p
  | runManual es => exact h.runRunManual p es
  | cancelManual => exact h.runCancelManual p
  | pause => exact h.runPause
  | resume => exact h.runResume
  | shutdown => exact h.runShutdown p
  | closeZone z => exact index fun i => h.runCloseZone i
  | clearLockout z => exact index fun i => h.runClearLockout i
  | breakHold e => exact index fun i => h.runBreakHold i
  | setClock d t =>
    exact range _ fun v _ => KeepsRegimes.windows (s := { s with clock := { s.clock with day := v.1, second := v.2, valid := true } }) h groupIds
  | newPeriod => exact h.runNewPeriod p
  | setOptions m f t r n => exact range _ fun _ _ => h
  | narrowRights a b c d => exact h

/-! ### Every step -/

theorem execDirective (h : KeepsRegimes r s) {c : Instr} {p : Port} {d : Directive} (hc : c.directive = some (p, d)) (he : exec c s = .next t) :
    KeepsRegimes r t := by
  have hcompleted : KeepsRegimes r (s.complete p d (d.run p)) := State.complete_keeps (fun _ _ _ ht => ht) h (h.run p d)
  cases hd : d.isSupply with
  | false =>
    rw [exec_directive hc hd] at he
    exact ChannelLaw.of_next he hcompleted
  | true =>
    rcases exec_supplyDirective hc hd s with hx | ⟨ev, n, -, hx⟩
    · rw [hx] at he
      exact ChannelLaw.of_next he hcompleted.reportCeilings
    · rw [hx] at he
      exact ChannelLaw.of_next he (h.same (s.sendInto_regimeSheet _ _ _))

/-- An event that is taken only where it is due, and not while the RESET line is asserted. -/
theorem due (h : KeepsRegimes r s) {c : State → Prop} [DecidablePred c] {f : State → State} (hf : KeepsRegimes r (f s)) :
    KeepsRegimes r (s.live fun t => if c t then f t else t) := by
  refine State.live_keeps h ?_
  split
  · exact hf
  · exact h

theorem execEvent (h : KeepsRegimes r s) {c : Instr} (hc : c.directive = none) (he : exec c s = .next t) : KeepsRegimes r t := by
  have hports : ∀ {u : State}, PortsOnly s u → KeepsRegimes r u := fun k => h.same k.regimeSheet
  have hclose : ∀ z e, KeepsRegimes r (s.closeChannel z e) := fun z e => h.quiet (s.closeChannel_quiet z e)
  cases c with
  | powerOn a b c =>
    exact ChannelLaw.of_next he (P := KeepsRegimes r) ⟨fun _ => List.pairwise_singleton _ _, fun _ => iff_of_false nofun nofun⟩
  | resetAsserted =>
    refine ChannelLaw.of_next he (P := KeepsRegimes r) ?_
    split
    · exact h
    · exact h
  | resetReleased a b c =>
    refine ChannelLaw.of_next he (P := KeepsRegimes r) ?_
    split
    · exact releaseReset r s a b c
    · exact h
  | stopAsserted =>
    have hlow : KeepsRegimes r { s with stopLow := true } := h
    refine ChannelLaw.of_next he (P := KeepsRegimes r) ?_
    split
    · exact h
    · exact State.live_keeps hlow (hlow.same (State.takeStop_regimeSheet _))
  | stopReleased => exact ChannelLaw.of_next he (P := KeepsRegimes r) h
  | rawPulse i => exact ChannelLaw.of_next he (State.live_keeps h (h.same (s.rawPulse_regimeSheet i)))
  | driveSenseFall z => exact ChannelLaw.of_next he (h.due (h.driveFault z))
  | senseTimerExpiry z high =>
    have hsampled : KeepsRegimes r (s.updZone z fun x => { x with sensePhase := .watching, senseTimer := none }) := h
    refine ChannelLaw.of_next he (State.live_keeps h ?_)
    split
    · cases high
      · exact hsampled.driveFault z
      · exact hsampled
    · exact h
  | fillTimerExpiry z => exact ChannelLaw.of_next he (h.due (h.quiet (s.enterWet_quiet z)))
  | closeTimerExpiry z =>
    have hshut : KeepsRegimes r (s.updZone z Zone.shut) := h
    exact ChannelLaw.of_next he (h.due (hshut.shutReports z _))
  | intervalTimerExpiry i order => exact ChannelLaw.of_next he (h.due (h.expireInterval i order))
  | validityTimerExpiry taking =>
    refine ChannelLaw.of_next he (State.live_keeps h ?_)
    cases taking with
    | atOnce => exact (h.same (s.takeAtPoint_regimeSheet .lapse)).reportCeilings
    | inSelection n => exact h.same (s.sendInto_regimeSheet _ _ _)
  | secondAdvance => exact ChannelLaw.of_next he (KeepsRegimes.advanceClock (State.live_keeps h (h.same (t := s.countSecond) rfl)))
  | slotExpiry p => exact ChannelLaw.of_next he (State.live_keeps h (h.expireSlot p))
  | thawHoldExpiry => exact ChannelLaw.of_next he (h.due (h.disarmFrost _ _ _))
  | guardTimerExpiry z =>
    exact ChannelLaw.of_next he (h.due ((hclose z .guardExpired).same (State.post_regimeSheet _ _ _ _ _ _)))
  | soakReached z => exact ChannelLaw.of_next he (h.due (h.select))
  | dwellEnd z => exact ChannelLaw.of_next he (h.due (hclose z _))
  | runTimeSpent z => exact ChannelLaw.of_next he (h.due (hclose z _))
  | overdue z => exact ChannelLaw.of_next he (h.due (h.judged (s.markOverdue_judged z)))
  | frameComplete p frame =>
    refine ChannelLaw.of_next he (P := KeepsRegimes r) ?_
    split
    · exact List.foldlRecOn _ _ h fun t ht b _ => ht.same (t.takeByte_portsOnly p b).regimeSheet
    · exact h
  | silence p => exact ChannelLaw.of_next he (State.live_keeps h (hports (s.takeSilence_portsOnly p)))
  | lineBreak p straps =>
    have hlow : KeepsRegimes r (s.updPort p fun q => { q with lineLow := true }) := h
    refine ChannelLaw.of_next he (P := KeepsRegimes r) ?_
    split
    · exact h
    · exact State.live_keeps hlow (hlow.reinitialise p straps)
  | takeUp => exact ChannelLaw.of_next he (State.live_keeps h (h.same s.takeUp_regimeSheet))
  | replySent p => exact ChannelLaw.of_next he (State.live_keeps h h)
  | withdraw p =>
    refine ChannelLaw.of_next he (P := KeepsRegimes r) ?_
    split
    · exact hports (s.takeWithdraw_portsOnly p)
    · exact h
  | characterReceived p data parity stop =>
    refine ChannelLaw.of_next he (P := KeepsRegimes r) ?_
    split
    · split
      · exact hports (s.takeByte_portsOnly p data)
      · exact hports (s.takeBadCharacter_portsOnly p)
    · exact h
  | receiveLineReturnsHigh p => exact ChannelLaw.of_next he (P := KeepsRegimes r) h
  | _ => cases hc

/-- Every step keeps both laws: a lockout request on its way, or a command on the queue's rest. -/
theorem of_step (he : step s = .next t) : KeepsRegimes s t := by
  cases hp : s.pending with
  | nil =>
    rw [step_nil hp] at he
    refine ChannelLaw.of_next he ?_
    rcases s.takeLockoutRequest_cases with hkeep | ⟨x, rest, -, -, htaken⟩
    · rw [hkeep]
      exact refl s
    · rw [htaken]
      exact KeepsRegimes.requestLockout (s := { s with lockoutRequests := rest }) (refl s) x.zone x.kind
  | cons c rest =>
    rw [step_cons hp] at he
    have hrest : KeepsRegimes s { s with pending := rest } := refl s
    cases hc : c.directive with
    | none => exact hrest.execEvent hc he
    | some pd => exact hrest.execDirective hc he

end KeepsRegimes
end Sys2Proof.Machine

open Sys2Proof Sys2Proof.Machine

/-- Settles O8: what a step does to the regime, the stack and the frost state keeps each law (`KeepsRegimes.of_step`). -/
theorem everyStepKeepsStackRankedAndFrostWhileArmed : Obligations.EveryStepKeepsStackRankedAndFrostWhileArmed :=
  ⟨fun _ _ h he => (KeepsRegimes.of_step he).1 h, fun _ _ h he => (KeepsRegimes.of_step he).2 h⟩

end

section
/-! The closings of a regime's channels and of all channels, the visits they suspend (R109, R113, R118, R120, R133, R135), and completions that answer DONE. -/

namespace Sys2Proof.Machine

section
variable (s : State) (tag : UseTag) (e : Ending)

theorem State.closeTagged_where : s.closeTagged tag e = s.closeWhere zoneIds (fun x => decide (x.useTag = some tag)) e := by
  unfold State.closeTagged State.closeWhere
  simp only [decide_eq_true_eq]

theorem State.closeAll_where : s.closeAll e = s.closeWhere zoneIds (fun _ => true) e := by
  unfold State.closeAll State.closeWhere
  simp only [if_true]

theorem State.closeTagged_channelsClosed : s.channelsClosed (fun z => decide ((s.zone z).useTag = some tag)) e (s.closeTagged tag e) :=
  s.closeTagged_where tag e ▸ s.closeWhere_channelsClosed (fun x => decide (x.useTag = some tag)) e

theorem State.closeAll_channelsClosed : s.channelsClosed (fun _ => true) e (s.closeAll e) :=
  s.closeAll_where e ▸ s.closeWhere_channelsClosed (fun _ => true) e

end

section
variable {s u : State} {sel : ZoneId → Bool} {e : Ending}

/-- With a cause that suspends no visit the planner is left (R133). -/
theorem State.channelsClosed.planner (h : s.channelsClosed sel e u) (he : e ∉ [Ending.windowClosed, .shed, .stop, .preemption]) :
    u.planner = s.planner := by
  obtain ⟨-, -, hrest⟩ := h
  rw [hrest]
  simp [he]

/-- No channel named: nothing is closed. -/
theorem State.channelsClosed_none (s : State) (e : Ending) : s.channelsClosed (fun _ => false) e s :=
  ⟨fun z => by simp, fun h => by simp [List.any_eq_false.mpr], by simp⟩

/-- A close command leaves the visit of a zone that has none OPEN, or whose channel is not a QUOTA channel (R133). -/
theorem State.closedZone_notVisiting (s : State) (z : ZoneId) (e : Ending) (h : ¬((s.zone z).useTag = some .quota ∧ (s.zone z).visit = .openVisit)) :
    (s.closedZone z e).cyclesRemaining = (s.zone z).cyclesRemaining ∧ (s.closedZone z e).visit = (s.zone z).visit ∧
      (s.closedZone z e).visitTarget = (s.zone z).visitTarget ∧ (s.closedZone z e).visitVolume = (s.zone z).visitVolume ∧
        (s.closedZone z e).guardTimer = (s.zone z).guardTimer := by
  unfold State.closedZone
  dsimp only
  rcases ht : (s.zone z).useTag with _ | (_ | _ | _)
  · exact ⟨rfl, rfl, rfl, rfl, rfl⟩
  · have hv : ¬(s.zone z).visit = .openVisit := fun k => h ⟨ht, k⟩
    simp [hv]
  · exact ⟨rfl, rfl, rfl, rfl, rfl⟩
  · exact ⟨rfl, rfl, rfl, rfl, rfl⟩

/-- An OPEN visit that a stop or a preemption ends is suspended in the ring, and dropped outside it (R10, R133, R135). -/
theorem State.closedZone_visiting (s : State) (z : ZoneId) {e : Ending} (he : e = .stop ∨ e = .preemption) (ht : (s.zone z).useTag = some .quota)
    (hv : (s.zone z).visit = .openVisit) :
    (s.closedZone z e).cyclesRemaining = (s.zone z).cyclesRemaining ∧
      (z ∈ s.ring → (s.closedZone z e).visit = .suspended ∧ (s.closedZone z e).visitTarget = (s.zone z).visitTarget ∧
        (s.closedZone z e).visitVolume = (s.zone z).visitVolume ∧ (s.closedZone z e).guardTimer = none) ∧
      (z ∉ s.ring → (s.closedZone z e).visit = .noVisit ∧ (s.closedZone z e).visitTarget = none ∧ (s.closedZone z e).visitVolume = 0 ∧
        (s.closedZone z e).guardTimer = none) := by
  unfold State.closedZone
  simp only [ht, hv, if_true]
  by_cases hz : z ∈ s.ring
  · simp only [hz, if_true]
    rcases he with rfl | rfl <;> exact ⟨rfl, fun _ => ⟨rfl, rfl, rfl, rfl⟩, fun k => absurd trivial k⟩
  · simp only [hz, if_false]
    rcases he with rfl | rfl <;> exact ⟨rfl, fun k => k.elim, fun _ => ⟨rfl, rfl, rfl, rfl⟩⟩

/-- A closing by a stop or for preemption that takes in every QUOTA channel suspends every OPEN visit on one (R133, R135). -/
theorem State.channelsClosed.visitsSuspended (h : s.channelsClosed sel e u) (he : e = .stop ∨ e = .preemption)
    (hsel : ∀ z, (s.zone z).useTag = some .quota → sel z = true) : s.visitsSuspended u := by
  obtain ⟨hzone, -, hrest⟩ := h
  have hmem : e ∈ [Ending.windowClosed, .shed, .stop, .preemption] := by rcases he with rfl | rfl <;> decide
  have hvisiting : ∀ z, s.visiting z = true ↔ (s.zone z).isOpen = true ∧ (s.zone z).useTag = some .quota ∧ (s.zone z).visit = .openVisit :=
    fun z => by simp [State.visiting]
  refine ⟨?_, fun z => ?_⟩
  · have hlist : ∀ z, (sel z && (s.zone z).isOpen && decide ((s.zone z).useTag = some .quota ∧ (s.zone z).visit = .openVisit ∧ z ∈ s.ring ∧
        e ∈ [Ending.windowClosed, .shed, .stop, .preemption])) = (s.visiting z && decide (z ∈ s.ring)) := fun z => by
      rw [Bool.eq_iff_iff]
      by_cases ht : (s.zone z).useTag = some .quota
      · simp only [Bool.and_eq_true, decide_eq_true_eq, hvisiting, ht, hsel z ht, hmem]
        tauto
      · simp [hvisiting, ht]
    rw [hrest]
    simp only [hlist]
  · rw [hzone]
    by_cases hc : (sel z && (s.zone z).isOpen) = true
    · have hopen : (s.zone z).isOpen = true := (Bool.and_eq_true_iff.mp hc).2
      rw [if_pos hc]
      by_cases hv : (s.zone z).useTag = some .quota ∧ (s.zone z).visit = .openVisit
      · obtain ⟨hcycles, hin, hout⟩ := s.closedZone_visiting z he hv.1 hv.2
        exact ⟨hcycles, fun _ hz => hin hz, fun _ hz => hout hz, fun k => absurd ((hvisiting z).mpr ⟨hopen, hv⟩) (Bool.eq_false_iff.mp k)⟩
      · obtain ⟨hcycles, hkeep⟩ := s.closedZone_notVisiting z e hv
        have hnot : ¬s.visiting z = true := fun k => hv ((hvisiting z).mp k).2
        exact ⟨hcycles, fun k => absurd k hnot, fun k => absurd k hnot, fun _ => hkeep⟩
    · rw [if_neg hc]
      have hnot : ¬s.visiting z = true := fun hv => by
        obtain ⟨hopen, ht, -⟩ := (hvisiting z).mp hv
        exact hc (by rw [hsel z ht, hopen, Bool.and_true])
      exact ⟨rfl, fun hv => absurd hv hnot, fun hv => absurd hv hnot, fun _ => ⟨rfl, rfl, rfl, rfl⟩⟩

end

/-! ### Completions -/

/-- The completion of a directive that has its effect, where the directive is known to stay in hand. -/
theorem State.complete_done_of_keeps {s t : State} {p : Port} {d : Directive} {run : State → State × Answer} {clamped : Bool} (h : s.completing p d)
    (hrun : run s = (t, .done clamped)) (hk : (run s).1.inHand p d none (s.port p).replies) :
    s.complete p d run = t.answer p d .done clamped [] :=
  State.complete_done h hrun (by rw [hrun] at hk; exact hk)

/-- The completion of a directive that is answered with a code alone (R175). -/
theorem State.complete_plain {s : State} {p : Port} {d : Directive} {run : State → State × Answer} {c : ReplyCode} (h : s.completing p d)
    (hrun : run s = (s, .plain c)) (hc : c ≠ .lineError) : s.complete p d run = s.answer p d c false [] :=
  State.complete_unchanged h hrun hc

end Sys2Proof.Machine
end

section
/-! The planners' own events when they are due and when they are not (R117, R134, R138, R160, R162). -/

namespace Sys2Proof.Machine

section
variable (s : State) (z : ZoneId)

/-! ### The events with the RESET line released -/

theorem exec_guardTimerExpiry_live (hr : s.resetLow = false) :
    exec (.guardTimerExpiry z) s = .next (if (s.zone z).visit = .openVisit ∧ (s.zone z).guardTimer = some 0 then s.expireGuard z else s) :=
  congrArg Host.Outcome.next (State.live_released hr _)

theorem exec_dwellEnd_live (hr : s.resetLow = false) :
    exec (.dwellEnd z) s =
      .next (if (s.zone z).frostVisit && decide ((s.zone z).dwellRemaining = some 0) then s.closeChannel z .dwellEnd else s) :=
  congrArg Host.Outcome.next (State.live_released hr _)

theorem exec_runTimeSpent_live (hr : s.resetLow = false) :
    exec (.runTimeSpent z) s =
      .next (if s.runTimeSpent z && decide ((s.zone z).valve = .wet ∧ (s.zone z).useTag = some .manual) then s.closeChannel z .runTimeSpent
        else s) :=
  congrArg Host.Outcome.next (State.live_released hr _)

theorem exec_soakReached_live (hr : s.resetLow = false) : exec (.soakReached z) s = .next (if (s.zone z).soaked then s.select else s) :=
  congrArg Host.Outcome.next (State.live_released hr _)

theorem exec_overdue_live (hr : s.resetLow = false) : exec (.overdue z) s = .next (if s.armed then s.markOverdue z else s) :=
  congrArg Host.Outcome.next (State.live_released hr _)

/-! ### When they are due -/

/-- A RUNNING entry without a second left, in the statement's terms (R117). -/
theorem State.runTimeSpent_iff {es : List Entry} (hes : s.engine.manual = some es) :
    s.runTimeSpent z = true ↔ ∃ e ∈ es, e.zone = z ∧ e.state = .running ∧ e.remaining = 0 := by
  unfold State.runTimeSpent Engine.entries Entry.runsOn
  rw [hes]
  simp [and_comm, and_assoc, and_left_comm]

variable {z} in
theorem Zone.soaked_iff {x : Programme} (hx : (s.zone z).programme = some x) :
    (s.zone z).soaked = true ↔ (s.zone z).valve = .shut ∧ (s.zone z).soakTimer = x.soak := by
  simp [Zone.soaked, hx]

variable {z} in
/-- The mark of an overdue zone and its notice (R160). -/
theorem State.markOverdue_defined {x : Programme} (hx : (s.zone z).programme = some x) :
    s.markOverdue z =
      if (s.zone z).admitted = true ∧ x.maxDry ≤ (s.zone z).dryClock ∧ (s.zone z).overdue = false then
        (s.updZone z fun y => { y with overdue := true }).post .zoneOverdue (some z) (some x.header) none (some ((s.zone z).dryClock : Int))
      else s := by
  simp [State.markOverdue, Zone.dryTooLong, Zone.header, hx, and_assoc]

/-! ### What the closings leave of the zone -/

variable {z}

/-- A visit that its guard ends is complete and has spent a cycle (R133, R134). -/
theorem State.closedZone_guardExpired (ht : (s.zone z).useTag = some .quota) (hv : (s.zone z).visit = .openVisit) :
    s.closedZone z .guardExpired =
      { (s.zone z).closing .guardExpired with
        dryClock := if (s.zone z).valve = .wet ∧ s.climate.frost ≠ .disarmed then 0 else (s.zone z).dryClock
        visit := .noVisit, visitTarget := none, visitVolume := 0, guardTimer := none, cyclesRemaining := (s.zone z).cyclesRemaining - 1 } := by
  unfold State.closedZone Zone.closing
  rw [Zone.closeSeconds_eq]
  simp only [ht, hv, if_true]

theorem State.closedZone_dryClock_frost (e : Ending) (ht : (s.zone z).useTag = some .frost) :
    (s.closedZone z e).dryClock = if (s.zone z).valve = .wet ∧ s.climate.frost ≠ .disarmed then 0 else (s.zone z).dryClock := by
  unfold State.closedZone
  simp only [ht]

theorem Zone.isOpen_of_wet {x : Zone} (h : x.valve = .wet) : x.isOpen = true := by simp [Zone.isOpen, h]

theorem Zone.valve_ne_wet_of_opening {x : Zone} (h : x.valve = .opening) : x.valve ≠ .wet := by simp [h]

end

end Sys2Proof.Machine

open Sys2Proof Sys2Proof.Machine

/-- Settles O44: each event is one close command, one mark or one selection under its condition; what the close command leaves of the zone is read off
`State.closedZone`. -/
theorem plannerEventsActWhenDue : Obligations.PlannerEventsActWhenDue := by
  unfold Obligations.PlannerEventsActWhenDue
  refine ⟨fun s z hr => ⟨fun hv hg => ?_, fun hnot => ?_, fun hf hd => ?_, fun hnot => ?_, fun es hes => ⟨fun hspent hwet ht => ?_, fun hnone => ?_⟩⟩,
    fun s z x hr hx => ⟨?_, ?_⟩⟩
  · refine ⟨s.closeChannel z .guardExpired, ?_, rfl, s.closeChannel_channelsClosed .guardExpired z, fun ho ht => ?_⟩
    · rw [exec_guardTimerExpiry_live s z hr, if_pos ⟨hv, hg⟩]
      rfl
    · rw [State.closeChannel_zone s .guardExpired ho, State.closedZone_guardExpired s ht hv,
        (s.closeChannel_channelsClosed .guardExpired z).planner (by decide)]
      exact ⟨rfl, rfl, rfl, rfl, rfl, rfl, rfl⟩
  · rw [exec_guardTimerExpiry_live s z hr, if_neg hnot]
  · refine ⟨s.closeChannel z .dwellEnd, ?_, rfl, s.closeChannel_channelsClosed .dwellEnd z, fun ho ht => ?_⟩
    · rw [exec_dwellEnd_live s z hr, if_pos (by simp [hf, hd])]
    · obtain ⟨hvisit, hdwell⟩ := s.closedZone_frost z .dwellEnd ht
      rw [State.closeChannel_zone s .dwellEnd ho, State.closedZone_dryClock_frost s .dwellEnd ht]
      exact ⟨(s.closedZone_keeps .dwellEnd z).1, hvisit, hdwell, fun harmed hwet => if_pos ⟨hwet, harmed⟩,
        fun hopening => if_neg fun k => Zone.valve_ne_wet_of_opening hopening k.1⟩
  · rw [exec_dwellEnd_live s z hr, if_neg (by simpa using hnot)]
  · have ho := Zone.isOpen_of_wet hwet
    refine ⟨s.closeChannel z .runTimeSpent, ?_, ?_, ?_, ?_, fun z' hz' => s.closeChannel_zone_other .runTimeSpent hz',
      s.closeChannel_channelsClosed .runTimeSpent z⟩
    · rw [exec_runTimeSpent_live s z hr, if_pos (by simp [(s.runTimeSpent_iff z hes).mpr hspent, hwet, ht])]
    · rw [State.closeChannel_zone s .runTimeSpent ho]
      exact (s.closedZone_keeps .runTimeSpent z).1
    · rw [State.closeChannel_zone s .runTimeSpent ho]
      exact (s.closedZone_ended .runTimeSpent z).1
    · rw [State.closeChannel_frame s z .runTimeSpent ho (by decide)]
  · have hnot : ¬s.runTimeSpent z = true := fun k => by
      obtain ⟨e, he, hdue⟩ := (s.runTimeSpent_iff z hes).mp k
      exact hnone e he hdue
    rw [exec_runTimeSpent_live s z hr, if_neg (by simp [hnot])]
  · rw [exec_soakReached_live s z hr]
    simp only [Zone.soaked_iff s hx]
  · rw [exec_overdue_live s z hr, State.markOverdue_defined s hx]
    simp only [State.armed_iff, ite_and]

end

section
/-! PAUSE, RESUME, SHUTDOWN and the STOP input (R119 to R122). -/

namespace Sys2Proof.Machine

/-! ### Stops -/

/-- The engine STOPPED with its cause, its channels not yet closed (R120, R121). -/
def State.atStop (s : State) (cause : StopCause) : State := { s with engine := { s.engine with runState := .stopped, stopCause := some cause } }

theorem State.stopEngine_eq (s : State) (cause : StopCause) (port : Option Port) (value : Int) :
    s.stopEngine cause port value = ((s.atStop cause).closeAll .stop).post .stopped none none port (some value) := rfl

/-- The closings of a stop: every open channel, with every OPEN visit on a QUOTA channel suspended (R120, R133, R135). -/
theorem State.atStop_closeAll (s : State) (cause : StopCause) :
    State.channelsClosed (s.atStop cause) (fun _ => true) .stop ((s.atStop cause).closeAll .stop) ∧
      s.visitsSuspended ((s.atStop cause).closeAll .stop) ∧ ∀ z, (((s.atStop cause).closeAll .stop).zone z).isOpen = false := by
  have hclosed := (s.atStop cause).closeAll_channelsClosed .stop
  exact ⟨hclosed, hclosed.visitsSuspended (.inl rfl) fun _ _ => rfl, fun z => (s.atStop cause).closeAll_isOpen .stop z⟩

/-- The engine takes an assertion of the STOP input while it is not STOPPED (R121). -/
theorem State.takeStop_active {s : State} (h : s.engine.runState ≠ .stopped) : s.takeStop = s.stopEngine .stopLine none 2 := by
  unfold State.takeStop
  cases hr : s.engine.runState with
  | running => rfl
  | paused => rfl
  | stopped => exact absurd hr h

/-- The engine takes an assertion of the STOP input while it is STOPPED (R121). -/
theorem State.takeStop_stopped {s : State} (h : s.engine.runState = .stopped) :
    s.takeStop =
      if s.engine.stopCause = some .stopLine then s
      else State.post { s with engine := { s.engine with stopCause := some .stopLine } } .stopped none none none (some 2) := by
  unfold State.takeStop
  rw [h]

theorem exec_stopAsserted (s : State) :
    exec .stopAsserted s = .next (if s.stopLow then s else State.live { s with stopLow := true } State.takeStop) := rfl

/-- The STOP input is asserted with the RESET line released (R121). -/
theorem exec_stopAsserted_live {s : State} (hs : s.stopLow = false) (hr : s.resetLow = false) :
    exec .stopAsserted s = .next (State.takeStop { s with stopLow := true }) := by
  rw [exec_stopAsserted, hs, if_neg (by decide), State.live_released (s := { s with stopLow := true }) hr]

/-! ### The directives -/

section
variable {s : State} {p : Port}

theorem exec_pause_completing (h : s.completing p .pause) :
    exec (.pause p) s =
      .next
        (if s.engine.regime = .frost then s.answer p .pause .regime false []
        else if s.engine.runState = .running then
          State.answer { s with engine := { s.engine with runState := .paused } } p .pause .done false []
        else s.answer p .pause .already false []) := by
  change Host.Outcome.next _ = _
  congr 1
  have hk := (keptInEvents_inHand none (s.port p).replies rfl).runPause h.inHand
  by_cases hf : s.engine.regime = .frost
  · rw [if_pos hf]
    exact State.complete_plain h (by simp [State.runPause, hf]) (by decide)
  · rw [if_neg hf]
    by_cases hr : s.engine.runState = .running
    · rw [if_pos hr]
      exact State.complete_done_of_keeps h (by simp [State.runPause, hf, hr]) hk
    · rw [if_neg hr]
      exact State.complete_plain h (by simp [State.runPause, hf, hr]) (by decide)

theorem exec_resume_completing (h : s.completing p .resume) :
    exec (.resume p) s =
      .next
        (if s.stopLow = true then s.answer p .resume .stopLine false []
        else if s.engine.runState = .running then s.answer p .resume .already false []
        else ((State.select { s with engine := { s.engine with runState := .running, stopCause := none } }).answer p .resume .done false [])) := by
  change Host.Outcome.next _ = _
  congr 1
  have hk := (keptInEvents_inHand none (s.port p).replies rfl).runResume h.inHand
  by_cases hl : s.stopLow = true
  · rw [if_pos hl]
    exact State.complete_plain h (by simp [State.runResume, hl]) (by decide)
  · rw [if_neg hl]
    by_cases hr : s.engine.runState = .running
    · rw [if_pos hr]
      exact State.complete_plain h (by simp [State.runResume, hl, hr]) (by decide)
    · rw [if_neg hr]
      exact State.complete_done_of_keeps h (by simp [State.runResume, hl, hr]) hk

theorem exec_shutdown_stopped (h : s.completing p .shutdown) (hr : s.engine.runState = .stopped) :
    exec (.shutdown p) s = .next (s.answer p .shutdown .already false []) := by
  change Host.Outcome.next _ = _
  congr 1
  exact State.complete_plain h (by simp [State.runShutdown, hr]) (by decide)

theorem exec_shutdown_active (h : s.completing p .shutdown) (hr : s.engine.runState ≠ .stopped) :
    exec (.shutdown p) s = .next ((s.stopEngine (.shutdown p) (some p) 1).answer p .shutdown .done false []) := by
  have hrun : s.runShutdown p = (s.stopEngine (.shutdown p) (some p) 1, .done false) := if_neg hr
  exact congrArg Host.Outcome.next (State.complete_done_of_keeps h hrun ((keptInEvents_inHand none (s.port p).replies rfl).runShutdown h.inHand))

end

end Sys2Proof.Machine

open Sys2Proof Sys2Proof.Machine

/-- Settles O48: the directives by the branches of their `run`s; a stop is the closing of every channel at `State.atStop`, whose OPEN visits
`State.channelsClosed.visitsSuspended` gives. -/
theorem runStateActsOnDirectivesAndStop : Obligations.RunStateActsOnDirectivesAndStop := by
  unfold Obligations.RunStateActsOnDirectivesAndStop
  refine ⟨fun s p => ⟨exec_pause_completing, exec_resume_completing, fun h => ⟨exec_shutdown_stopped h, fun hr => ?_⟩⟩,
    fun s => ⟨rfl, fun hl => ?_, fun hl hr => ?_, fun hl hr => ⟨fun hstop hc => ?_, fun hstop hc => ?_, fun hstop => ?_⟩⟩⟩
  · exact ⟨(s.atStop (.shutdown p)).closeAll .stop, exec_shutdown_active h hr, s.atStop_closeAll (.shutdown p)⟩
  · rw [exec_stopAsserted, if_pos hl]
  · simp [exec_stopAsserted, hl, hr, State.live]
  · rw [exec_stopAsserted_live hl hr, State.takeStop_stopped (s := { s with stopLow := true }) hstop, if_pos hc]
  · rw [exec_stopAsserted_live hl hr, State.takeStop_stopped (s := { s with stopLow := true }) hstop, if_neg hc]
  · refine ⟨(State.atStop { s with stopLow := true } .stopLine).closeAll .stop, ?_, State.atStop_closeAll { s with stopLow := true } .stopLine⟩
    rw [exec_stopAsserted_live hl hr, State.takeStop_active (s := { s with stopLow := true }) hstop, State.stopEngine_eq]

end

section
/-! START-QUOTA and STOP-QUOTA (R112, R113). -/

namespace Sys2Proof.Machine

/-! ### The frames of the stack -/

theorem Engine.hasQuotaFrame_iff (e : Engine) : e.hasQuotaFrame = true ↔ ∃ i r, Frame.quota i r ∈ e.stack := by
  unfold Engine.hasQuotaFrame
  rw [List.any_eq_true]
  constructor
  · rintro ⟨f, hf, hquota⟩
    cases f with
    | quota i r => exact ⟨i, r, hf⟩
    | manual es => cases hquota
  · rintro ⟨i, r, hf⟩
    exact ⟨_, hf, rfl⟩

theorem Engine.hasManualFrame_iff (e : Engine) : e.hasManualFrame = true ↔ ∃ es, Frame.manual es ∈ e.stack := by
  unfold Engine.hasManualFrame
  rw [List.any_eq_true]
  constructor
  · rintro ⟨f, hf, hmanual⟩
    cases f with
    | quota i r => cases hmanual
    | manual es => exact ⟨es, hf⟩
  · rintro ⟨es, hf⟩
    exact ⟨_, hf, rfl⟩

/-- The kind of a frame by its rank (R108). -/
theorem Frame.isQuota_eq (f : Frame) : f.isQuota = decide (f.rank = 1) ∧ (!f.isQuota) = decide (f.rank = 2) := by
  cases f <;> exact ⟨rfl, rfl⟩

theorem State.removeQuotaFrame_eq (s : State) :
    s.removeQuotaFrame = { s with engine := { s.engine with stack := s.engine.stack.filter fun f => decide (f.rank = 2) } } := by
  unfold State.removeQuotaFrame
  simp only [fun f : Frame => f.isQuota_eq.2]

theorem State.removeManualFrame_eq (s : State) :
    s.removeManualFrame = { s with engine := { s.engine with stack := s.engine.stack.filter fun f => decide (f.rank = 1) } } := by
  unfold State.removeManualFrame
  simp only [fun f : Frame => f.isQuota_eq.1]

/-! ### The suspended list cleared -/

theorem State.clearSuspended_eq (s : State) :
    s.clearSuspended = { s with zones := s.clearSuspended.zones, planner := { s.planner with suspended := [] } } := by
  have hempty : (s.planner.suspended.filter fun _ => !true) = [] := by simp
  rw [← hempty]
  rfl

theorem State.clearSuspended_zone (s : State) (z : ZoneId) :
    s.clearSuspended.zone z = if z ∈ s.planner.suspended then (s.zone z).noVisit else s.zone z := by
  have hz : s.clearSuspended.zone z = _ := s.zone_mapZones (fun z x => if decide (z ∈ s.planner.suspended) && true then x.noVisit else x) z
  simpa using hz

/-! ### START-QUOTA by where QUOTA stands -/

section
variable {s : State} {p : Port}

theorem exec_startQuota_already (h : s.completing p .startQuota) (hrun : s.runStartQuota p = (s, .plain .already)) :
    exec (.startQuota p) s = .next (s.answer p .startQuota .already false []) :=
  congrArg Host.Outcome.next (State.complete_plain h hrun (by decide))

theorem exec_startQuota_done {t : State} (h : s.completing p .startQuota) (hrun : s.runStartQuota p = (t, .done false)) :
    exec (.startQuota p) s = .next (t.answer p .startQuota .done false []) :=
  congrArg Host.Outcome.next (State.complete_done_of_keeps h hrun ((keptInEvents_inHand none (s.port p).replies rfl).runStartQuota h.inHand))

theorem State.runStartQuota_idle (hr : s.engine.regime = .idle) :
    s.runStartQuota p =
      ((State.post { s with engine := { s.engine with regime := .quota, manual := none } } .regimeChanged none none (some p) (some 1)).select,
        .done false) := by
  unfold State.runStartQuota
  rw [hr]
  rfl

/-- While MANUAL or FROST is in force QUOTA is begun by its frame (R112). -/
theorem State.runStartQuota_preempted (hr : s.engine.regime = .manual ∨ s.engine.regime = .frost) :
    s.runStartQuota p = if s.engine.hasQuotaFrame = true then (s, .plain .already) else (s.insertQuotaFrame, .done false) := by
  unfold State.runStartQuota
  rcases hr with hr | hr <;> rw [hr]

/-! ### STOP-QUOTA by where QUOTA stands -/

theorem exec_stopQuota_done {t : State} (h : s.completing p .stopQuota) (hrun : s.runStopQuota p = (t, .done false)) :
    exec (.stopQuota p) s = .next (t.answer p .stopQuota .done false []) :=
  congrArg Host.Outcome.next (State.complete_done_of_keeps h hrun ((keptInEvents_inHand none (s.port p).replies rfl).runStopQuota h.inHand))

theorem exec_stopQuota_already (h : s.completing p .stopQuota) (hr : s.engine.regime ≠ .quota) (hf : ¬s.engine.hasQuotaFrame = true) :
    exec (.stopQuota p) s = .next (s.answer p .stopQuota .already false []) := by
  have hrun : s.runStopQuota p = (s, .plain .already) := by
    unfold State.runStopQuota
    rw [if_neg hr, if_neg hf]
  exact congrArg Host.Outcome.next (State.complete_plain h hrun (by decide))

theorem State.runStopQuota_preempted (hr : s.engine.regime ≠ .quota) (hf : s.engine.hasQuotaFrame = true) :
    s.runStopQuota p = (s.removeQuotaFrame.clearSuspended, .done false) := by
  unfold State.runStopQuota
  rw [if_neg hr, if_pos hf]

theorem State.runStopQuota_inForce (hr : s.engine.regime = .quota) :
    s.runStopQuota p = (((s.closeTagged .quota .stopQuota).clearSuspended.pop (some p)).select, .done false) := by
  unfold State.runStopQuota
  rw [if_pos hr]

/-- QUOTA in force has ended up to the selection: the suspended list is empty and the regime IDLE (R113). `w` is the state with its channels closed. -/
theorem State.stoppedQuota_eq {w : State} (hengine : w.engine = s.engine) (hplanner : w.planner = s.planner) (hstack : s.engine.stack = []) :
    w.clearSuspended.pop (some p) =
      State.post { w with
        zones := (w.clearSuspended.pop (some p)).zones
        engine := { s.engine with regime := .idle, manual := none }
        planner := { s.planner with suspended := [] } } .regimeChanged none none (some p) (some 0) := by
  have hclear : w.clearSuspended.engine = s.engine := hengine
  have hzones : (w.clearSuspended.pop (some p)).zones = w.clearSuspended.zones := by
    rw [State.pop_empty (some p) (hclear ▸ hstack), State.post_zones]
  rw [hzones, State.pop_empty (some p) (hclear ▸ hstack), State.clearSuspended_eq w, hengine, hplanner]

theorem State.stoppedQuota_zone {w : State} (hengine : w.engine = s.engine) (hplanner : w.planner = s.planner) (hstack : s.engine.stack = [])
    (z : ZoneId) :
    (w.clearSuspended.pop (some p)).zone z = if z ∈ s.planner.suspended then (w.zone z).noVisit else w.zone z := by
  have hclear : w.clearSuspended.engine = s.engine := hengine
  rw [State.pop_empty (some p) (hclear ▸ hstack), State.post_zone, ← hplanner]
  exact w.clearSuspended_zone z

end

end Sys2Proof.Machine

open Sys2Proof Sys2Proof.Machine

/-- Settles O46: by the regime in force and the QUOTA frame; the end of QUOTA in force is the closing of its channels, then the pop over an empty stack. -/
theorem quotaIsStartedAndStopped : Obligations.QuotaIsStartedAndStopped := by
  unfold Obligations.QuotaIsStartedAndStopped
  refine fun s p => ⟨fun h => ⟨fun hr => ?_, fun hr => ?_, fun hr => ⟨fun hf => ?_, fun hf => ?_⟩⟩,
    fun h => ⟨fun hr hf => ?_, fun hr hf => ?_, fun hr hstack => ?_⟩⟩
  · exact exec_startQuota_already h (by simp [State.runStartQuota, hr])
  · exact exec_startQuota_done h (State.runStartQuota_idle hr)
  · have hframe : s.engine.hasQuotaFrame = true := s.engine.hasQuotaFrame_iff.mpr hf
    exact exec_startQuota_already h ((State.runStartQuota_preempted hr).trans (if_pos hframe))
  · have hframe : ¬s.engine.hasQuotaFrame = true := fun k => by
      obtain ⟨i, r, hin⟩ := s.engine.hasQuotaFrame_iff.mp k
      exact hf i r hin
    exact exec_startQuota_done h ((State.runStartQuota_preempted hr).trans (if_neg hframe))
  · refine exec_stopQuota_already h hr fun k => ?_
    obtain ⟨i, r, hin⟩ := s.engine.hasQuotaFrame_iff.mp k
    exact hf i r hin
  · refine ⟨s.removeQuotaFrame.clearSuspended,
      exec_stopQuota_done h (State.runStopQuota_preempted hr (s.engine.hasQuotaFrame_iff.mpr hf)), ?_, s.removeQuotaFrame.clearSuspended_zone⟩
    rw [State.clearSuspended_eq s.removeQuotaFrame, State.removeQuotaFrame_eq]
  · have hclosed := s.closeTagged_channelsClosed .quota .stopQuota
    have hengine : (s.closeTagged .quota .stopQuota).engine = s.engine := (s.closeTagged_quiet .quota .stopQuota).engine
    have hplanner : (s.closeTagged .quota .stopQuota).planner = s.planner := hclosed.planner (by decide)
    exact ⟨s.closeTagged .quota .stopQuota, (s.closeTagged .quota .stopQuota).clearSuspended.pop (some p),
      exec_stopQuota_done h (State.runStopQuota_inForce hr), hclosed, State.stoppedQuota_eq hengine hplanner hstack,
      State.stoppedQuota_zone hengine hplanner hstack⟩

end

section
/-! RUN-MANUAL and CANCEL-MANUAL (R114, R115, R118). -/

namespace Sys2Proof.Machine

/-! ### The checks of the run times -/

/-- A run time outside its range (R114). -/
def runTimeOutside (t : Nat) : Bool := decide (t < 10 ∨ 3600 < t)

/-- The run time of the range that is nearest (R12, R114). -/
def runTimeInside (t : Nat) : Nat := max 10 (min 3600 t)

/-- In strict mode the first run time outside its range refuses the list (R114). -/
theorem checkRunTimes_refused {ts : List Nat} {k i : Nat} (h : ts.findIdx? runTimeOutside = some i) : checkRunTimes true k ts = .out (2 * (k + i)) := by
  induction ts generalizing k i with
  | nil => simp at h
  | cons t rest ih =>
    rw [List.findIdx?_cons] at h
    cases ho : runTimeOutside t with
    | true =>
      have hi : i = 0 := by simpa [ho] using h.symm
      rw [checkRunTimes, checkNat_strict_outside ho, hi]
      rfl
    | false =>
      obtain ⟨j, hj, rfl⟩ : ∃ j, rest.findIdx? runTimeOutside = some j ∧ j + 1 = i := by simpa [ho] using h
      rw [checkRunTimes, checkNat_inside ho, Checked.andThen_unmarked, ih hj, Nat.add_assoc, Nat.add_comm 1 j]
      rfl

/-- A check followed by one that passes: the marks join (R175). -/
theorem Checked.ok_andThen_ok {α β : Type} (v : α) (b c : Bool) (f : α → β) :
    ((Checked.ok v b).andThen fun w => .ok (f w) c) = .ok (f v) (b || c) := rfl

/-- The run times pass in clamp mode, and in strict mode where each is in its range (R114). -/
theorem checkRunTimes_passes {strict : Bool} {ts : List Nat} (h : strict = false ∨ ts.any runTimeOutside = false) (k : Nat) :
    checkRunTimes strict k ts = .ok (ts.map runTimeInside) (ts.any runTimeOutside) := by
  induction ts generalizing k with
  | nil => rfl
  | cons t rest ih =>
    have hrest : strict = false ∨ rest.any runTimeOutside = false := h.imp id fun k => (Bool.or_eq_false_iff.mp k).2
    rw [checkRunTimes, List.map_cons, List.any_cons]
    cases ho : runTimeOutside t with
    | false =>
      have hkept : runTimeInside t = t := intoRange_inside (e := (t, 10, 3600)) ho
      rw [checkNat_inside ho, Checked.andThen_unmarked, ih hrest, hkept, Checked.ok_andThen_ok, Bool.or_false, Bool.false_or]
    | true =>
      have hclamp : strict = false := h.resolve_right fun k => by simp [ho] at k
      subst hclamp
      rw [checkNat_clamp_outside (by decide) ho, ih hrest]
      simp only [Checked.ok_andThen_ok, Bool.or_false]
      rfl

/-! ### RUN-MANUAL -/

section
variable {s : State} {p : Port} {es : List (Nat × Nat)} {zs : List ZoneId}

/-- A list of one to eight entries passes the check of the count (R114). -/
theorem runManual_counted (h1 : 1 ≤ es.length) (h8 : es.length ≤ 8) : ¬(es = [] ∨ Config.manualTop < es.length) := by
  rintro (rfl | hlong)
  · simp at h1
  · exact Nat.not_lt.mpr h8 hlong

/-- The checks of the count and of the zone numbers are passed (R114). -/
theorem State.runRunManual_numbered (h1 : 1 ≤ es.length) (h8 : es.length ≤ 8) (hz : es.map (·.1) = zs.map (·.val)) :
    s.runRunManual p es =
      (checkRunTimes (s.port p).strict 1 (es.map (·.2))).orRange s fun times clamped => s.takeRunManual p zs times clamped := by
  unfold State.runRunManual
  rw [if_neg (runManual_counted h1 h8), hz, zonesFrom_val]
  rfl

/-- The checks of the run times are passed as well (R114). -/
theorem State.runRunManual_timed (h1 : 1 ≤ es.length) (h8 : es.length ≤ 8) (hz : es.map (·.1) = zs.map (·.val))
    (ht : (s.port p).strict = false ∨ ∀ e ∈ es, 10 ≤ e.2 ∧ e.2 ≤ 3600) :
    s.runRunManual p es =
      s.takeRunManual p zs (es.map fun e => max 10 (min 3600 e.2)) (es.any fun e => decide (e.2 < 10 ∨ 3600 < e.2)) := by
  have hpass : (s.port p).strict = false ∨ (es.map (·.2)).any runTimeOutside = false := ht.imp id fun hin => by
    simpa [runTimeOutside] using fun a b hab => hin (a, b) hab
  rw [State.runRunManual_numbered h1 h8 hz, checkRunTimes_passes hpass, List.map_map, List.any_map]
  rfl

/-- The first undefined zone refuses the list (R114). -/
theorem State.takeRunManual_undefined {z : ZoneId} (hf : zs.find? (fun z => decide ((s.zone z).programme = none)) = some z) (times : List Nat)
    (clamped : Bool) : s.takeRunManual p zs times clamped = (s, .naming .undefinedZone z) := by
  have hnone : (fun z => (s.zone z).programme.isNone) = fun z => decide ((s.zone z).programme = none) := 
    funext fun z => by cases (s.zone z).programme <;> rfl
  unfold State.takeRunManual
  rw [hnone, hf]

/-- With every zone defined the regime decides; IDLE and QUOTA give way to MANUAL (R114, R115). -/
theorem State.takeRunManual_defined (hdef : ∀ z ∈ zs, (s.zone z).programme ≠ none) (times : List Nat) (clamped : Bool) :
    (s.engine.regime = .manual → s.takeRunManual p zs times clamped = (s, .plain .busy)) ∧
      (s.engine.regime = .frost → s.takeRunManual p zs times clamped = (s, .plain .regime)) ∧
      (s.engine.regime = .idle ∨ s.engine.regime = .quota →
        s.takeRunManual p zs times clamped = (s.startManual p (newEntries zs times), .done clamped)) := by
  have hnone : zs.find? (fun z => (s.zone z).programme.isNone) = none := List.find?_eq_none.mpr fun z hz => by simpa using hdef z hz
  unfold State.takeRunManual
  rw [hnone]
  refine ⟨fun hr => ?_, fun hr => ?_, fun hr => ?_⟩
  · rw [hr]
  · rw [hr]
  · rcases hr with hr | hr <;> rw [hr]

theorem State.startManual_idle (hr : s.engine.regime = .idle) (entries : List Entry) :
    s.startManual p entries =
      (State.post { s with engine := { s.engine with regime := .manual, manual := some entries } } .regimeChanged none none (some p) (some 2)).select := by
  unfold State.startManual
  rw [hr]
  rfl

/-- MANUAL preempts QUOTA (R109, R115). -/
theorem State.startManual_quota (hr : s.engine.regime = .quota) (entries : List Entry) :
    s.startManual p entries =
      (State.post { s.closeTagged .quota .preemption with
        engine := { s.engine with
          regime := .manual
          manual := some entries
          stack := s.engine.stack ++ [.quota s.planner.pointer s.planner.round] } } .regimeChanged none none (some p) (some 2)).select := by
  have hengine : (s.closeTagged .quota .preemption).engine = s.engine := (s.closeTagged_quiet .quota .preemption).engine
  unfold State.startManual
  dsimp only
  rw [if_pos hr, if_pos hr]
  generalize s.closeTagged .quota .preemption = w at hengine ⊢
  unfold State.enterRegime
  rw [hengine]
  rfl

theorem exec_runManual_named {c : ReplyCode} {n : Nat} (h : s.completing p (.runManual es)) (hrun : s.runRunManual p es = (s, .naming c n))
    (hc : c ≠ .lineError) : exec (.runManual p es) s = .next (s.answer p (.runManual es) c false [BitVec.ofNat 8 n]) :=
  congrArg Host.Outcome.next (State.complete_named h hrun hc)

theorem exec_runManual_plain {c : ReplyCode} (h : s.completing p (.runManual es)) (hrun : s.runRunManual p es = (s, .plain c))
    (hc : c ≠ .lineError) : exec (.runManual p es) s = .next (s.answer p (.runManual es) c false []) :=
  congrArg Host.Outcome.next (State.complete_plain h hrun hc)

theorem exec_runManual_done {t : State} {clamped : Bool} (h : s.completing p (.runManual es)) (hrun : s.runRunManual p es = (t, .done clamped)) :
    exec (.runManual p es) s = .next (t.answer p (.runManual es) .done clamped []) :=
  congrArg Host.Outcome.next (State.complete_done_of_keeps h hrun ((keptInEvents_inHand none (s.port p).replies rfl).runRunManual h.inHand))

/-- The count is checked first (R114). -/
theorem exec_runManual_count (h : s.completing p (.runManual es)) (hl : es = [] ∨ 8 < es.length) :
    exec (.runManual p es) s = .next (s.answer p (.runManual es) .range false [0x00#8]) :=
  exec_runManual_named h (if_pos hl) (by decide)

/-- Then the zone numbers (R114). -/
theorem exec_runManual_number {i : Nat} (h : s.completing p (.runManual es)) (h1 : 1 ≤ es.length) (h8 : es.length ≤ 8)
    (hi : es.findIdx? (fun e => decide (31 < e.1)) = some i) :
    exec (.runManual p es) s = .next (s.answer p (.runManual es) .range false [BitVec.ofNat 8 (2 * i + 1)]) := by
  have herror : zonesFrom 1 (es.map (·.1)) = .error (1 + i) := zonesFrom_error (by rw [List.findIdx?_map]; exact hi)
  refine exec_runManual_named h ?_ (by decide)
  unfold State.runRunManual
  rw [if_neg (runManual_counted h1 h8), herror]
  dsimp only
  rw [show 2 * (1 + i) - 1 = 2 * i + 1 by omega]

/-- Then, in strict mode, the run times (R114). -/
theorem exec_runManual_time {i : Nat} (h : s.completing p (.runManual es)) (h1 : 1 ≤ es.length) (h8 : es.length ≤ 8)
    (hz : es.map (·.1) = zs.map (·.val)) (hs : (s.port p).strict = true) (hi : es.findIdx? (fun e => decide (e.2 < 10 ∨ 3600 < e.2)) = some i) :
    exec (.runManual p es) s = .next (s.answer p (.runManual es) .range false [BitVec.ofNat 8 (2 * i + 2)]) := by
  have hout : checkRunTimes true 1 (es.map (·.2)) = .out (2 * (1 + i)) := checkRunTimes_refused (by rw [List.findIdx?_map]; exact hi)
  refine exec_runManual_named h ?_ (by decide)
  rw [State.runRunManual_numbered h1 h8 hz, hs, hout, show 2 * (1 + i) = 2 * i + 2 by omega]
  rfl

end

/-! ### CANCEL-MANUAL -/

section
variable {s : State} {p : Port}

theorem exec_cancelManual_done {t : State} (h : s.completing p .cancelManual) (hrun : s.runCancelManual p = (t, .done false)) :
    exec (.cancelManual p) s = .next (t.answer p .cancelManual .done false []) :=
  congrArg Host.Outcome.next (State.complete_done_of_keeps h hrun ((keptInEvents_inHand none (s.port p).replies rfl).runCancelManual h.inHand))

theorem exec_cancelManual_already (h : s.completing p .cancelManual) (hr : s.engine.regime ≠ .manual) (hf : ¬s.engine.hasManualFrame = true) :
    exec (.cancelManual p) s = .next (s.answer p .cancelManual .already false []) := by
  have hrun : s.runCancelManual p = (s, .plain .already) := by
    unfold State.runCancelManual
    rw [if_neg hr, if_neg hf]
  exact congrArg Host.Outcome.next (State.complete_plain h hrun (by decide))

theorem State.runCancelManual_preempted (hr : s.engine.regime ≠ .manual) (hf : s.engine.hasManualFrame = true) :
    s.runCancelManual p = (s.removeManualFrame, .done false) := by
  unfold State.runCancelManual
  rw [if_neg hr, if_pos hf]

theorem State.runCancelManual_inForce (hr : s.engine.regime = .manual) :
    s.runCancelManual p = (((s.closeTagged .manual .cancelManual).discardManual.pop (some p)).select, .done false) := by
  unfold State.runCancelManual
  rw [if_pos hr]

variable {w : State}

/-- The list is discarded over an empty stack (R110, R118). `w` is the state with the channels of MANUAL closed. -/
theorem State.discarded_pop_empty (hengine : w.engine = s.engine) (hstack : s.engine.stack = []) :
    w.discardManual.pop (some p) =
      State.post { w with engine := { s.engine with regime := .idle, manual := none } } .regimeChanged none none (some p) (some 0) := by
  have hempty : w.discardManual.engine.stack = [] := by
    rw [← hstack, ← hengine]
    rfl
  rw [State.pop_empty (some p) hempty]
  unfold State.discardManual
  rw [hengine]

/-- The list is discarded over a QUOTA frame (R110, R118). -/
theorem State.discarded_pop_quotaFrame {i r : Nat} (hengine : w.engine = s.engine) (hstack : s.engine.stack = [.quota i r]) :
    w.discardManual.pop (some p) =
      State.post { w with
        engine := { s.engine with regime := .quota, manual := none, stack := [] }
        planner := { w.planner with pointer := i, round := r } } .regimeChanged none none (some p) (some 1) := by
  have hframe : w.discardManual.engine.stack = [] ++ [.quota i r] := by
    rw [List.nil_append, ← hstack, ← hengine]
    rfl
  rw [State.pop_quotaFrame (some p) hframe]
  unfold State.discardManual
  rw [hengine]

end

end Sys2Proof.Machine

open Sys2Proof Sys2Proof.Machine

/-- Settles O47: RUN-MANUAL by its checks in their order, then by the regime; CANCEL-MANUAL by where MANUAL stands, in force
by the pop over what the stack holds. -/
theorem manualIsRunAndCancelled : Obligations.ManualIsRunAndCancelled := by
  unfold Obligations.ManualIsRunAndCancelled
  refine ⟨fun s p es h => ⟨exec_runManual_count h, fun h1 h8 => ⟨fun i => exec_runManual_number h h1 h8, fun zs hz =>
    ⟨fun i => exec_runManual_time h h1 h8 hz, fun ht => ?_⟩⟩⟩, fun s p h => ⟨fun hr hf => ?_, fun hr hf => ?_, fun hr => ?_⟩⟩
  · have htimed : s.runRunManual p es = _ := State.runRunManual_timed h1 h8 hz ht
    refine ⟨fun z hundef => ?_, fun hdef => ?_⟩
    · exact exec_runManual_named h (htimed.trans (State.takeRunManual_undefined hundef _ _)) (by decide)
    · obtain ⟨hbusy, hfrost, hstart⟩ := State.takeRunManual_defined (p := p) hdef (es.map fun e => max 10 (min 3600 e.2))
        (es.any fun e => decide (e.2 < 10 ∨ 3600 < e.2))
      refine ⟨fun hr => exec_runManual_plain h (htimed.trans (hbusy hr)) (by decide),
        fun hr => exec_runManual_plain h (htimed.trans (hfrost hr)) (by decide), fun entries hentries => ?_⟩
      have hnew : newEntries zs (es.map fun e => max 10 (min 3600 e.2)) = entries := hentries.symm
      rw [hnew] at hstart
      refine ⟨fun hr => ?_, fun hr => ?_⟩
      · have hidle := hstart (.inl hr)
        rw [State.startManual_idle hr] at hidle
        exact exec_runManual_done h (htimed.trans hidle)
      · have hclosed := s.closeTagged_channelsClosed .quota .preemption
        have hquota := hstart (.inr hr)
        rw [State.startManual_quota hr] at hquota
        exact ⟨s.closeTagged .quota .preemption, rfl, hclosed.visitsSuspended (.inr rfl) fun z ht => by simpa using ht, hclosed,
          exec_runManual_done h (htimed.trans hquota)⟩
  · refine exec_cancelManual_already h hr fun k => ?_
    obtain ⟨es, hin⟩ := s.engine.hasManualFrame_iff.mp k
    exact hf es hin
  · rw [← State.removeManualFrame_eq]
    exact exec_cancelManual_done h (State.runCancelManual_preempted hr (s.engine.hasManualFrame_iff.mpr hf))
  · have hengine : (s.closeTagged .manual .cancelManual).engine = s.engine := (s.closeTagged_quiet .manual .cancelManual).engine
    have hdone := exec_cancelManual_done h (State.runCancelManual_inForce hr)
    refine ⟨s.closeTagged .manual .cancelManual, s.closeTagged_channelsClosed .manual .cancelManual, fun hstack => ?_, fun i r hstack => ?_⟩
    · rw [← State.discarded_pop_empty hengine hstack]
      exact hdone
    · rw [← State.discarded_pop_quotaFrame hengine hstack]
      exact hdone

end

section
/-! What an arming and a disarming do before their selection (R108 to R111, R117, R163, R164). -/

namespace Sys2Proof.Machine

/-! ### The record of the manual list in its frame -/

/-- The entry as the frame holds it: a RUNNING one by what has ended its opening (R117). -/
def State.recordedEntry (s : State) (e : Entry) : Entry :=
  if e.state = .running then
    match (s.zone e.zone).endedBy with
    | some .runTimeSpent => { e with state := .done, remaining := 0 }
    | some .closeZone => { e with state := .done, remaining := 0 }
    | some .lockout => { e with state := .skipped }
    | _ => { e with state := .waiting }
  else e

theorem State.framedEntry_eq (s : State) : s.framedEntry = s.recordedEntry := by
  funext e
  unfold State.framedEntry State.recordedEntry
  split
  · rcases (s.zone e.zone).endedBy with _ | cause
    · rfl
    · cases cause <;> rfl
  · rfl

/-- The RUNNING entry is one that a lockout has ended (R117). -/
def State.skippedByLockout (s : State) (e : Entry) : Bool := decide (e.state = .running ∧ (s.zone e.zone).endedBy = some .lockout)

/-- MANUAL-SKIPPED value 3 for the entry (R117). -/
def State.postSkipped (s : State) (t : State) (e : Entry) : State :=
  t.post .manualSkipped (some e.zone) ((s.zone e.zone).programme.map (·.header)) none (some 3)

/-- The notices of an arming are posted for the entries that a lockout has ended, in list order (R117; log entry 25). -/
theorem State.reportFramed_eq (s : State) (es : List Entry) : s.reportFramed es = (es.filter s.skippedByLockout).foldl s.postSkipped s := by
  have hwalk : ∀ t : State, (∀ z, t.zone z = s.zone z) → t.reportFramed es = (es.filter s.skippedByLockout).foldl s.postSkipped t := by
    induction es with
    | nil => exact fun _ _ => rfl
    | cons e rest ih =>
      intro t ht
      have hstep : t.reportFramed (e :: rest) = (if s.skippedByLockout e = true then s.postSkipped t e else t).reportFramed rest := by
        unfold State.reportFramed State.skippedByLockout State.postSkipped
        simp only [List.foldl_cons, ht, decide_eq_true_eq]
        rfl
      rw [hstep, List.filter_cons]
      by_cases hskip : s.skippedByLockout e = true
      · rw [if_pos hskip, if_pos hskip, List.foldl_cons]
        exact ih _ fun z => (t.post_zone _ _ _ _ _ z).trans (ht z)
      · rw [if_neg hskip, if_neg hskip]
        exact ih t ht
  exact hwalk s fun _ => rfl

/-- Notices change the ports alone. -/
theorem State.reportFramed_ports (s : State) (es : List Entry) : s.reportFramed es = { s with ports := (s.reportFramed es).ports } := by
  have hwalk : ∀ (fs : List Entry) (t : State), fs.foldl s.postSkipped t = { t with ports := (fs.foldl s.postSkipped t).ports } := fun fs => by
    induction fs with
    | nil => exact fun _ => rfl
    | cons e rest ih =>
      intro t
      have hpost : s.postSkipped t e = { t with ports := (s.postSkipped t e).ports } := t.post_eq _ _ _ _ _
      rw [List.foldl_cons, ih, hpost]
  rw [State.reportFramed_eq]
  exact hwalk _ s

/-! ### The push -/

/-- The frame that an arming puts on the stack; none under IDLE (R109). -/
def State.armingFrames (s : State) : List Frame :=
  match s.engine.regime with
  | .quota => [.quota s.planner.pointer s.planner.round]
  | .manual => [.manual ((s.engine.manual.getD []).map s.recordedEntry)]
  | _ => []

/-- The notices of an arming before REGIME-CHANGED. -/
def State.armingNotices (s : State) : State :=
  ((if s.engine.regime = .manual then s.engine.manual.getD [] else []).filter s.skippedByLockout).foldl s.postSkipped s

/-- The channel is one of the regime that an arming pushes (R109). -/
def State.pushedChannel (s : State) (z : ZoneId) : Bool :=
  decide ((s.engine.regime = .quota ∧ (s.zone z).useTag = some .quota) ∨ (s.engine.regime = .manual ∧ (s.zone z).useTag = some .manual))

/-- The push of the regime in force, `w` being the state with that regime's channels closed (R109). -/
def State.pushedTo (s w : State) : State :=
  { w with
    engine := { s.engine with regime := .frost, manual := none, stack := s.engine.stack ++ s.armingFrames }
    ports := (s.armingNotices.post .regimeChanged none none none (some 3)).ports }

/-- The entry into FROST: the engine, and the notice filed after those before it (R109, R111). -/
theorem State.enterFrost_eq {s w r : State} (hengine : w.engine = s.engine) (hposts : r.postsAlike w) (stack : List Frame) :
    w.enterRegime .frost none stack none =
      { w with
        engine := { s.engine with regime := .frost, manual := none, stack := stack }
        ports := (r.post .regimeChanged none none none (some 3)).ports } := by
  obtain ⟨hp, hc, hr⟩ := hposts
  have hports := State.post_ports_congr (s := r) (t := { w with engine := { w.engine with regime := .frost, manual := none, stack := stack } })
    hp hc hr .regimeChanged none none none (some 3)
  unfold State.enterRegime
  rw [← hports, ← hengine]
  exact State.post_eq _ _ _ _ _ _

theorem State.channelsClosed.postsAlike {s u : State} {sel : ZoneId → Bool} {e : Ending} (h : s.channelsClosed sel e u) : s.postsAlike u := by
  obtain ⟨-, -, hrest⟩ := h
  rw [hrest]
  exact ⟨rfl, rfl, rfl⟩

/-- The closings do not read the ports. -/
theorem State.channelsClosed.atPorts {s r u : State} {sel : ZoneId → Bool} {e : Ending} (h : r.channelsClosed sel e u)
    (hr : r = { s with ports := r.ports }) : s.channelsClosed sel e { u with ports := s.ports } := by
  generalize r.ports = P at hr
  subst hr
  obtain ⟨hzone, hmeter, hrest⟩ := h
  exact ⟨hzone, hmeter, congrArg (fun x : State => { x with ports := s.ports }) hrest⟩

theorem State.pushFrost_idle {s : State} (hr : s.engine.regime = .idle) : s.channelsClosed s.pushedChannel .preemption s ∧ s.pushFrost = s.pushedTo s := by
  have hsel : s.pushedChannel = fun _ => false := funext fun z => by simp [State.pushedChannel, hr]
  have hframes : s.armingFrames = [] := by simp [State.armingFrames, hr]
  have hnotices : s.armingNotices = s := by simp [State.armingNotices, hr]
  refine ⟨hsel ▸ s.channelsClosed_none .preemption, ?_⟩
  unfold State.pushFrost State.pushedTo
  rw [hframes, hnotices, List.append_nil, hr]
  exact State.enterFrost_eq rfl ⟨rfl, rfl, rfl⟩ s.engine.stack

theorem State.pushFrost_quota {s : State} (hr : s.engine.regime = .quota) :
    s.channelsClosed s.pushedChannel .preemption (s.closeTagged .quota .preemption) ∧
      s.pushFrost = s.pushedTo (s.closeTagged .quota .preemption) := by
  have hclosed := s.closeTagged_channelsClosed .quota .preemption
  have hengine : (s.closeTagged .quota .preemption).engine = s.engine := (s.closeTagged_quiet .quota .preemption).engine
  have hsel : s.pushedChannel = fun z => decide ((s.zone z).useTag = some .quota) := funext fun z => by simp [State.pushedChannel, hr]
  have hframes : s.armingFrames = [s.quotaFrame] := by simp [State.armingFrames, State.quotaFrame, hr]
  have hnotices : s.armingNotices = s := by simp [State.armingNotices, hr]
  refine ⟨hsel ▸ hclosed, ?_⟩
  unfold State.pushFrost State.pushedTo
  rw [hframes, hnotices, hr]
  exact State.enterFrost_eq hengine hclosed.postsAlike _

theorem State.pushFrost_manual {s : State} (hr : s.engine.regime = .manual) :
    ∃ w : State, s.channelsClosed s.pushedChannel .preemption w ∧ s.pushFrost = s.pushedTo w := by
  have hreport := s.reportFramed_ports s.engine.entries
  have hclosed := (s.reportFramed s.engine.entries).closeTagged_channelsClosed .manual .preemption
  have hquiet : ((s.reportFramed s.engine.entries).closeTagged .manual .preemption).engine = (s.reportFramed s.engine.entries).engine :=
    (State.closeTagged_quiet _ .manual .preemption).engine
  have hsame : (s.reportFramed s.engine.entries).engine = s.engine := by rw [hreport]
  have hzone : ∀ z, (s.reportFramed s.engine.entries).zone z = s.zone z := fun z => by rw [hreport]; rfl
  have hsel : s.pushedChannel = fun z => decide (((s.reportFramed s.engine.entries).zone z).useTag = some .manual) := funext fun z => by
    simp [State.pushedChannel, hr, hzone]
  have hframes : s.armingFrames = [.manual (s.engine.entries.map s.framedEntry)] := by
    simp [State.armingFrames, Engine.entries, State.framedEntry_eq, hr]
  have hnotices : s.armingNotices = s.reportFramed s.engine.entries := by
    rw [State.reportFramed_eq]
    simp [State.armingNotices, Engine.entries, hr]
  have hentered := State.enterFrost_eq (hquiet.trans hsame) hclosed.postsAlike (s.engine.stack ++ [.manual (s.engine.entries.map s.framedEntry)])
  unfold State.pushFrost
  rw [hr]
  dsimp only
  rw [hentered, ← hframes]
  generalize (s.reportFramed s.engine.entries).closeTagged .manual .preemption = w at hclosed
  rw [← hnotices]
  exact ⟨{ w with ports := s.ports }, hsel ▸ hclosed.atPorts hreport, rfl⟩

/-- An arming's push (R109). -/
theorem State.pushFrost_pushed {s : State} (h : s.engine.regime ≠ .frost) :
    ∃ w : State, s.channelsClosed s.pushedChannel .preemption w ∧ s.pushFrost = s.pushedTo w := by
  cases hr : s.engine.regime with
  | idle => exact ⟨s, State.pushFrost_idle hr⟩
  | quota => exact ⟨_, State.pushFrost_quota hr⟩
  | manual => exact State.pushFrost_manual hr
  | frost => exact absurd hr h

/-! ### The arming changes -/

/-- PAUSED becomes RUNNING, the dry clocks and the overdue marks are cleared (R109, R163). -/
def State.armingCleared (s : State) : State :=
  { s.mapZones (fun _ x => { x with dryClock := 0, overdue := false }) with
    engine := { s.engine with runState := if s.engine.runState = .paused then .running else s.engine.runState } }

theorem State.armingChanges_eq (s : State) : s.armingChanges = s.armingCleared.triage := rfl

theorem State.armingCleared_zone (s : State) (z : ZoneId) : s.armingCleared.zone z = { s.zone z with dryClock := 0, overdue := false } :=
  s.zone_mapZones (fun _ x => { x with dryClock := 0, overdue := false }) z

/-- Triage admits no zone whose max dry is 0, so it marks none whose dry clock is 0 (R157, R158). -/
theorem State.triage_overdue_clear {s : State} {z : ZoneId} (hdry : (s.zone z).dryClock = 0) (hmark : (s.zone z).overdue = false) :
    (s.triage.zone z).overdue = false := by
  rw [State.triage_overdue, hmark, Bool.false_or]
  cases hlong : (s.zone z).dryTooLong with
  | false => simp
  | true =>
    obtain ⟨x, hx, hmax⟩ : ∃ x, (s.zone z).programme = some x ∧ x.maxDry = 0 := by simpa [Zone.dryTooLong, Option.any_eq_true, hdry] using hlong
    have habsent : s.admission.required z = none := by
      rw [State.admission_eq]
      refine admittedOf_absent _ fun c hc hzone => ?_
      obtain ⟨hprogramme, -, -, -, hfill, -⟩ := (s.mem_triageOrder c).mp hc
      rw [hzone, hx] at hprogramme
      obtain rfl := Option.some.inj hprogramme
      exact Nat.not_lt_zero _ (hmax ▸ hfill)
    rw [habsent]
    rfl

/-- What the arming changes leave of a zone (R158, R163). -/
theorem State.armingChanges_zone (s : State) (z : ZoneId) :
    (s.armingChanges.zone z).dryClock = 0 ∧ (s.armingChanges.zone z).overdue = false ∧ (s.armingChanges.zone z).valve = (s.zone z).valve := by
  have hcleared := s.armingCleared_zone z
  have hjudged := s.armingCleared.triage_judged.zone z
  rw [State.armingChanges_eq]
  refine ⟨?_, State.triage_overdue_clear (by rw [hcleared]) (by rw [hcleared]), ?_⟩
  · rw [hjudged, hcleared]
  · rw [hjudged, hcleared]

/-! ### The pop of a MANUAL frame -/

section
variable {c : State} {port : Option Port} {below : List Frame} {es : List Entry}

/-- The restored list has an entry to run (R110). -/
theorem State.pop_waiting (h : c.engine.stack = below ++ [.manual es]) (hwait : ∃ e ∈ es, e.state = .waiting) : c.pop port = c.restore port := by
  obtain ⟨e, he, hstate⟩ := hwait
  rw [State.pop_manualFrame port h, if_neg fun k => k e he hstate]

/-- The restored list has nothing to run (R110; log entry 13). -/
theorem State.pop_exhausted (h : c.engine.stack = below ++ [.manual es]) (hnone : ∀ e ∈ es, e.state ≠ .waiting) :
    c.pop port = (c.restore port).restore port := by
  rw [State.pop_manualFrame port h, if_pos hnone]

end

end Sys2Proof.Machine

open Sys2Proof Sys2Proof.Machine

/-- Settles O41: an arming is `State.pushFrost_pushed`, then the arming changes; a disarming is a pop of the state with the admitted set empty. -/
theorem armingPushesAndDisarmingPops : Obligations.ArmingPushesAndDisarmingPops := by
  unfold Obligations.ArmingPushesAndDisarmingPops
  refine fun s => ⟨fun hr => ?_, fun port => ?_⟩
  · obtain ⟨w, hclosed, hpush⟩ := State.pushFrost_pushed hr
    have hzones := State.armingCleared_zone (s.pushedTo w)
    refine ⟨w, (s.pushedTo w).armingCleared, (s.pushedTo w).armingChanges, ?_, State.armingChanges_eq _, hclosed, ?_, hzones,
      (s.pushedTo w).armingChanges_zone⟩
    · rw [← hpush]
      rfl
    · rfl
  · refine ⟨s.clearAdmitted, s.clearAdmitted.pop port, rfl, rfl, ?_, ?_, ?_, ?_⟩
    · exact s.zone_mapZones fun _ x => { x with admitted := false, requiredFlow := none, overdue := false }
    · exact fun below i r h => State.pop_quotaFrame (s := s.clearAdmitted) port h
    · exact fun h => State.pop_empty (s := s.clearAdmitted) port h
    · intro below es h m hm
      have hrestore : s.clearAdmitted.restore port = m := (State.restore_manualFrame (s := s.clearAdmitted) port h).trans hm.symm
      have hengine : m.engine = { s.engine with regime := .manual, manual := some es, stack := below } := by rw [hm, State.post_engine]
      have hplanner : m.planner = s.planner := by
        rw [hm, State.post_planner]
        rfl
      refine ⟨fun hwait => (State.pop_waiting (c := s.clearAdmitted) h hwait).trans hrestore, fun hnone => ?_⟩
      have hpop : s.clearAdmitted.pop port = m.restore port := hrestore ▸ State.pop_exhausted (c := s.clearAdmitted) h hnone
      refine ⟨fun hbelow => ?_, fun i r hbelow => ?_⟩
      · rw [hpop, State.restore_empty port (by rw [hengine, hbelow])]
      · rw [hpop, State.restore_quotaFrame (below := []) port (by rw [hengine, hbelow]; rfl), hplanner]

end

section
/-! The visit sheet: what the laws of R127 and R139 read of the state, and the rule of the operations that change neither it nor any zone record, or close channels. -/

namespace Sys2Proof.Machine

/-! ### The sheet -/

/-- What R127 and R139 read of a zone: its visit status, its cycles remaining and its programmed cycles. -/
def Zone.visitAccount (x : Zone) : VisitStatus × Nat × Nat := (x.visit, x.cyclesRemaining, x.programmedCycles)

/-- What the laws of R127 and R139 read of the state. -/
structure VisitSheet where
  account : ZoneId → VisitStatus × Nat × Nat
  suspended : List ZoneId

def State.visitSheet (s : State) : VisitSheet := ⟨fun z => (s.zone z).visitAccount, s.planner.suspended⟩

theorem State.visitSheet_ext {s t : State} (hz : ∀ z, (t.zone z).visitAccount = (s.zone z).visitAccount)
    (hl : t.planner.suspended = s.planner.suspended) : t.visitSheet = s.visitSheet := by
  unfold State.visitSheet
  simp only [hz, hl]

/-- Two states with one sheet agree in all that the laws read. -/
theorem State.visitSheet_reads {s t : State} (h : t.visitSheet = s.visitSheet) :
    (∀ z, (t.zone z).visit = (s.zone z).visit ∧ (t.zone z).cyclesRemaining = (s.zone z).cyclesRemaining ∧
      (t.zone z).programmedCycles = (s.zone z).programmedCycles) ∧ t.planner.suspended = s.planner.suspended := by
  refine ⟨fun z => ?_, congrArg VisitSheet.suspended h⟩
  have hz : (t.zone z).visitAccount = (s.zone z).visitAccount := congrFun (congrArg VisitSheet.account h) z
  exact ⟨congrArg Prod.fst hz, congrArg (·.2.1) hz, congrArg (·.2.2) hz⟩

theorem State.updZone_visitSheet (s : State) (z : ZoneId) {f : Zone → Zone} (hf : (f (s.zone z)).visitAccount = (s.zone z).visitAccount) :
    (s.updZone z f).visitSheet = s.visitSheet :=
  State.visitSheet_ext (fun z' => by
    rw [State.zone_updZone]
    split
    · subst_vars; exact hf
    · rfl) rfl

theorem State.mapZones_visitSheet (s : State) {f : ZoneId → Zone → Zone} (hf : ∀ z x, (f z x).visitAccount = x.visitAccount) :
    (s.mapZones f).visitSheet = s.visitSheet :=
  State.visitSheet_ext (fun z => by rw [State.zone_mapZones]; exact hf z _) rfl

/-- A run of triage leaves the sheet (R158). -/
theorem Judged.visitSheet {s t : State} (j : Judged s t) : t.visitSheet = s.visitSheet :=
  State.visitSheet_ext (fun z => by rw [j.zone z]; rfl) (by rw [j.rest])

/-! ### The rule of the operations that close at most -/

/-- A predicate on zone records and the suspended list alone that close commands keep. -/
structure KeptByEndings (P : State → Prop) : Prop where
  tables : ∀ {s t : State}, P s → t.zones = s.zones → t.planner.suspended = s.planner.suspended → P t
  close : ∀ (s : State) (z : ZoneId) (e : Ending), P s → P (s.closeChannel z e)

namespace KeptByEndings
variable {P : State → Prop}

theorem post (k : KeptByEndings P) {s : State} {n : NoticeKind} {z : Option ZoneId} {i : Option HeaderId} {p : Option Port} {v : Option Int}
    (h : P s) : P (s.post n z i p v) := k.tables h (by simp) (by simp)

theorem updMeter (k : KeptByEndings P) {s : State} {i : HeaderId} {f : Meter → Meter} (h : P s) : P (s.updMeter i f) := k.tables h rfl rfl

theorem portsOnly (k : KeptByEndings P) {s t : State} (q : PortsOnly s t) (h : P s) : P t := by
  rw [q]
  exact k.tables h rfl rfl

theorem complete (k : KeptByEndings P) {s : State} {p : Port} {d : Directive} {run : State → State × Answer} (h : P s) (hrun : P (run s).1) :
    P (s.complete p d run) := State.complete_keeps (fun _ _ _ ht => k.tables ht rfl rfl) h hrun

/-! ### Closings -/

theorem closeWhere (k : KeptByEndings P) {s : State} {zs : List ZoneId} {sel : Zone → Bool} {e : Ending} (h : P s) : P (s.closeWhere zs sel e) :=
  State.forZones_keeps _ (fun z t ht => by
    split
    · exact k.close t z e ht
    · exact ht) zs s h

theorem closeTagged (k : KeptByEndings P) {s : State} {tag : UseTag} {e : Ending} (h : P s) : P (s.closeTagged tag e) :=
  State.forZones_keeps _ (fun z t ht => by
    split
    · exact k.close t z e ht
    · exact ht) _ s h

theorem closeVisits (k : KeptByEndings P) {s : State} {sel : Zone → Bool} {e : Ending} (h : P s) : P (s.closeVisits sel e) := by
  rw [State.closeVisits_where]
  exact k.closeWhere h

theorem closeAll (k : KeptByEndings P) {s : State} {e : Ending} (h : P s) : P (s.closeAll e) :=
  State.forZones_keeps _ (fun z t ht => k.close t z e ht) _ s h

theorem shedWalk (k : KeptByEndings P) {s : State} {port : Option Port} (h : P s) : P (s.shedWalk port) :=
  State.forZones_keeps _ (fun z t ht => by
    unfold State.shedStep
    split
    · exact k.post (k.close t z .shed ht)
    · exact ht) _ s h

theorem openingReports (k : KeptByEndings P) {s : State} {x : Programme} (h : P s) : P (s.openingReports x) := by
  unfold State.openingReports State.markOpening
  exact k.updMeter (k.shedWalk (k.tables h rfl rfl))

theorem markSettling (k : KeptByEndings P) {s : State} {i : Option HeaderId} (h : P s) : P (s.markSettling i) := by
  unfold State.markSettling
  cases i
  · exact h
  · exact k.updMeter h

/-! ### Supply events -/

theorem ceilingChange (k : KeptByEndings P) {s : State} {before : Flows} {port : Option Port} (h : P s) : P (s.ceilingChange before port) := by
  unfold State.ceilingChange
  split
  · exact h
  · exact k.tables (k.shedWalk h) rfl rfl

theorem runDeclare (k : KeptByEndings P) {s : State} {p : Port} {flows : FlowFields} {validity : Nat} (h : P s) :
    P (s.runDeclare p flows validity).1 := Checked.orRange_keeps _ h fun _ _ => k.ceilingChange (k.post (k.tables h rfl rfl))

theorem runSetFallback (k : KeptByEndings P) {s : State} {p : Port} {flows : FlowFields} (h : P s) : P (s.runSetFallback p flows).1 :=
  Checked.orRange_keeps _ h fun v _ => by
    change P (s.replaceFallback p v)
    unfold State.replaceFallback
    split
    · exact k.tables h rfl rfl
    · exact k.ceilingChange (k.tables h rfl rfl)

theorem lapse (k : KeptByEndings P) {s : State} (h : P s) : P s.lapse := by
  unfold State.lapse
  split
  · exact k.ceilingChange (k.post (k.tables h rfl rfl))
  · exact h

theorem takeUp (k : KeptByEndings P) {s : State} (h : P s) : P s.takeUp := by
  rcases s.takeUp_cases with he | ⟨p, d, -, -, he⟩
  · rw [he]; exact h
  · rw [he]; exact k.tables h rfl rfl

theorem takeAtPoint (k : KeptByEndings P) {s : State} (ev : SupplyEvent) (h : P s) : P (s.takeAtPoint ev) := by
  have htaken := k.takeUp h
  unfold State.takeAtPoint State.takeSupplyEvent
  cases ev with
  | declare p flows validity => exact k.complete htaken (k.runDeclare htaken)
  | fallback p flows => exact k.complete htaken (k.runSetFallback htaken)
  | lapse => exact k.lapse h

theorem passPoint (k : KeptByEndings P) {s : State} (h : P s) : P s.passPoint :=
  List.foldlRecOn _ _ (k.tables h rfl rfl) fun _ ht e _ => k.takeAtPoint e.event ht

theorem sendInto (k : KeptByEndings P) {s : State} {ev : SupplyEvent} {n : Nat} {due : Bool} (h : P s) : P (s.sendInto ev n due) := by
  rcases s.sendInto_cases ev n due with he | he
  · rw [he]; exact h
  · rw [he]; exact k.tables h rfl rfl

/-- The opening test, with the supply events at its points, and what follows its answer (R77, R87, R124). -/
theorem ifFits (k : KeptByEndings P) {Q : State → Prop} {x : Programme} {f g : State → State} (hf : ∀ t, P t → Q (f t)) (hg : ∀ t, P t → Q (g t))
    {s : State} (h : P s) : Q (s.ifFits x f g).state := by
  unfold State.ifFits
  dsimp only
  split
  · exact hf _ (k.passPoint (k.passPoint h))
  · exact hg _ (k.passPoint h)

/-! ### Reports to the planner and windows -/

theorem testAllotment (k : KeptByEndings P) {s : State} {port : Option Port} (h : P s) : P (s.testAllotment port) := by
  unfold State.testAllotment
  split
  · split
    · exact h
    · exact k.closeVisits (k.post (k.tables h rfl rfl))
  · exact k.tables h rfl rfl

theorem reportProgress (k : KeptByEndings P) {s : State} {r : Option (List ZoneId)} (h : P s) : P (s.reportProgress r) := by
  cases r with
  | none => exact h
  | some zs => exact k.testAllotment (k.closeWhere (zs := zs) (sel := Zone.targetReached) h)

theorem windows (k : KeptByEndings P) {s : State} {gs : List GroupId} (h : P s) : P (s.evaluateWindows gs).1 := by
  have hstored : P (gs.foldl State.storeWindow s) := List.foldlRecOn gs _ h fun t ht g _ => k.tables (t := t.storeWindow g) ht rfl rfl
  unfold State.evaluateWindows
  dsimp only
  split
  · exact hstored
  · exact k.closeVisits hstored

/-! ### Meters -/

theorem rawPulse (k : KeptByEndings P) {s : State} {i : HeaderId} (h : P s) : P (s.rawPulse i) := by
  rw [State.rawPulse_eq]
  split
  · exact k.updMeter h
  · split
    · exact k.updMeter h
    · split
      · exact k.updMeter h
      · exact k.post (k.updMeter h)

theorem beginInterval (k : KeptByEndings P) {s : State} {i : HeaderId} (h : P s) : P (s.beginInterval i) := k.tables h rfl rfl

theorem postFlow (k : KeptByEndings P) {s : State} {i : HeaderId} {called : Option Direction} {only : Option ZoneId} {flow : Nat} (h : P s) :
    P (s.postFlow i called only flow) := by
  cases called
  · exact h
  · exact k.post h

/-! ### Regimes and stops -/

theorem restore (k : KeptByEndings P) {s : State} {port : Option Port} (h : P s) : P (s.restore port) := by
  refine k.post ?_
  split <;> exact k.tables h rfl rfl

theorem pop (k : KeptByEndings P) {s : State} {port : Option Port} (h : P s) : P (s.pop port) := by
  unfold State.pop
  dsimp only
  split
  · exact k.restore (k.restore h)
  · exact k.restore h

theorem enterRegime (k : KeptByEndings P) {s : State} {r : Regime} {manual : Option (List Entry)} {stack : List Frame} {port : Option Port}
    (h : P s) : P (s.enterRegime r manual stack port) := k.post (k.tables h rfl rfl)

theorem pushFrost (k : KeptByEndings P) {s : State} (h : P s) : P s.pushFrost := by
  have hframed : P (s.reportFramed s.engine.entries) := List.foldlRecOn s.engine.entries _ h fun t ht e _ => by
    split
    · exact k.post ht
    · exact ht
  unfold State.pushFrost
  split
  · exact k.enterRegime h
  · exact k.enterRegime (k.closeTagged h)
  · exact k.enterRegime (k.closeTagged hframed)
  · exact h

theorem stopEngine (k : KeptByEndings P) {s : State} {cause : StopCause} {port : Option Port} {value : Int} (h : P s) :
    P (s.stopEngine cause port value) := k.post (k.closeAll (k.tables h rfl rfl))

theorem takeStop (k : KeptByEndings P) {s : State} (h : P s) : P s.takeStop := by
  unfold State.takeStop
  split
  · exact k.stopEngine h
  · exact k.stopEngine h
  · split
    · exact h
    · exact k.post (k.tables h rfl rfl)

theorem finishEntry (k : KeptByEndings P) {s : State} {z : ZoneId} {e : Ending} (h : P s) : P (s.finishEntry z e) := by
  unfold State.finishEntry
  split
  · dsimp only
    split
    · exact k.post (k.tables h rfl rfl)
    · exact k.tables h rfl rfl
  · exact h

/-! ### Holds -/

theorem setHold (k : KeptByEndings P) {s : State} {e : EntryId} {x : Hold} (h : P s) : P (s.setHold e x) := k.tables h rfl rfl

theorem runTakeHold (k : KeptByEndings P) {s : State} {p : Port} {e : EntryId} (h : P s) : P (s.runTakeHold p e).1 := by
  unfold State.runTakeHold
  split
  · exact k.setHold h
  · split <;> exact h
  · split
    · exact k.setHold h
    · exact h

theorem runReleaseHold (k : KeptByEndings P) {s : State} {p : Port} {e : EntryId} (h : P s) : P (s.runReleaseHold p e).1 := by
  unfold State.runReleaseHold
  split
  · split <;> exact k.setHold h
  · exact h

theorem runBreakHold (k : KeptByEndings P) {s : State} {e : EntryId} (h : P s) : P (s.runBreakHold e).1 := by
  unfold State.runBreakHold State.breakEntry
  split
  · exact k.post (k.setHold h)
  · exact k.post (k.setHold h)
  · exact h

theorem and (k : KeptByEndings P) {Q : State → Prop} (l : KeptByEndings Q) : KeptByEndings fun s => P s ∧ Q s where
  tables := fun h hz hl => ⟨k.tables h.1 hz hl, l.tables h.2 hz hl⟩
  close := fun s z e h => ⟨k.close s z e h.1, l.close s z e h.2⟩

end KeptByEndings

/-- A close command that suspends a visit finds the channel open, so that a SHUT zone that is not on the suspended list stays SHUT and off it (R40, R133). -/
theorem keptByEndings_shutAndOff (z : ZoneId) : KeptByEndings fun s => (s.zone z).valve = .shut ∧ z ∉ s.planner.suspended where
  tables := fun h hz hl => by
    unfold State.zone at h ⊢
    rw [hz, hl]
    exact h
  close := fun s y e h => by
    by_cases ho : (s.zone y).isOpen = true
    · have hne : z ≠ y := by
        rintro rfl
        simp [Zone.isOpen, h.1] at ho
      have hplanner := congrArg State.planner (State.closeChannel_rest e ho).2
      rw [State.closeChannel_zone_other s e hne, hplanner]
      refine ⟨h.1, fun hin => (List.mem_append.mp hin).elim h.2 fun hy => ?_⟩
      split at hy
      · exact hne (List.mem_singleton.mp hy)
      · cases hy
    · rw [State.closeChannel_shut s e (by simpa using ho)]
      exact h

end Sys2Proof.Machine
end

section
/-! The rule of the visit sheet: what is kept by every operation that leaves the sheet as it stands, and by the end and the beginning of a visit, an edit's application, the
clearing of the suspended list, the renewal of cycles at a roll, the RESET line and POWER_ON, is kept by every step. (`LedgerLaw` cannot carry R127 and R139: what leaves
the ledger may change visits and cycles.) -/

namespace Sys2Proof.Machine

/-- A visit becomes OPEN, and its zone leaves the suspended list, where it stands on it (R129, R131). -/
def State.beginVisit (s : State) (z : ZoneId) (x : Programme) (target volume : Zone → Nat) : State :=
  { s.updZone z (fun y => y.startVisit x (target y) (volume y)) with
    planner := { s.planner with suspended := s.planner.suspended.filter fun i => decide (i ≠ z) } }

/-- A predicate on the visit sheet that the operations which change the sheet keep (R10, R17, R54, R129, R131, R133, R141). -/
structure VisitLaw (P : State → Prop) : Prop where
  still : ∀ {s t : State}, P s → t.visitSheet = s.visitSheet → P t
  ended : ∀ (s : State) (z : ZoneId) (o : VisitOutcome), (s.zone z).visit = .openVisit → P s → P (s.endVisit z o)
  begun : ∀ (s : State) (z : ZoneId) (x : Programme) (target volume : Zone → Nat), P s → P (s.beginVisit z x target volume)
  edit : ∀ (s : State) (z : ZoneId) (e : PendingEdit), P s → P (s.applyEdit z e)
  prune : ∀ (s : State) (sel : ZoneId → Bool), P s → P (s.pruneSuspended sel)
  renew : ∀ s : State, P s → P (s.mapZones fun _ x => { x with cyclesRemaining := x.programmedCycles })
  released : ∀ (s : State) (a b c : Straps), P s → P (s.releaseBlocks a b c)
  powerOn : ∀ (a b c : Straps) (stopLow : Bool) (pending : List Instr), P (.powerOn a b c stopLow pending)

namespace VisitLaw
variable {P : State → Prop}

theorem updZone (k : VisitLaw P) {s : State} {z : ZoneId} {f : Zone → Zone} (h : P s) (hf : ∀ x : Zone, (f x).visitAccount = x.visitAccount) :
    P (s.updZone z f) := k.still h (s.updZone_visitSheet z (hf _))

theorem mapZones (k : VisitLaw P) {s : State} {f : ZoneId → Zone → Zone} (h : P s) (hf : ∀ z (x : Zone), (f z x).visitAccount = x.visitAccount) :
    P (s.mapZones f) := k.still h (s.mapZones_visitSheet hf)

theorem tables (k : VisitLaw P) {s t : State} (h : P s) (hz : t.zones = s.zones) (hl : t.planner.suspended = s.planner.suspended) : P t :=
  k.still h (State.visitSheet_ext (fun z => by unfold State.zone; rw [hz]) hl)

theorem judged (k : VisitLaw P) {s t : State} (j : Judged s t) (h : P s) : P t := k.still h j.visitSheet

theorem retriage (k : VisitLaw P) {s : State} (h : P s) : P s.retriage := k.judged s.retriage_judged h

/-! ### The end of a visit -/

theorem endOpenVisit (k : VisitLaw P) {s : State} {z : ZoneId} {o : VisitOutcome} (h : P s) : P (s.endOpenVisit z o) := by
  unfold State.endOpenVisit
  split
  · rename_i hv
    exact k.ended s z o hv h
  · exact h

theorem endFrostVisit (k : VisitLaw P) {s : State} {z : ZoneId} (h : P s) : P (s.endFrostVisit z) := k.updZone h fun _ => rfl

theorem startDryClock (k : VisitLaw P) {s : State} {z : ZoneId} {wetEnded : Bool} (h : P s) : P (s.startDryClock z wetEnded) := by
  unfold State.startDryClock
  split
  · exact k.updZone h fun _ => rfl
  · exact h

/-- A close command reaches the sheet only by the end of an OPEN visit (R40, R133). -/
theorem closeChannel (k : VisitLaw P) {s : State} (z : ZoneId) (e : Ending) (h : P s) : P (s.closeChannel z e) := by
  by_cases ho : (s.zone z).isOpen = true
  · have hclosing : P (s.updZone z fun x => x.closing e) := k.updZone h fun _ => rfl
    have hat : P (s.atClosing e z) := by
      unfold State.atClosing State.markSettling
      split <;> exact k.tables hclosing rfl rfl
    rw [State.closeChannel_open s e ho]
    unfold State.takeClosing
    refine k.startDryClock ?_
    split
    · exact k.endOpenVisit hat
    · exact k.endFrostVisit hat
    · exact hat
    · exact hat
  · rw [State.closeChannel_shut s e (by simpa using ho)]
    exact h

theorem endings (k : VisitLaw P) : KeptByEndings P where
  tables := k.tables
  close := fun _ z e => k.closeChannel z e

/-! ### Selections -/

theorem enterWet (k : VisitLaw P) {s : State} {z : ZoneId} (h : P s) : P (s.enterWet z) := by
  have hwet : P (s.updZone z fun x =>
      { x with valve := .wet, fillTimer := none, timeInState := 0, overdue := false, dryClock := if s.armed then 0 else x.dryClock }) :=
    k.updZone h fun _ => rfl
  exact k.tables hwet rfl rfl

/-- An open command leaves the sheet but for what its shed walk ends (R38, R87). -/
theorem openChannel (k : VisitLaw P) {s : State} {z : ZoneId} {tag : UseTag} (h : P s) : P (s.openChannel z tag) := by
  refine State.openChannel_keeps (fun x _ _ _ => ?_) (fun _ _ => k.enterWet) h
  have hopening : P (s.updZone z fun y => y.opening x tag) := k.updZone h fun _ => rfl
  have henergised : P (s.energise z x tag) := k.tables hopening rfl rfl
  exact k.endings.openingReports henergised

theorem continueVisit (k : VisitLaw P) {s : State} {z : ZoneId} {x : Programme} (h : P s) : P (s.continueVisit z x) :=
  k.openChannel (k.begun s z x _ _ h)

/-- A new visit is set up for a zone that is not on the suspended list (R130). -/
theorem newVisit (k : VisitLaw P) {s : State} {z : ZoneId} {x : Programme} (hz : z ∉ s.planner.suspended) (h : P s) : P (s.newVisit z x) := by
  have hsame : (s.planner.suspended.filter fun i => decide (i ≠ z)) = s.planner.suspended :=
    List.filter_eq_self.mpr fun i hi => decide_eq_true (ne_of_mem_of_not_mem hi hz)
  exact k.openChannel (k.still (k.begun s z x (fun y => visitTarget y.effectiveQuota x.cycles y.quotaVolume) (fun _ => 0) h)
    (State.visitSheet_ext (fun _ => rfl) hsame.symm))

theorem frostVisit (k : VisitLaw P) {s : State} {z : ZoneId} {x : Programme} (h : P s) : P (s.frostVisit z x) :=
  k.openChannel (k.updZone h fun _ => rfl)

theorem suspendedStep (k : VisitLaw P) (z : ZoneId) (s : State) (h : P s) : P (s.suspendedStep z).state := by
  unfold State.suspendedStep
  split
  · split
    · exact k.endings.ifFits (fun _ => k.continueVisit) (fun _ => id) h
    · exact h
  · exact h

/-- The zone of a turn is SHUT and off the suspended list, and no supply event at a point of the turn changes that (R87, R128, R130). -/
theorem ringStep (k : VisitLaw P) (i : Nat) (s : State) (h : P s) : P (s.ringStep i).state := by
  unfold State.ringStep
  split
  · exact h
  · rename_i z _
    split
    · exact h
    · split
      · rename_i hturn
        obtain ⟨heligible, hoff⟩ := Bool.and_eq_true_iff.mp hturn
        obtain ⟨_, -, -, -, hshut, -⟩ := (s.eligible_iff z).mp heligible
        have hpointer : ∀ (t : State) (n : Nat) (passed : Bool), P t → P (t.movePointer n passed) := fun _ _ _ ht => k.tables ht rfl rfl
        exact (k.endings.and (keptByEndings_shutAndOff z)).ifFits (fun t ht => k.newVisit (s := t.movePointer _ _) ht.2.2 (hpointer t _ _ ht.1))
          (fun t ht => hpointer t _ _ ht.1) ⟨h, hshut, by simpa using hoff⟩
      · exact h

theorem quotaSelect (k : VisitLaw P) {s : State} (h : P s) : P s.quotaSelect := by
  have first := Progress.through_keeps State.suspendedStep k.suspendedStep s.planner.suspended s h
  unfold State.quotaSelect
  dsimp only
  split
  · exact first
  · exact Progress.through_keeps State.ringStep k.ringStep _ _ first

theorem frostSelect (k : VisitLaw P) {s : State} (h : P s) : P s.frostSelect :=
  Progress.through_keeps State.frostStep (fun _ _ ht => k.endings.ifFits (fun _ => k.frostVisit) (fun _ => id) ht) _ s h

theorem walkStep (k : VisitLaw P) (i : Nat) (s : State) (h : P s) : P (s.walkStep i).state := by
  have hset : ∀ (t : State) (e : EntryState), P t → P (t.setEntry i e) := fun _ _ ht => k.tables ht rfl rfl
  have hskip : ∀ (z : ZoneId) (v : Int), P (s.skipEntry i z v) := fun _ _ => k.endings.post (hset s .skipped h)
  unfold State.walkStep
  split
  · exact h
  · split
    · split
      · exact hskip _ _
      · split
        · exact hskip _ _
        · split
          · exact h
          · exact k.endings.ifFits (fun t ht => k.openChannel (hset t _ ht)) (fun _ => id) h
    · exact h

theorem walk (k : VisitLaw P) {s : State} (h : P s) : P s.walk := Progress.through_keeps State.walkStep k.walkStep _ s h

theorem selectTurns (k : VisitLaw P) (n : Nat) {s : State} (h : P s) : P (s.selectTurns n) := by
  induction n generalizing s with
  | zero => exact h
  | succ n ih =>
    unfold State.selectTurns
    split
    · split
      · exact h
      · exact k.quotaSelect h
      · exact k.frostSelect h
      · dsimp only
        split
        · exact ih (k.endings.pop (k.walk h))
        · exact k.walk h
    · exact h

/-- The report of a ceiling change, up to its selection (R84). -/
theorem report (k : VisitLaw P) {s : State} (h : P s) : P (State.retriage { s with ceilingReportOwed := false }) := k.retriage (k.tables h rfl rfl)

theorem select (k : VisitLaw P) {s : State} (h : P s) : P s.select := by
  have hreports : ∀ n t, P t → P (t.reportTurns n) := fun n => by
    induction n with
    | zero => exact fun _ ht => ht
    | succ n ih =>
      intro t ht
      unfold State.reportTurns
      split
      · exact ih _ (k.selectTurns _ (k.report ht))
      · exact ht
  exact hreports _ _ (k.selectTurns _ h)

theorem selectIf (k : VisitLaw P) {s : State} {due : Bool} (h : P s) : P (s.selectIf due) := by
  cases due
  · exact h
  · exact k.select h

theorem reportCeilings (k : VisitLaw P) {s : State} (h : P s) : P s.reportCeilings := by
  unfold State.reportCeilings
  split
  · exact k.select (k.report h)
  · exact h

/-! ### Edits, arrival at SHUT and lockouts -/

theorem recomputeQuotas (k : VisitLaw P) {s : State} (h : P s) : P s.recomputeQuotas := k.mapZones h fun _ _ => rfl

theorem applyNow (k : VisitLaw P) {s : State} {z : ZoneId} {e : PendingEdit} (h : P s) : P (s.applyNow z e) := by
  have hedited := k.edit s z e h
  refine k.judged (State.handOff_judged _ z _) ?_
  unfold State.handOffQuotas
  split
  · exact k.recomputeQuotas hedited
  · exact hedited

theorem applyPending (k : VisitLaw P) {s : State} {z : ZoneId} (h : P s) : P (s.applyPending z) := by
  unfold State.applyPending
  split
  · obtain ⟨hrest, -, -⟩ := State.landEdits_eq (s.applyNow z _) (s.zone z)
    rw [hrest]
    exact k.tables (k.applyNow h) rfl rfl
  · exact h

theorem setLockout (k : VisitLaw P) {s : State} {z : ZoneId} {l : Lockout} (h : P s) : P (s.setLockout z l) := by
  unfold State.setLockout
  dsimp only
  split
  · exact k.endings.post (k.updZone h fun _ => rfl)
  · exact h

theorem takeShut (k : VisitLaw P) {s : State} {z : ZoneId} {r : ShutReport} (h : P s) : P (s.takeShut z r) := by
  unfold State.takeShut
  split
  · exact k.updZone (k.endOpenVisit h) fun _ => rfl
  · exact k.endings.finishEntry h
  · split
    · exact k.endFrostVisit h
    · exact h
  · exact h

theorem shutReports (k : VisitLaw P) {s : State} {z : ZoneId} {r : ShutReport} (h : P s) : P (s.shutReports z r) := by
  have hlowered : P (s.lowerCommitted (s.zone z).opened) := by
    cases (s.zone z).opened
    · exact h
    · exact k.tables h rfl rfl
  have hsettled : P (if r.direct && r.wetEnded then (s.lowerCommitted (s.zone z).opened).markSettling (s.zone z).openedHeader
      else s.lowerCommitted (s.zone z).opened) := by
    split
    · exact k.endings.markSettling hlowered
    · exact hlowered
  have hshut := k.startDryClock (z := z) (wetEnded := r.direct && r.wetEnded) (k.takeShut (z := z) (r := r) (k.applyPending (z := z) hsettled))
  refine k.select ?_
  unfold State.triageAtShut
  split
  · exact k.retriage hshut
  · exact hshut

theorem driveFault (k : VisitLaw P) {s : State} {z : ZoneId} (h : P s) : P (s.driveFault z) := by
  have hshut : P (s.updZone z Zone.shut) := k.updZone h fun _ => rfl
  unfold State.driveFault
  dsimp only
  split
  · exact k.shutReports (k.setLockout (k.tables hshut rfl rfl))
  · exact h

theorem lockoutWhileShut (k : VisitLaw P) {s : State} {z : ZoneId} (h : P s) : P (s.lockoutWhileShut z) := by
  have hjudged : P (if (s.zone z).frostMember then s.retriage else s) := by
    split
    · exact k.retriage h
    · exact h
  unfold State.lockoutWhileShut
  extract_lets t
  split
  · exact hjudged
  · exact k.select hjudged

theorem requestLockout (k : VisitLaw P) {s : State} {z : ZoneId} {l : Lockout} (h : P s) : P (s.requestLockout z l) := by
  have hlocked : P (s.setLockout z l) := k.setLockout h
  unfold State.requestLockout
  dsimp only
  split
  · split
    · exact k.closeChannel z _ hlocked
    · exact k.closeChannel z _ hlocked
    · exact hlocked
    · exact k.lockoutWhileShut hlocked
  · exact h

theorem removeLockout (k : VisitLaw P) {s : State} {z : ZoneId} (h : P s) : P (s.removeLockout z) := by
  have hclear : P (s.updZone z fun x => { x with lockout := none }) := k.updZone h fun _ => rfl
  refine k.select ?_
  split
  · exact k.retriage hclear
  · exact hclear

/-! ### Meters -/

theorem apportion (k : VisitLaw P) {s : State} {i : HeaderId} (h : P s) : P (s.apportion i) := by
  have hcredit : ∀ (x : Zone) (a : Nat), (x.credit a).visitAccount = x.visitAccount := fun x a => by
    unfold Zone.credit
    split <;> rfl
  unfold State.apportion
  exact k.endings.updMeter (List.foldlRecOn _ _ h fun _ ht (e : ZoneId × Nat) _ => k.updZone ht fun x => hcredit x e.2)

theorem sendLockout (k : VisitLaw P) {s : State} {called : Option Direction} {only : Option ZoneId} {later : Bool} (h : P s) :
    P (s.sendLockout called only later) := by
  unfold State.sendLockout
  split
  · split
    · exact k.tables h rfl rfl
    · exact k.requestLockout h
  · exact h

/-- An expiry of an interval, in whatever order its reports are taken (R59; log entry 9). -/
theorem expireInterval (k : VisitLaw P) {s : State} {i : HeaderId} {order : ExpiryOrder} (h : P s) : P (s.expireInterval i order) := by
  have hcredit : ∀ f, P ((s.apportion i).updMeter i f) := fun _ => k.endings.updMeter (k.apportion h)
  have hnotice : ∀ {t : State} {called only flow}, P t → P (t.postFlow i called only flow) := k.endings.postFlow
  have hprogress : ∀ {t : State} {r}, P t → P (t.reportProgress r) := k.endings.reportProgress
  refine k.endings.beginInterval ?_
  cases order with
  | progressFirst => exact k.sendLockout (hnotice (hprogress (hcredit _)))
  | noticeFirst => exact k.sendLockout (hprogress (hnotice (hcredit _)))
  | lockoutFirst => exact hprogress (k.sendLockout (hnotice (hcredit _)))
  | lockoutLater => exact k.sendLockout (hnotice (hprogress (hcredit _)))
  | noticeFirstLockoutLater => exact k.sendLockout (hprogress (hnotice (hcredit _)))

theorem replaceMeter (k : VisitLaw P) {s : State} {i : HeaderId} {v : MeterSettings} (h : P s) : P (s.replaceMeter i v) :=
  k.endings.beginInterval (k.endings.updMeter (k.endings.reportProgress (k.apportion h)))

/-! ### The clock and the ring -/

/-- A roll drops the visits, clears the suspended list and renews the cycles (R141). -/
theorem takeRoll (k : VisitLaw P) {s : State} (h : P s) : P s.takeRoll := by
  have hrenewed : ∀ t, P t → P
      { t.mapZones (fun _ x => { x with cyclesRemaining := (x.programme.map (·.cycles)).getD 0 }) with
        planner := { t.planner with allotmentReached := false } } := fun t ht => k.tables (k.renew t ht) rfl rfl
  exact hrenewed _ (k.prune _ _ (k.endings.closeVisits h))

theorem rollPeriod (k : VisitLaw P) {s : State} {cause : Int} {port : Option Port} (h : P s) : P (s.rollPeriod cause port) :=
  k.takeRoll (k.endings.post (k.recomputeQuotas (k.mapZones h fun _ _ => rfl)))

theorem takePass (k : VisitLaw P) {s : State} (h : P s) : P s.takePass.1 := by
  unfold State.takePass
  split
  · split
    · exact k.tables h rfl rfl
    · exact k.rollPeriod (k.tables h rfl rfl)
  · exact k.tables h rfl rfl

theorem countSecond (k : VisitLaw P) {s : State} (h : P s) : P s.countSecond :=
  k.still h (State.visitSheet_ext (fun z => by rw [State.countSecond_zone]; rfl) rfl)

theorem advanceClock (k : VisitLaw P) {s : State} (h : P s) : P s.advanceClock := by
  have hadvanced : P { s with clock := s.clock.advance } := k.tables h rfl rfl
  unfold State.advanceClock State.minuteChange
  dsimp only
  split
  · refine k.selectIf ?_
    split
    · exact k.takePass (k.endings.windows hadvanced)
    · exact k.endings.windows hadvanced
  · exact hadvanced

theorem replacePeriod (k : VisitLaw P) {s : State} {p : Port} {v : PeriodSettings} (h : P s) : P (s.replacePeriod p v) := by
  have hset : P { s with clock := s.clock.withSettings v } := k.tables h rfl rfl
  unfold State.replacePeriod
  dsimp only
  split
  · exact hset
  · exact k.select (k.endings.testAllotment (k.recomputeQuotas hset))

theorem replaceRing (k : VisitLaw P) {s : State} {ring : List ZoneId} (h : P s) : P (s.replaceRing ring) :=
  k.select (k.recomputeQuotas (k.prune _ _ (k.tables h rfl rfl)))

/-! ### Frost -/

theorem armFrost (k : VisitLaw P) {s : State} {target : FrostState} {inhibit : Bool} {port : Option Port} {value : Int} (h : P s) :
    P (s.armFrost target inhibit port value) := by
  have hclear : ∀ t : State, P t → P (t.mapZones fun _ x => { x with dryClock := 0, overdue := false }) := fun _ ht => k.mapZones ht fun _ _ => rfl
  have hpushed := k.endings.pushFrost (k.endings.post (n := .frostArmed) (z := none) (i := none) (p := port) (v := some value)
    (k.tables (t := { s with climate := { s.climate with frost := target, thawTimer := 0, inhibit := inhibit } }) h rfl rfl))
  exact k.select (k.judged (State.triage_judged _) (k.tables (hclear _ hpushed) rfl rfl))

theorem disarmFrost (k : VisitLaw P) {s : State} {inhibit : Bool} {port : Option Port} {value : Int} (h : P s) :
    P (s.disarmFrost inhibit port value) := by
  have hclear : ∀ t : State, P t → P (t.mapZones fun _ x => { x with admitted := false, requiredFlow := none, overdue := false }) :=
    fun _ ht => k.mapZones ht fun _ _ => rfl
  have hposted := k.endings.post (n := .frostDisarmed) (z := none) (i := none) (p := port) (v := some value)
    (k.tables (t := { s with climate := { s.climate with frost := .disarmed, thawTimer := 0, inhibit := inhibit } }) h rfl rfl)
  exact k.select (k.endings.pop (k.tables (hclear _ hposted) rfl rfl))

theorem evaluateClimate (k : VisitLaw P) {s : State} {isReport : Bool} {port : Option Port} (h : P s) : P (s.evaluateClimate isReport port) := by
  have hjudge : ∀ t : State, P t → P (t.judgeFrost port) := fun t ht => by
    unfold State.judgeFrost
    dsimp only
    split
    · split
      · exact k.armFrost ht
      · exact ht
    · split
      · split
        · exact k.disarmFrost ht
        · exact ht
      · exact k.tables ht rfl rfl
    · exact ht
  have hjudged := hjudge { s with climate := Climate.judgeInhibit { s.climate with effective := lowest s.climate.freshTemperatures } isReport }
    (k.tables h rfl rfl)
  unfold State.evaluateClimate State.judgeStale
  split
  · exact k.endings.post hjudged
  · exact hjudged

theorem expireSlot (k : VisitLaw P) {s : State} {p : Port} (h : P s) : P (s.expireSlot p) := by
  unfold State.expireSlot
  split
  · split
    · exact k.evaluateClimate (k.tables h rfl rfl)
    · exact h
  · exact h

/-! ### Breaks and the RESET line -/

theorem reinitialise (k : VisitLaw P) {s : State} {p : Port} {x : Straps} (h : P s) : P (s.reinitialise p x) := by
  have hclimate : P (State.evaluateClimate
      ((s.updPort p fun q => q.reinitialised x (decide (s.hold planEntry = .held p))).setSlot p none) false none) :=
    k.evaluateClimate (k.tables h rfl rfl)
  exact k.tables hclimate rfl rfl

/-- At the release the pending edits are applied to the released part, and a pending roll is taken (R21, R54, R92). -/
theorem releaseReset (k : VisitLaw P) {s : State} (a b c : Straps) (h : P s) : P (s.releaseReset a b c) := by
  have hrestarted : P (s.restarted a b c) := by
    have hblocks := k.released s a b c h
    unfold State.restarted State.applyAllPending
    split
    · exact hblocks
    · refine k.recomputeQuotas (State.forZones_keeps _ (fun z t ht => ?_) _ _ hblocks)
      unfold State.applyAtRelease
      split
      · exact k.edit t z _ ht
      · exact ht
  rw [State.releaseReset_eq]
  split
  · exact k.rollPeriod (k.tables hrestarted rfl rfl)
  · exact hrestarted

end VisitLaw
end Sys2Proof.Machine
end

section
/-! The rule of the visit sheet through the effect of every directive, and through every step. -/

namespace Sys2Proof.Machine
namespace VisitLaw
variable {P : State → Prop}

/-! ### The effects of directives -/

theorem carryOutEdit (k : VisitLaw P) {s : State} {z : ZoneId} {e : PendingEdit} {clamped : Bool} (h : P s) : P (s.carryOutEdit z e clamped).1 := by
  have hpending : P (s.updZone z fun x => { x with pendingEdit := some e }) := k.updZone h fun _ => rfl
  unfold State.carryOutEdit
  split
  · exact k.select (k.applyNow h)
  · exact hpending

theorem runClearZone (k : VisitLaw P) {s : State} {p : Port} {zone : Nat} (h : P s) : P (s.runClearZone p zone).1 := by
  refine KeptInEvents.withIndex P h fun _ => ?_
  split
  · exact h
  · exact State.requireGroups_keeps h (k.carryOutEdit h)

theorem runSetRing (k : VisitLaw P) {s : State} {p : Port} {zones : List Nat} (h : P s) : P (s.runSetRing p zones).1 := by
  unfold State.runSetRing
  split
  · exact h
  · split
    · exact h
    · rw [State.requirePlan_eq]
      split
      · exact k.replaceRing h
      · exact h

theorem runStartQuota (k : VisitLaw P) {s : State} {p : Port} (h : P s) : P (s.runStartQuota p).1 := by
  have hinserted : P s.insertQuotaFrame := k.tables h rfl rfl
  unfold State.runStartQuota
  split
  · exact h
  · exact k.select (k.endings.enterRegime h)
  · split
    · exact h
    · exact hinserted
  · split
    · exact h
    · exact hinserted

theorem runStopQuota (k : VisitLaw P) {s : State} {p : Port} (h : P s) : P (s.runStopQuota p).1 := by
  have hcleared : ∀ t : State, P t → P t.clearSuspended := fun t ht => k.prune t _ ht
  have hremoved : P s.removeQuotaFrame := k.tables h rfl rfl
  unfold State.runStopQuota
  split
  · dsimp only
    exact k.select (k.endings.pop (hcleared _ (k.endings.closeTagged h)))
  · split
    · exact hcleared _ hremoved
    · exact h

theorem runRunManual (k : VisitLaw P) {s : State} {p : Port} {entries : List (Nat × Nat)} (h : P s) : P (s.runRunManual p entries).1 := by
  have hstart : ∀ es, P (s.startManual p es) := fun es => by
    refine k.select (k.endings.enterRegime ?_)
    split
    · exact k.endings.closeTagged h
    · exact h
  have htake : ∀ zones times clamped, P (s.takeRunManual p zones times clamped).1 := fun zones times clamped => by
    unfold State.takeRunManual
    split
    · exact h
    · split
      · exact hstart _
      · exact hstart _
      · exact h
      · exact h
  unfold State.runRunManual
  split
  · exact h
  · split
    · exact h
    · exact Checked.orRange_keeps _ h fun times clamped => htake _ times clamped

theorem runCancelManual (k : VisitLaw P) {s : State} {p : Port} (h : P s) : P (s.runCancelManual p).1 := by
  have hdiscarded : ∀ t : State, P t → P t.discardManual := fun _ ht => k.tables ht rfl rfl
  have hremoved : P s.removeManualFrame := k.tables h rfl rfl
  unfold State.runCancelManual
  split
  · dsimp only
    exact k.select (k.endings.pop (hdiscarded _ (k.endings.closeTagged h)))
  · split
    · exact hremoved
    · exact h

theorem runPause (k : VisitLaw P) {s : State} (h : P s) : P s.runPause.1 := by
  unfold State.runPause
  split
  · exact h
  · split
    · exact k.tables h rfl rfl
    · exact h

theorem runResume (k : VisitLaw P) {s : State} (h : P s) : P s.runResume.1 := by
  unfold State.runResume
  split
  · exact h
  · split
    · exact h
    · exact k.select (k.tables h rfl rfl)

theorem runShutdown (k : VisitLaw P) {s : State} {p : Port} (h : P s) : P (s.runShutdown p).1 := by
  unfold State.runShutdown
  split
  · exact h
  · dsimp only
    exact k.endings.stopEngine h

theorem runArmFrost (k : VisitLaw P) {s : State} {p : Port} (h : P s) : P (s.runArmFrost p).1 := by
  unfold State.runArmFrost
  split
  · exact k.armFrost h
  · exact k.endings.post (k.tables h rfl rfl)
  · exact h

theorem runDisarmFrost (k : VisitLaw P) {s : State} {p : Port} (h : P s) : P (s.runDisarmFrost p).1 := by
  unfold State.runDisarmFrost
  split
  · exact k.disarmFrost h
  · split
    · exact h
    · exact k.tables h rfl rfl

theorem runCloseZone (k : VisitLaw P) {s : State} {z : ZoneId} (h : P s) : P (s.runCloseZone z).1 := by
  unfold State.runCloseZone
  split
  · exact k.closeChannel z _ h
  · exact h

theorem runClearLockout (k : VisitLaw P) {s : State} {z : ZoneId} (h : P s) : P (s.runClearLockout z).1 := by
  unfold State.runClearLockout
  split
  · exact h
  · split
    · exact h
    · exact k.removeLockout h

theorem runNewPeriod (k : VisitLaw P) {s : State} {p : Port} (h : P s) : P (s.runNewPeriod p).1 := by
  unfold State.runNewPeriod
  dsimp only
  exact k.select (k.rollPeriod (k.tables h rfl rfl))

/-- What the sheet's operations keep, the effect of every directive keeps (R172). -/
theorem run (k : VisitLaw P) (p : Port) (d : Directive) {s : State} (h : P s) : P (d.run p s).1 := by
  have hport : ∀ (f : PortState → PortState) (a : Answer), P (s.updPort p f, a).1 := fun _ _ => k.tables h rfl rfl
  cases d with
  | readZone z => exact KeptInEvents.withIndex P h fun _ => h
  | readGroup g => exact KeptInEvents.withIndex P h fun _ => h
  | readRing => exact h
  | readHeader i => exact KeptInEvents.withIndex P h fun _ => h
  | readEngine => exact h
  | readClimate => exact h
  | readClock => exact h
  | readHolds => exact h
  | readPort => exact hport _ _
  | selectZones f t => exact KeptInEvents.runSelectZones P h
  | fetchNotice =>
    change P (s.runFetchNotice p).1
    unfold State.runFetchNotice
    split
    · exact hport _ _
    · exact h
  | takeHold e => exact KeptInEvents.withIndex P h fun _ => k.endings.runTakeHold h
  | releaseHold e => exact KeptInEvents.withIndex P h fun _ => k.endings.runReleaseHold h
  | editZone z f =>
    exact KeptInEvents.withIndex P h fun _ => Checked.orRange_keeps _ h fun _ _ => State.requireGroups_keeps h (k.carryOutEdit h)
  | clearZone z => exact k.runClearZone h
  | setWindow g a b =>
    exact KeptInEvents.withIndex P h fun _ => Checked.orRange_keeps _ h fun _ _ =>
      State.requireGroups_keeps h (k.selectIf (k.endings.windows (k.tables h rfl rfl)))
  | setRing zs => exact k.runSetRing h
  | setPeriod l m a => exact Checked.orRange_keeps _ h fun _ _ => KeptInEvents.requirePlanOverBreak P h (k.replacePeriod h)
  | setMeter i f =>
    exact KeptInEvents.withIndex P h fun _ => Checked.orRange_keeps _ h fun _ _ => KeptInEvents.requirePlanOverBreak P h (k.replaceMeter h)
  | declareSupply f v => exact k.endings.runDeclare h
  | setFallback f => exact k.endings.runSetFallback h
  | reportTemperature t => exact Checked.orRange_keeps _ h fun _ _ => k.evaluateClimate (k.tables h rfl rfl)
  | armFrost => exact k.runArmFrost h
  | disarmFrost => exact k.runDisarmFrost h
  | setFrostLimits a d i t => exact Checked.orRange_keeps _ h fun _ _ => k.evaluateClimate (k.tables h rfl rfl)
  | startQuota => exact k.runStartQuota h
  | stopQuota => exact k.runStopQuota h
  | runManual es => exact k.runRunManual h
  | cancelManual => exact k.runCancelManual h
  | pause => exact k.runPause h
  | resume => exact k.runResume h
  | shutdown => exact k.runShutdown h
  | closeZone z => exact KeptInEvents.withIndex P h fun _ => k.runCloseZone h
  | clearLockout z => exact KeptInEvents.withIndex P h fun _ => k.runClearLockout h
  | breakHold e => exact KeptInEvents.withIndex P h fun _ => k.endings.runBreakHold h
  | setClock d t => exact Checked.orRange_keeps _ h fun _ _ => k.selectIf (k.endings.windows (k.tables h rfl rfl))
  | newPeriod => exact k.runNewPeriod h
  | setOptions m f t r n => exact Checked.orRange_keeps _ h fun _ _ => hport _ _
  | narrowRights a b c d => exact hport _ _

/-! ### Every step -/

theorem execDirective (k : VisitLaw P) {c : Instr} {p : Port} {d : Directive} (hc : c.directive = some (p, d)) {s t : State} (h : P s)
    (he : exec c s = .next t) : P t := by
  have hcompleted : P (s.complete p d (d.run p)) := k.endings.complete h (k.run p d h)
  cases hd : d.isSupply with
  | false =>
    rw [exec_directive hc hd] at he
    exact ChannelLaw.of_next he hcompleted
  | true =>
    rcases exec_supplyDirective hc hd s with hx | ⟨ev, n, -, hx⟩
    · rw [hx] at he
      exact ChannelLaw.of_next he (k.reportCeilings hcompleted)
    · rw [hx] at he
      exact ChannelLaw.of_next he (k.endings.sendInto h)

theorem execEvent (k : VisitLaw P) {c : Instr} (hc : c.directive = none) {s t : State} (h : P s) (he : exec c s = .next t) : P t := by
  cases c with
  | powerOn a b c => exact ChannelLaw.of_next he (k.powerOn _ _ _ _ _)
  | resetAsserted =>
    have hsilenced : P (s.mapZones fun _ x => x.silenced) := k.mapZones h fun _ _ => rfl
    refine ChannelLaw.of_next he ?_
    split
    · exact h
    · exact k.tables (t := s.assertReset) hsilenced rfl rfl
  | resetReleased a b c =>
    refine ChannelLaw.of_next he ?_
    split
    · exact k.releaseReset a b c h
    · exact h
  | stopAsserted =>
    have hlow : P { s with stopLow := true } := k.tables h rfl rfl
    refine ChannelLaw.of_next he ?_
    split
    · exact h
    · exact State.live_keeps hlow (k.endings.takeStop hlow)
  | stopReleased => exact ChannelLaw.of_next he (k.tables h rfl rfl)
  | rawPulse i => exact ChannelLaw.of_next he (State.live_keeps h (k.endings.rawPulse h))
  | driveSenseFall z =>
    refine ChannelLaw.of_next he (State.live_keeps h ?_)
    split
    · exact k.driveFault h
    · exact h
  | senseTimerExpiry z high =>
    have hsampled : P (s.updZone z fun x => { x with sensePhase := .watching, senseTimer := none }) := k.updZone h fun _ => rfl
    refine ChannelLaw.of_next he (State.live_keeps h ?_)
    split
    · cases high
      · exact k.driveFault hsampled
      · exact hsampled
    · exact h
  | fillTimerExpiry z =>
    refine ChannelLaw.of_next he (State.live_keeps h ?_)
    split
    · exact k.enterWet h
    · exact h
  | closeTimerExpiry z =>
    have hshut : P (s.updZone z Zone.shut) := k.updZone h fun _ => rfl
    refine ChannelLaw.of_next he (State.live_keeps h ?_)
    split
    · exact k.shutReports hshut
    · exact h
  | intervalTimerExpiry i order =>
    refine ChannelLaw.of_next he (State.live_keeps h ?_)
    split
    · exact k.expireInterval h
    · exact h
  | validityTimerExpiry taking =>
    refine ChannelLaw.of_next he (State.live_keeps h ?_)
    cases taking with
    | atOnce => exact k.reportCeilings (k.endings.lapse h)
    | inSelection n => exact k.endings.sendInto h
  | secondAdvance => exact ChannelLaw.of_next he (k.advanceClock (State.live_keeps h (k.countSecond h)))
  | slotExpiry p => exact ChannelLaw.of_next he (State.live_keeps h (k.expireSlot h))
  | thawHoldExpiry =>
    refine ChannelLaw.of_next he (State.live_keeps h ?_)
    split
    · exact k.disarmFrost h
    · exact h
  | guardTimerExpiry z =>
    refine ChannelLaw.of_next he (State.live_keeps h ?_)
    split
    · exact k.endings.post (k.closeChannel z .guardExpired h)
    · exact h
  | soakReached z =>
    refine ChannelLaw.of_next he (State.live_keeps h ?_)
    split
    · exact k.select h
    · exact h
  | dwellEnd z =>
    refine ChannelLaw.of_next he (State.live_keeps h ?_)
    split
    · exact k.closeChannel z _ h
    · exact h
  | runTimeSpent z =>
    refine ChannelLaw.of_next he (State.live_keeps h ?_)
    split
    · exact k.closeChannel z _ h
    · exact h
  | overdue z =>
    refine ChannelLaw.of_next he (State.live_keeps h ?_)
    split
    · exact k.judged (s.markOverdue_judged z) h
    · exact h
  | frameComplete p frame =>
    refine ChannelLaw.of_next he ?_
    split
    · exact List.foldlRecOn _ _ h fun t ht b _ => k.endings.portsOnly (t.takeByte_portsOnly p b) ht
    · exact h
  | silence p => exact ChannelLaw.of_next he (State.live_keeps h (k.endings.portsOnly (s.takeSilence_portsOnly p) h))
  | lineBreak p straps =>
    have hlow : P (s.updPort p fun q => { q with lineLow := true }) := k.tables h rfl rfl
    refine ChannelLaw.of_next he ?_
    split
    · exact h
    · exact State.live_keeps hlow (k.reinitialise hlow)
  | takeUp => exact ChannelLaw.of_next he (State.live_keeps h (k.endings.takeUp h))
  | replySent p => exact ChannelLaw.of_next he (State.live_keeps h (k.tables h rfl rfl))
  | withdraw p =>
    refine ChannelLaw.of_next he ?_
    split
    · exact k.endings.portsOnly (s.takeWithdraw_portsOnly p) h
    · exact h
  | characterReceived p data parity stop =>
    refine ChannelLaw.of_next he ?_
    split
    · split
      · exact k.endings.portsOnly (s.takeByte_portsOnly p data) h
      · exact k.endings.portsOnly (s.takeBadCharacter_portsOnly p) h
    · exact h
  | receiveLineReturnsHigh p => exact ChannelLaw.of_next he (k.tables h rfl rfl)
  | _ => cases hc

/-- What every event keeps, a step keeps: a lockout request on its way, or a command on the queue's rest. -/
theorem step (k : VisitLaw P) {s t : State} (h : P s) (he : step s = .next t) : P t := by
  cases hp : s.pending with
  | nil =>
    rw [step_nil hp] at he
    refine ChannelLaw.of_next he ?_
    rcases s.takeLockoutRequest_cases with hkeep | ⟨r, rest, -, -, htaken⟩
    · rw [hkeep]
      exact h
    · rw [htaken]
      exact k.requestLockout (k.tables h rfl rfl)
  | cons c rest =>
    rw [step_cons hp] at he
    have hrest : P { s with pending := rest } := k.tables h rfl rfl
    cases hc : c.directive with
    | none => exact k.execEvent hc hrest he
    | some pd => exact k.execDirective hc hrest he

end VisitLaw
end Sys2Proof.Machine
end

section
/-! R127 and R139 through every step. -/

namespace Sys2Proof.Machine

/-! ### The records that the rule's operations leave -/

section
variable (s : State) (z : ZoneId)

theorem State.beginVisit_zone (x : Programme) (target volume : Zone → Nat) (y : ZoneId) :
    (s.beginVisit z x target volume).zone y = if y = z then (s.zone z).startVisit x (target (s.zone z)) (volume (s.zone z)) else s.zone y :=
  s.zone_updZone z y fun v => v.startVisit x (target v) (volume v)

theorem State.pruneSuspended_zone (sel : ZoneId → Bool) :
    (s.pruneSuspended sel).zone z = if z ∈ s.planner.suspended ∧ sel z = true then (s.zone z).noVisit else s.zone z := by
  have hz : (s.pruneSuspended sel).zone z = if decide (z ∈ s.planner.suspended) && sel z then (s.zone z).noVisit else s.zone z :=
    s.zone_mapZones (fun z x => if decide (z ∈ s.planner.suspended) && sel z then x.noVisit else x) z
  simpa using hz

end

/-! ### Cycles remaining -/

/-- R139 at a zone. -/
def Zone.cyclesFit (x : Zone) : Prop := x.cyclesRemaining ≤ x.programmedCycles

theorem Zone.applied_cyclesFit (x : Zone) (e : PendingEdit) : (x.applied e).cyclesFit := by
  cases e with
  | clear => exact Nat.le_refl 0
  | edit p =>
    change (if x.programme.isSome then min x.cyclesRemaining p.cycles else p.cycles) ≤ p.cycles
    split
    · exact Nat.min_le_right _ _
    · exact Nat.le_refl _

theorem visitLaw_cyclesWithin : VisitLaw State.cyclesWithin where
  still := fun {s t} h hs z => by
    obtain ⟨hz, -⟩ := State.visitSheet_reads hs
    obtain ⟨-, hcycles, hprogrammed⟩ := hz z
    rw [hcycles, hprogrammed]
    exact h z
  ended := fun s z o _ h y => by
    by_cases hy : y = z
    · have hz : (s.zone y).cyclesRemaining ≤ (s.zone y).programmedCycles := h y
      subst hy
      rw [State.endVisit_zone_same]
      cases o with
      | complete => exact (Nat.sub_le _ 1).trans hz
      | dropped => exact hz
      | suspended =>
        dsimp only
        split <;> exact hz
    · rw [State.endVisit_zone_other s o hy]
      exact h y
  begun := fun s z x target volume h y => by
    rw [State.beginVisit_zone]
    split
    · exact h z
    · exact h y
  edit := fun s z e h y => by
    rw [State.applyEdit_zone]
    split
    · split <;> exact (s.zone z).applied_cyclesFit e
    · exact h y
  prune := fun s sel h y => by
    rw [State.pruneSuspended_zone]
    split <;> exact h y
  renew := fun s _ y => by
    rw [State.zone_mapZones]
    exact Nat.le_refl _
  released := fun s a b c h y => by
    rw [State.releaseBlocks_zone]
    exact h y
  powerOn := fun a b c stopLow pending y => by
    rw [State.powerOn_zone]
    exact Nat.le_refl 0

/-! ### The suspended list -/

/-- R127 reads the visit statuses and the list alone. -/
theorem State.suspendedMatch_of_sheet {s t : State} (h : s.suspendedMatch) (hv : ∀ z, (t.zone z).visit = (s.zone z).visit)
    (hl : t.planner.suspended = s.planner.suspended) : t.suspendedMatch := by
  unfold State.suspendedMatch at h ⊢
  simp only [hv, hl]
  exact h

/-- A zone whose visit is not SUSPENDED any more leaves the list (R10, R17, R129). -/
theorem State.suspendedMatch_of_removed {s t : State} (h : s.suspendedMatch) (q : ZoneId → Bool)
    (hl : t.planner.suspended = s.planner.suspended.filter fun z => !q z)
    (hout : ∀ z, q z = true → (t.zone z).visit ≠ .suspended)
    (hin : ∀ z, q z = false → ((t.zone z).visit = .suspended ↔ (s.zone z).visit = .suspended)) : t.suspendedMatch := by
  obtain ⟨hnodup, hmem⟩ := h
  refine ⟨hl ▸ hnodup.filter _, fun z => ?_⟩
  rw [hl, List.mem_filter, hmem]
  cases hq : q z with
  | true => simp [hout z hq]
  | false => simp [hin z hq]

/-- The status of a zone whose visit has ended (R133, R135). -/
theorem State.endVisit_visit (s : State) (z : ZoneId) (o : VisitOutcome) :
    ((s.endVisit z o).zone z).visit = if o = .suspended ∧ z ∈ s.ring then .suspended else .noVisit := by
  rw [State.endVisit_zone_same]
  cases o with
  | complete => rfl
  | dropped => rfl
  | suspended =>
    by_cases hring : z ∈ s.ring
    · simp [hring]
    · simp [hring, Zone.noVisit]

/-- A zone with an OPEN visit is not on the list, and joins it once (R127, R133). -/
theorem State.endVisit_suspendedMatch {s : State} {z : ZoneId} (o : VisitOutcome) (hv : (s.zone z).visit = .openVisit) (h : s.suspendedMatch) :
    (s.endVisit z o).suspendedMatch := by
  have hoff : z ∉ s.planner.suspended := fun hz => by
    have hsuspended := (h.2 z).mp hz
    rw [hv] at hsuspended
    cases hsuspended
  have hother : ∀ y, y ≠ z → (((s.endVisit z o).zone y).visit = .suspended ↔ y ∈ s.planner.suspended) := fun y hy => by
    rw [State.endVisit_zone_other s o hy, h.2 y]
  have hlist : (s.endVisit z o).planner.suspended = s.suspendedBy z o := by rw [State.endVisit_eq]
  have hvisit := s.endVisit_visit z o
  unfold State.suspendedMatch
  rw [hlist]
  unfold State.suspendedBy
  by_cases hj : o = .suspended ∧ z ∈ s.ring
  · rw [if_pos hj] at hvisit ⊢
    refine ⟨List.concat_eq_append ▸ h.1.concat hoff, fun y => ?_⟩
    by_cases hy : y = z
    · simp [hy, hvisit]
    · simp [hy, hother y hy]
  · rw [if_neg hj] at hvisit ⊢
    refine ⟨h.1, fun y => ?_⟩
    by_cases hy : y = z
    · simp [hy, hvisit, hoff]
    · exact (hother y hy).symm

theorem visitLaw_suspendedMatch : VisitLaw State.suspendedMatch where
  still := fun h hs => by
    obtain ⟨hz, hl⟩ := State.visitSheet_reads hs
    exact State.suspendedMatch_of_sheet h (fun z => (hz z).1) hl
  ended := fun _ _ o hv h => State.endVisit_suspendedMatch o hv h
  begun := fun s z x target volume h => by
    refine State.suspendedMatch_of_removed h (fun y => decide (y = z)) ?_ (fun y hy => ?_) fun y hy => ?_
    · simp [State.beginVisit]
    · rw [State.beginVisit_zone, if_pos (by simpa using hy)]
      exact fun k => by cases k
    · rw [State.beginVisit_zone, if_neg (by simpa using hy)]
  edit := fun s z e h => by
    refine State.suspendedMatch_of_removed h (fun y => decide (y = z)) ?_ (fun y hy => ?_) fun y hy => ?_
    · rw [State.applyEdit_eq]
      simp
    · have hvisit : ((s.zone z).applied e).visit = (s.zone z).visit := by cases e <;> rfl
      rw [State.applyEdit_zone, if_pos (by simpa using hy)]
      split
      · exact fun k => by cases k
      · rename_i hoff
        rw [hvisit, Ne, ← h.2 z]
        exact hoff
    · rw [State.applyEdit_zone, if_neg (by simpa using hy)]
  prune := fun s sel h => by
    refine State.suspendedMatch_of_removed h sel rfl (fun y hy => ?_) fun y hy => ?_
    · rw [State.pruneSuspended_zone]
      split
      · exact fun k => by cases k
      · rename_i hoff
        rw [Ne, ← h.2 y]
        exact fun hin => hoff ⟨hin, hy⟩
    · rw [State.pruneSuspended_zone, if_neg (by simp [hy])]
  renew := fun s h => State.suspendedMatch_of_sheet h (fun z => by rw [State.zone_mapZones]) rfl
  released := fun s a b c _ => by
    refine ⟨List.nodup_nil, fun z => ?_⟩
    rw [State.releaseBlocks_zone]
    exact ⟨fun k => absurd k List.not_mem_nil, fun k => by cases k⟩
  powerOn := fun a b c stopLow pending => by
    refine ⟨List.nodup_nil, fun z => ?_⟩
    rw [State.powerOn_zone]
    exact ⟨fun k => absurd k List.not_mem_nil, fun k => by cases k⟩

end Sys2Proof.Machine

open Sys2Proof Sys2Proof.Machine

/-- Settles O9: both laws read the visit sheet alone, and each of the operations that change it keeps them (`VisitLaw.step`). -/
theorem everyStepKeepsCyclesWithinAndSuspendedListMatching : Obligations.EveryStepKeepsCyclesWithinAndSuspendedListMatching :=
  ⟨fun _ _ => visitLaw_cyclesWithin.step, fun _ _ => visitLaw_suspendedMatch.step⟩

end

section
/-! Visit progress and the allotment test (R133, R134, R139, R140): the walk of the progress report and of the allotment, as close commands along a list. -/

namespace Sys2Proof.Machine

/-! ### The record of a visit that ends without being suspended -/

section
variable {s : State} {z : ZoneId}

/-- The zone of an open channel, closed with cause `e`, whose visit has ended and is not suspended; its cycles as they were (R40, R133, R159; log entry 21). -/
def State.visitEnded (s : State) (e : Ending) (x : Zone) : Zone :=
  { x with
    valve := .closing, energised := false, fillTimer := none, senseTimer := none, timeInState := 0, endedBy := some e
    closeTimer := some (match x.programme with | some v => v.closing | none => 0)
    visit := .noVisit, visitTarget := none, visitVolume := 0, guardTimer := none
    dryClock := if x.valve = .wet ∧ s.climate.frost ≠ .disarmed then 0 else x.dryClock }

/-- A visit that reaches its target spends a cycle (R133, R139). -/
theorem State.closedZone_targetReached (ht : (s.zone z).useTag = some .quota) (hv : (s.zone z).visit = .openVisit) :
    s.closedZone z .targetReached =
      { s.visitEnded .targetReached (s.zone z) with cyclesRemaining := (s.zone z).cyclesRemaining - 1 } := by
  unfold State.closedZone State.visitEnded
  simp [ht, hv] <;> rfl

/-- A visit that the allotment ends is dropped, its cycles kept (R133, R140). -/
theorem State.closedZone_allotmentReached (ht : (s.zone z).useTag = some .quota) (hv : (s.zone z).visit = .openVisit) :
    s.closedZone z .allotmentReached = s.visitEnded .allotmentReached (s.zone z) := by
  unfold State.closedZone State.visitEnded
  simp [ht, hv] <;> rfl

/-- Only four causes suspend a visit (R133). -/
theorem State.joinsSuspended_of_ended {e : Ending} (he : e ∉ [Ending.windowClosed, .shed, .stop, .preemption]) : s.joinsSuspended z e = false :=
  decide_eq_false fun h => he h.2.2.2

/-! ### Visit progress -/

theorem Zone.targetReached_iff (x : Zone) :
    x.targetReached = true ↔ x.visit = .openVisit ∧ ∃ t, x.visitTarget = some t ∧ t ≤ x.visitVolume := by
  unfold Zone.targetReached
  cases x.visitTarget <;> simp

/-- The state after the completions of a progress report, before the allotment test (R134). -/
def State.visitsCompleted (s : State) (zs : List ZoneId) : State := s.closeWhere zs Zone.targetReached .targetReached

theorem State.takeProgress_eq (s : State) (zs : List ZoneId) : s.takeProgress zs = (s.visitsCompleted zs).testAllotment none := rfl

/-- The completions touch zone records, the two orders and the meters alone: no visit joins the suspended list (R134). -/
theorem State.visitsCompleted_along {zs : List ZoneId} (hn : zs.Nodup) (s : State) :
    ClosedAlong s zs (fun z => (s.zone z).targetReached && (s.zone z).isOpen) .targetReached (s.visitsCompleted zs) :=
  s.closeWhere_along Zone.targetReached .targetReached hn

/-- What a walk of close commands leaves where its cause suspends no visit. -/
theorem ClosedAlong.rest_of_ended {u : State} {zs : List ZoneId} {c : ZoneId → Bool} {e : Ending} (h : ClosedAlong s zs c e u)
    (he : e ∉ [Ending.windowClosed, .shed, .stop, .preemption]) :
    u = { s with zones := u.zones, energising := u.energising, wetOrder := u.wetOrder, meters := u.meters } := by
  have hnone : (zs.filter fun z => c z && s.joinsSuspended z e) = [] :=
    List.filter_eq_nil_iff.mpr fun z _ => by rw [State.joinsSuspended_of_ended he, Bool.and_false]; exact Bool.false_ne_true
  have hrest := h.rest
  rw [hnone, List.append_nil] at hrest
  rw [hrest]

/-- A zone stays in its order unless the walk closes it (R37). -/
theorem ClosedAlong.mem_orders {u : State} {zs : List ZoneId} {c : ZoneId → Bool} {e : Ending} (h : ClosedAlong s zs c e u) :
    (z ∈ u.energising ↔ z ∈ s.energising ∧ ¬(z ∈ zs ∧ c z = true)) ∧ (z ∈ u.wetOrder ↔ z ∈ s.wetOrder ∧ ¬(z ∈ zs ∧ c z = true)) := by
  have hstays : (!(decide (z ∈ zs) && c z)) = true ↔ ¬(z ∈ zs ∧ c z = true) := by
    rw [Bool.not_eq_true', ← Bool.not_eq_true, Bool.and_eq_true, decide_eq_true_iff]
  rw [h.rest]
  exact ⟨List.mem_filter.trans (and_congr_right fun _ => hstays), List.mem_filter.trans (and_congr_right fun _ => hstays)⟩

/-! ### The allotment test -/

theorem State.allotmentDue_iff (s : State) : s.allotmentDue = true ↔ ∃ a, s.clock.allotment = some a ∧ a * 100 ≤ s.quotaVolumeSum := by
  unfold State.allotmentDue
  cases s.clock.allotment <;> simp

theorem State.testAllotment_standing (port : Option Port) (hd : s.allotmentDue = true) (hm : s.planner.allotmentReached = true) :
    s.testAllotment port = s := by
  unfold State.testAllotment
  rw [if_pos hd, if_pos hm]

theorem State.testAllotment_notDue (port : Option Port) (hd : s.allotmentDue = false) :
    s.testAllotment port = { s with planner := { s.planner with allotmentReached := false } } := by
  unfold State.testAllotment
  rw [hd]
  rfl

theorem State.testAllotment_reached (port : Option Port) (hd : s.allotmentDue = true) (hm : s.planner.allotmentReached = false) :
    s.testAllotment port = s.reachAllotment port := by
  unfold State.testAllotment
  rw [if_pos hd, hm]
  rfl

/-- The part with the mark set and its notice posted, before the visits are dropped (R140). -/
def State.allotmentMarked (s : State) (port : Option Port) : State :=
  State.post { s with planner := { s.planner with allotmentReached := true } } .allotmentReached none none port
    (some ((s.quotaVolumeSum / 100 : Nat) : Int))

theorem State.allotmentMarked_eq (s : State) (port : Option Port) :
    s.allotmentMarked port =
      { s with
        planner := { s.planner with allotmentReached := true }
        ports := (s.post .allotmentReached none none port (some ((s.quotaVolumeSum / 100 : Nat) : Int))).ports } := by
  unfold State.allotmentMarked State.post
  split <;> rfl

/-- The visits that the allotment drops (R140). -/
theorem State.reachAllotment_along (s : State) (port : Option Port) :
    ClosedAlong (s.allotmentMarked port) zoneIds
      (fun z => (decide (((s.allotmentMarked port).zone z).visit = .openVisit) && true) && ((s.allotmentMarked port).zone z).isOpen) .allotmentReached
      (s.reachAllotment port) :=
  (s.allotmentMarked port).closeWhere_along (fun x => decide (x.visit = .openVisit) && true) .allotmentReached (List.nodup_finRange 32)

/-- The test at an allotment newly reached sets the mark, posts its notice and closes channels (R140). -/
theorem State.reachAllotment_rest {u : State} (port : Option Port) (hu : u = s.reachAllotment port) :
    u = { s with
      zones := u.zones, energising := u.energising, wetOrder := u.wetOrder, meters := u.meters
      planner := { s.planner with allotmentReached := true }
      ports := (s.post .allotmentReached none none port (some ((s.quotaVolumeSum / 100 : Nat) : Int))).ports } := by
  have h := s.reachAllotment_along port
  rw [← hu] at h
  have hrest := h.rest_of_ended (by decide)
  rw [s.allotmentMarked_eq port] at hrest
  exact hrest

/-- The zones closed are those open with an OPEN visit (R140). -/
theorem State.reachAllotment_zone (port : Option Port) :
    (s.reachAllotment port).zone z =
      if (s.zone z).visit = .openVisit ∧ (s.zone z).isOpen = true then s.closedZone z .allotmentReached else s.zone z := by
  have hmarked := s.allotmentMarked_eq port
  have hsame : (s.allotmentMarked port).zone z = s.zone z := by rw [hmarked]; rfl
  rw [(s.reachAllotment_along port).zone, State.closedZone_congr hsame (by rw [hmarked]) (by rw [hmarked]), hsame]
  exact if_congr (by simp [zoneIds]) rfl rfl

end

end Sys2Proof.Machine

open Sys2Proof Sys2Proof.Machine

/-- Settles O45: the completions and the dropped visits are walks of close commands (`ClosedAlong`), the test is by the mark and what is due. -/
theorem visitsCompleteAndTheAllotmentIsTested : Obligations.VisitsCompleteAndTheAllotmentIsTested := by
  rintro s _ rfl
  refine ⟨fun zs hn => ?_, ?_⟩
  · have h := State.visitsCompleted_along hn s
    refine ⟨s.visitsCompleted zs, s.takeProgress_eq zs, h.rest_of_ended (by decide), fun z => ?_⟩
    intro due
    obtain ⟨henergising, hwet⟩ := h.mem_orders (z := z)
    have hpick : (z ∈ zs ∧ ((s.zone z).targetReached && (s.zone z).isOpen) = true) ↔ due ∧ (s.zone z).isOpen = true := by
      rw [Bool.and_eq_true, Zone.targetReached_iff]
      simp only [due, and_assoc]
    rw [hpick] at henergising hwet
    have hzone := h.zone z
    rw [if_congr hpick rfl rfl] at hzone
    refine ⟨fun hdue ho ht => ?_, fun hdue => ?_⟩
    · have hclosed : due ∧ (s.zone z).isOpen = true := ⟨hdue, ho⟩
      rw [if_pos hclosed] at hzone
      exact ⟨hzone.trans (State.closedZone_targetReached ht hdue.2.1), fun k => (henergising.mp k).2 hclosed, fun k => (hwet.mp k).2 hclosed⟩
    · have hkept : ¬(due ∧ (s.zone z).isOpen = true) := fun k => hdue k.1
      rw [if_neg hkept] at hzone
      exact ⟨hzone, henergising.trans (and_iff_left hkept), hwet.trans (and_iff_left hkept)⟩
  · intro port sum hsum
    rw [show sum = s.quotaVolumeSum from hsum]
    intro due
    have hdue : s.allotmentDue = true ↔ due := s.allotmentDue_iff
    refine ⟨fun hd hm => State.testAllotment_standing port (hdue.mpr hd) hm,
      fun hd => State.testAllotment_notDue port (Bool.eq_false_iff.mpr fun k => hd (hdue.mp k)), ?_⟩
    intro hd hm u hu
    rw [State.testAllotment_reached port (hdue.mpr hd) hm] at hu
    refine ⟨State.reachAllotment_rest port hu, fun z => ⟨fun hv ho ht => ?_, fun hv => ?_⟩⟩
    · rw [hu, State.reachAllotment_zone, if_pos ⟨hv, ho⟩]
      exact State.closedZone_allotmentReached ht hv
    · rw [hu, State.reachAllotment_zone, if_neg fun k => hv k.1]

end
